-- ==== Sys2Proof/Word.lean ====
section
/-! DEFINITION. The characters and counts the part's ports carry as bits, and the pairs and quadruples of like units. -/

namespace Sys2Proof

/-- One character of a line, port or buffer (R176). -/
abbrev Byte := BitVec 8

/-- A timestamp of the axle clock, a 32-bit count of microseconds (R52). -/
abbrev Stamp := BitVec 32

/-- Four like units, numbered 0 to 3: the seat lines (R105). -/
structure Quad (α : Type) where
  q0 : α
  q1 : α
  q2 : α
  q3 : α
  deriving DecidableEq, Repr

/-- The unit of a number. -/
def Quad.get {α : Type} (q : Quad α) (i : Fin 4) : α :=
  match i with
  | 0 => q.q0
  | 1 => q.q1
  | 2 => q.q2
  | 3 => q.q3

/-- Replace the unit of a number. -/
def Quad.set {α : Type} (q : Quad α) (i : Fin 4) (x : α) : Quad α :=
  match i with
  | 0 => { q with q0 := x }
  | 1 => { q with q1 := x }
  | 2 => { q with q2 := x }
  | 3 => { q with q3 := x }

/-- The same operation on each of the four units. -/
def Quad.map {α β : Type} (f : α → β) (q : Quad α) : Quad β :=
  ⟨f q.q0, f q.q1, f q.q2, f q.q3⟩

/-- The four units in the order of their numbers. -/
def Quad.toList {α : Type} (q : Quad α) : List α :=
  [q.q0, q.q1, q.q2, q.q3]

end Sys2Proof
end

