-- ==== Sys2Proof/Syntax.lean ====
section
/-! DEFINITION. The commands: one constructor of Instr for each row of spec/opcode_table.json, with the row's operands.
A request carries the port it came in on and the fields of its payload in the order of R197. -/

namespace Sys2Proof

/-- Line port A or line port B (10, R176). -/
inductive LinePort where
  | a
  | b
  deriving DecidableEq, Repr

/-- The other line port (R30, R178 write it Q). -/
def LinePort.other : LinePort → LinePort
  | .a => .b
  | .b => .a

/-- A port that takes requests: a line port or the crew port (R181, R182). -/
inductive Port where
  | line (p : LinePort)
  | crew
  deriving DecidableEq, Repr

/-- The axle channel that changed (R43). -/
inductive AxleChannel where
  | one
  | two
  deriving DecidableEq, Repr

/-- The level of a seat line (R109, R114). -/
inductive Level where
  | recessive
  | dominant
  deriving DecidableEq, Repr

/-- A short name, three characters (R2). -/
structure ShortName where
  c0 : Byte
  c1 : Byte
  c2 : Byte
  deriving DecidableEq, Repr

/-- Platform side of a stop record, coded as in R194. -/
inductive PlatformSide where
  | none
  | left
  | right
  | both
  deriving DecidableEq, Repr

/-- A stop record as STOP RECORDS carries it (R194); platform 0 and time 0xFFFF stand for absent. -/
structure StopWire where
  code : Nat
  name : ShortName
  position : Nat
  mask : BitVec 4
  calling : Bool
  side : PlatformSide
  split : Bool
  join : Bool
  reverse : Bool
  platform : Nat
  arrival : Nat
  departure : Nat
  deriving DecidableEq, Repr

/-- A seat description as SEAT MAP carries it (R82, R197). -/
structure SeatDesc where
  number : Nat
  line : Nat
  module : Nat
  place : Nat
  accessible : Bool
  deriving DecidableEq, Repr

/-- A field of AMEND STOP: left as it is, given a new value, or removed (R13, R197). -/
inductive Amend where
  | unchanged
  | value (v : Nat)
  | absent
  deriving DecidableEq, Repr

/-- The payload of AMEND STOP (R13, R197). -/
structure AmendReq where
  code : Nat
  calling : Nat
  side : Amend
  platform : Amend
  arrival : Amend
  departure : Amend
  deriving DecidableEq, Repr

/-- The payload of SEAT LINE CONTROL (R106, R197); actions are numbered OFF 0, SETUP 1, RUN 2, KEEP 3. -/
structure LineControl where
  line : Nat
  action : Nat
  moduleCount : Option Nat
  bitRate : Option Nat
  breakBits : Option Nat
  rtFactor : Option Nat
  faultCount : Option Nat
  labelLevel : Option Nat
  deriving DecidableEq, Repr

/-- The payload of POST NOTICE (R146, R197); arm conditions are numbered AT_ONCE 0, BEFORE_STOP 1, AT_STOP 2, end conditions
ON_DEPARTURE 0, AFTER_SECONDS 1, UNTIL_CANCELLED 2, AT_ARRIVAL 3 (R142). -/
structure NoticeReq where
  priority : Nat
  text : Option Nat
  stop : Option Nat
  arm : Nat
  distance : Nat
  ends : Nat
  duration : Nat
  deriving DecidableEq, Repr

/-- The commands of spec/opcode_table.json. -/
inductive Instr where
  /-- R1. -/
  | deviceReset
  /-- R1, R43; the levels of the first sample of the axle channels. -/
  | resetRelease (ch1 ch2 : Bool)
  /-- R176; the port and the valid character. -/
  | linkUp (p : LinePort) (c : Byte)
  /-- R176, R35. -/
  | linkDown (p : LinePort)
  /-- R176. -/
  | idleCharacter (p : LinePort)
  /-- R177, R178; the characters received after the opening delimiter, as they stand on the line. -/
  | lineFrameReceived (p : LinePort) (chars : List Byte)
  /-- R180, R182. -/
  | frameSendStart (p : Port)
  /-- R180, R182. -/
  | frameSendEnd (p : Port)
  /-- R182; the characters received after the opening delimiter, as they stand on the line. -/
  | crewFrameReceived (chars : List Byte)
  /-- R181; the kind and payload of the broadcast. -/
  | broadcastTaken (p : LinePort) (kind : Byte) (payload : List Byte)
  /-- R181; a kind that is not a request kind. -/
  | badKindRequest (p : Port) (kind : Byte)
  /-- R30. -/
  | claimLead (p : Port) (generation unitId : Nat)
  /-- R32. -/
  | keepLead (p : Port)
  /-- R36. -/
  | yieldLead (p : Port)
  /-- R39. -/
  | setConsist (p : Port) (coach portion generation : Nat)
  /-- R24; A_FORWARD 0, B_FORWARD 1, UNSET 2. -/
  | setOrientation (p : Port) (orientation : Nat)
  /-- R184. -/
  | configure (p : Port) (id value : Nat)
  /-- R82. -/
  | seatMap (p : Port) (count : Nat) (seats : List SeatDesc)
  /-- R7. -/
  | beginLoad (p : Port) (count : Nat)
  /-- R8. -/
  | stopRecords (p : Port) (first : Nat) (records : List StopWire)
  /-- R9. -/
  | endLoad (p : Port)
  /-- R13. -/
  | amendStop (p : Port) (r : AmendReq)
  /-- R25. -/
  | readStop (p : Port) (index : Nat)
  /-- R88. -/
  | reserve (p : Port) (seat token boarding alighting : Nat)
  /-- R90. -/
  | cancel (p : Port) (token : Nat)
  /-- R91. -/
  | release (p : Port) (token : Nat)
  /-- R92. -/
  | setOutOfUse (p : Port) (seat : Nat) (on : Bool)
  /-- R102. -/
  | readSeat (p : Port) (seat : Nat)
  /-- R138; none stands for ALL. -/
  | reseedSeats (p : Port) (seat : Option Nat)
  /-- R106. -/
  | seatLineControl (p : Port) (r : LineControl)
  /-- R74; BALISE 0, STATION 1, ESTIMATE 2. -/
  | positionFix (p : Port) (position kind : Nat) (stop : Option Nat)
  /-- R146. -/
  | postNotice (p : Port) (r : NoticeReq)
  /-- R147. -/
  | cancelNotice (p : Port) (id : Nat)
  /-- R153. -/
  | setText (p : Port) (number : Nat) (text : List Byte)
  /-- R154. -/
  | setClock (p : Port) (minute second : Nat)
  /-- R160. -/
  | readNotices (p : Port) (first : Nat) (text : Option Nat)
  /-- R191. -/
  | readStatus (p : Port) (part : Nat)
  /-- R188. -/
  | fetchReport (p : Port)
  /-- R190; bit n - 1 marks the condition of priority n. -/
  | ackConditions (p : Port) (marks : Byte)
  /-- R189; bit n - 1 enables the condition of priority n. -/
  | setAttentionMask (p : Port) (enables : Byte)
  /-- R185. -/
  | restartCoach (p : Port)
  /-- R34. -/
  | leaseExpiry
  /-- R43, R46; the channel that changed and the axle clock at the sample. -/
  | axleEdge (channel : AxleChannel) (stamp : Stamp)
  /-- R44. -/
  | illegalTransition
  /-- R54. -/
  | windowClose
  /-- R115. -/
  | seatFrameStart (line : Fin 4)
  /-- R123; the counts of the two places and the check character received. -/
  | pollResponse (line : Fin 4) (count0 count1 : BitVec 16) (check : Byte)
  /-- R122; the module kind, the place count and the check character received. -/
  | identResponse (line : Fin 4) (kind places check : Byte)
  /-- R120. -/
  | showSent (line : Fin 4)
  /-- R120. -/
  | levelSent (line : Fin 4)
  /-- R110. -/
  | namesSent (line : Fin 4)
  /-- R113; the number of characters that have arrived. -/
  | responseTimeout (line : Fin 4) (arrived : Nat)
  /-- R113. -/
  | framing (line : Fin 4)
  /-- R112. -/
  | echoMismatch (line : Fin 4)
  /-- R114. -/
  | lineStuck (line : Fin 4)
  /-- R114. -/
  | stuckRelease (line : Fin 4)
  /-- R152. -/
  | showMinExpiry
  /-- R150; the id of the entry that runs out. -/
  | afterSecondsExpiry (id : Nat)
  /-- R159. -/
  | chimeEnd
  /-- R154. -/
  | clockSecond
  /-- R156. -/
  | pageStart
  /-- R156. -/
  | pageEnd
  /-- R156. -/
  | pageRefresh
  /-- R170. -/
  | stepTimerExpiry
  /-- R169. -/
  | driveFrameBoundary
  /-- R176, R177. -/
  | validCharacter (p : LinePort) (c : Byte)
  /-- R176, R177. -/
  | invalidCharacter (p : Port)
  /-- R114. -/
  | seatLineLevelChange (line : Fin 4) (level : Level)
  deriving DecidableEq, Repr

end Sys2Proof
end

