-- ==== Sys2Proof/WellFormed.lean ====
section
/-! DEFINITION. Which commands are well formed: every operand fits the characters that carry it on the wire (R193, R194, R197), and a
kind or count is one its command can have. -/

namespace Sys2Proof

/-- A value that one character holds. -/
def fits1 (n : Nat) : Bool := n < 256

/-- A value that two characters hold. -/
def fits2 (n : Nat) : Bool := n < 65536

/-- A value that four characters hold. -/
def fits4 (n : Nat) : Bool := n < 4294967296

/-- An optional field (R197). -/
def fitsOpt (fits : Nat → Bool) (v : Option Nat) : Bool := v.all fits

/-- A field of AMEND STOP. -/
def Amend.wf (fits : Nat → Bool) : Amend → Bool
  | .value v => fits v
  | _ => true

/-- A stop record of 16 characters (R194). -/
def StopWire.wf (r : StopWire) : Bool :=
  fits2 r.code && fits4 r.position && fits1 r.platform && fits2 r.arrival && fits2 r.departure

/-- A seat description of two characters (R197). -/
def SeatDesc.wf (d : SeatDesc) : Bool :=
  fits1 d.number && d.line < 4 && d.module < 16 && d.place < 2

/-- Kinds 0x01 to 0x1E are the request kinds (R183). -/
def requestKind (kind : Byte) : Bool := 1 ≤ kind.toNat && kind.toNat ≤ 30

/-- The check of one command. -/
def Instr.wf : Instr → Bool
  | .badKindRequest _ kind => !requestKind kind && kind.toNat < 128
  | .broadcastTaken _ kind payload => kind.toNat < 128 && payload.length ≤ 240
  | .claimLead _ g u => fits2 g && fits1 u
  | .setConsist _ n p g => fits1 n && fits1 p && fits2 g
  | .setOrientation _ o => fits1 o
  | .configure _ id v => fits1 id && fits4 v
  | .seatMap _ n ds => fits1 n && ds.all SeatDesc.wf
  | .beginLoad _ n => fits1 n
  | .stopRecords _ f rs => fits1 f && rs.all StopWire.wf && rs.length ≤ 14
  | .amendStop _ r =>
    fits2 r.code && fits1 r.calling && r.side.wf fits1 && r.platform.wf fits1 && r.arrival.wf fits2 && r.departure.wf fits2
  | .readStop _ i => fits1 i
  | .reserve _ s t b a => fits1 s && fits4 t && fits2 b && fits2 a
  | .cancel _ t => fits4 t
  | .release _ t => fits4 t
  | .setOutOfUse _ s _ => fits1 s
  | .readSeat _ s => fits1 s
  | .reseedSeats _ s => fitsOpt (fun n => 1 ≤ n && n < 256) s
  | .seatLineControl _ r =>
    fits1 r.line && fits1 r.action && fitsOpt fits1 r.moduleCount && fitsOpt fits2 r.bitRate && fitsOpt fits1 r.breakBits
      && fitsOpt fits1 r.rtFactor && fitsOpt fits1 r.faultCount && fitsOpt fits1 r.labelLevel
  | .positionFix _ m k c => fits4 m && fits1 k && fitsOpt fits2 c
  | .postNotice _ r =>
    fits1 r.priority && fitsOpt fits1 r.text && fitsOpt fits2 r.stop && fits1 r.arm && fits2 r.distance && fits1 r.ends && fits2 r.duration
  | .cancelNotice _ id => fits1 id
  | .setText _ n t => fits1 n && t.length ≤ 238
  | .setClock _ m s => fits2 m && fits1 s
  | .readNotices _ f t => fits1 f && fitsOpt fits1 t
  | .readStatus _ n => fits1 n
  | .afterSecondsExpiry id => fits1 id
  | .responseTimeout _ k => k ≤ 4
  | _ => true

end Sys2Proof
end

