-- ==== Sys2Proof/Decode.lean ====
section
/-! DEFINITION. Reading commands from bits: the table of this part gives its rows no bits, so no word of it spells a command; a request
frame spells one by its kind and payload (R183, R194, R197). -/

namespace Sys2Proof

/-- The command a word spells by the table's bits: the table gives none. -/
def decodeTableWord (_nbits _w : Nat) : Option Instr := none

/-- The number that characters carry, low character first (R197). -/
def leNat : List Byte → Nat
  | [] => 0
  | c :: cs => c.toNat + 256 * leNat cs

/-- What a request frame spells. -/
inductive Decoded where
  /-- A request of the catalogue whose payload fits its layout. -/
  | cmd (i : Instr)
  /-- A kind that the catalogue does not have (R181). -/
  | badKind
  /-- A payload that does not fit the layout of its kind (R181). -/
  | badLayout
  deriving DecidableEq, Repr

/-- An optional field: its presence character, then its value, read only when the field is given (R197). -/
def readOptional (presence : Byte) (value : Nat) : Option (Option Nat) :=
  match presence.toNat with
  | 0 => some none
  | 1 => some (some value)
  | _ => none

/-- A field of AMEND STOP: its mode character, then its value (R197). -/
def readAmend (mode : Byte) (value : Nat) : Option Amend :=
  match mode.toNat with
  | 0 => some .unchanged
  | 1 => some (.value value)
  | 2 => some .absent
  | _ => none

/-- Bits 1 and 2 of character 10 of a stop record (R194). -/
def readSide (n : Nat) : PlatformSide :=
  match n % 4 with
  | 1 => .left
  | 2 => .right
  | 3 => .both
  | _ => .none

/-- The 16 characters of a stop record (R194). -/
def readStopWire : List Byte → Option StopWire
  | [k0, k1, n0, n1, n2, p0, p1, p2, p3, m, f, plat, a0, a1, d0, d1] =>
    some {
      code := leNat [k0, k1], name := ⟨n0, n1, n2⟩, position := leNat [p0, p1, p2, p3], mask := m.setWidth 4
      calling := f.getLsbD 0, side := readSide (f.toNat / 2), split := f.getLsbD 3, join := f.getLsbD 4, reverse := f.getLsbD 5
      platform := plat.toNat, arrival := leNat [a0, a1], departure := leNat [d0, d1] }
  | _ => none

/-- A given number of stop records and nothing after them (R194). -/
def readStopWires : Nat → List Byte → Option (List StopWire)
  | 0, [] => some []
  | 0, _ => none
  | n + 1, cs =>
    match readStopWire (cs.take 16), readStopWires n (cs.drop 16) with
    | some r, some rs => some (r :: rs)
    | _, _ => none

/-- Seat descriptions of two characters each (R197). -/
def readSeatDescs : List Byte → Option (List SeatDesc)
  | [] => some []
  | [_] => none
  | n :: f :: cs =>
    (readSeatDescs cs).map fun ds =>
      { number := n.toNat, line := f.toNat % 4, module := f.toNat / 4 % 16, place := f.toNat / 64 % 2, accessible := f.getLsbD 7 } :: ds

/-- The payload of AMEND STOP (R197). -/
def readAmendReq : List Byte → Option AmendReq
  | [k0, k1, c, ms, s, mp, p, ma, a0, a1, md, d0, d1] =>
    match readAmend ms s.toNat, readAmend mp p.toNat, readAmend ma (leNat [a0, a1]), readAmend md (leNat [d0, d1]) with
    | some side, some platform, some arrival, some departure =>
      some { code := leNat [k0, k1], calling := c.toNat, side, platform, arrival, departure }
    | _, _, _, _ => none
  | _ => none

/-- The payload of SEAT LINE CONTROL (R197). -/
def readLineControl : List Byte → Option LineControl
  | [line, action, qm, m, qb, b0, b1, qk, k, qr, r, qf, f, ql, l] =>
    match readOptional qm m.toNat, readOptional qb (leNat [b0, b1]), readOptional qk k.toNat, readOptional qr r.toNat,
      readOptional qf f.toNat, readOptional ql l.toNat with
    | some moduleCount, some bitRate, some breakBits, some rtFactor, some faultCount, some labelLevel =>
      some { line := line.toNat, action := action.toNat, moduleCount, bitRate, breakBits, rtFactor, faultCount, labelLevel }
    | _, _, _, _, _, _ => none
  | _ => none

/-- The payload of POST NOTICE (R197). -/
def readNoticeReq : List Byte → Option NoticeReq
  | [priority, qt, t, qs, s0, s1, arm, d0, d1, ends, u0, u1] =>
    match readOptional qt t.toNat, readOptional qs (leNat [s0, s1]) with
    | some text, some stop =>
      some { priority := priority.toNat, text, stop, arm := arm.toNat, distance := leNat [d0, d1], ends := ends.toNat, duration := leNat [u0, u1] }
    | _, _ => none
  | _ => none

/-- The request of a kind of the catalogue whose payload fits its layout: none where it does not fit (R183, R197). -/
def readRequest (p : Port) (kind : Nat) (payload : List Byte) : Option Instr :=
  match kind with
  | 1 => match payload with
    | [g0, g1, u] => some (.claimLead p (leNat [g0, g1]) u.toNat)
    | _ => none
  | 2 => if payload = [] then some (.keepLead p) else none
  | 3 => if payload = [] then some (.yieldLead p) else none
  | 4 => match payload with
    | [n, q, g0, g1] => some (.setConsist p n.toNat q.toNat (leNat [g0, g1]))
    | _ => none
  | 5 => match payload with
    | [o] => some (.setOrientation p o.toNat)
    | _ => none
  | 6 => match payload with
    | [id, v0, v1, v2, v3] => some (.configure p id.toNat (leNat [v0, v1, v2, v3]))
    | _ => none
  | 7 => match payload with
    | n :: cs => (readSeatDescs cs).map (.seatMap p n.toNat)
    | [] => none
  | 8 => match payload with
    | [n] => some (.beginLoad p n.toNat)
    | _ => none
  | 9 => match payload with
    | f :: n :: cs => (readStopWires n.toNat cs).map (.stopRecords p f.toNat)
    | _ => none
  | 10 => if payload = [] then some (.endLoad p) else none
  | 11 => (readAmendReq payload).map (.amendStop p)
  | 12 => match payload with
    | [i] => some (.readStop p i.toNat)
    | _ => none
  | 13 => match payload with
    | [s, t0, t1, t2, t3, b0, b1, a0, a1] => some (.reserve p s.toNat (leNat [t0, t1, t2, t3]) (leNat [b0, b1]) (leNat [a0, a1]))
    | _ => none
  | 14 => match payload with
    | [t0, t1, t2, t3] => some (.cancel p (leNat [t0, t1, t2, t3]))
    | _ => none
  | 15 => match payload with
    | [t0, t1, t2, t3] => some (.release p (leNat [t0, t1, t2, t3]))
    | _ => none
  | 16 => match payload with
    | [s, f] => if f = 0 then some (.setOutOfUse p s.toNat false) else if f = 1 then some (.setOutOfUse p s.toNat true) else none
    | _ => none
  | 17 => match payload with
    | [s] => some (.readSeat p s.toNat)
    | _ => none
  | 18 => match payload with
    | [s] => some (.reseedSeats p (if s = 0 then none else some s.toNat))
    | _ => none
  | 19 => (readLineControl payload).map (.seatLineControl p)
  | 20 => match payload with
    | [m0, m1, m2, m3, k, q, c0, c1] => (readOptional q (leNat [c0, c1])).map (.positionFix p (leNat [m0, m1, m2, m3]) k.toNat)
    | _ => none
  | 21 => (readNoticeReq payload).map (.postNotice p)
  | 22 => match payload with
    | [id] => some (.cancelNotice p id.toNat)
    | _ => none
  | 23 => match payload with
    | n :: len :: t => if t.length = len.toNat then some (.setText p n.toNat t) else none
    | _ => none
  | 24 => match payload with
    | [m0, m1, s] => some (.setClock p (leNat [m0, m1]) s.toNat)
    | _ => none
  | 25 => match payload with
    | [f, q, t] => (readOptional q t.toNat).map (.readNotices p f.toNat)
    | _ => none
  | 26 => match payload with
    | [n] => some (.readStatus p n.toNat)
    | _ => none
  | 27 => if payload = [] then some (.fetchReport p) else none
  | 28 => match payload with
    | [m] => some (.ackConditions p m)
    | _ => none
  | 29 => match payload with
    | [m] => some (.setAttentionMask p m)
    | _ => none
  | 30 => if payload = [] then some (.restartCoach p) else none
  | _ => none

/-- What a directed request spells (R181): its kind is judged before its layout. -/
def decodeRequest (p : Port) (kind : Byte) (payload : List Byte) : Decoded :=
  if requestKind kind then
    match readRequest p kind.toNat payload with
    | some i => .cmd i
    | none => .badLayout
  else .badKind

end Sys2Proof
end

