-- ==== Sys2Proof/Config.lean ====
section
/-! DEFINITION. What the part fixes for good, and the two values the manual leaves free. Times are counted in periods of the 24 MHz crystal (R52). -/

namespace Sys2Proof.Config

/-- FREE VALUE. Which of several events that fall due at the same moment is taken first. R34, R37, R77, R103, R125, R140, R161 and R169
give the outcome of either order and fix none (log entry 2). It is read at the count of the choices made before. -/
opaque dueChoice : Nat → Nat

/-- FREE VALUE. The clock second of a page while the clock is INVALID: R196 gives the clock minute of such a page and no second (log
entry 36). -/
opaque secondOfInvalidClock : Byte

/-- Crystal periods in a microsecond (R52: 24 MHz). -/
def perMicrosecond : Nat := 24

/-- Crystal periods in a millisecond. -/
def perMillisecond : Nat := 24000

/-- Crystal periods in a second. -/
def perSecond : Nat := 24000000

/-- One bit time of a line port at 1 Mbit/s (R176). -/
def lineBit : Nat := 24

/-- The crystal's frequency, from which the crew port's 57,600 bit/s is taken (R182). -/
def crystalHz : Nat := 24000000

/-- One bit time of the panel line at 19,200 bit/s (R196). -/
def panelBit : Nat := 1250

/-- The silence after which a link goes DOWN (R176). -/
def silence : Nat := 200 * perMillisecond

/-- The pause after which a port sends an idle character (R176). -/
def idlePause : Nat := 20 * perMillisecond

/-- The idle character (R176). -/
def idleChar : Byte := 0x55#8

/-- The speed window (R54). -/
def speedWindow : Nat := 100 * perMillisecond

/-- The recessive time that releases a STUCK line (R114). -/
def stuckRelease : Nat := 100 * perMillisecond

/-- The chime pulse (R159). -/
def chimePulse : Nat := 300 * perMillisecond

/-- The page refresh (R156). -/
def pageRefresh : Nat := 10 * perSecond

/-- The drive frame (R166). -/
def driveFrame : Nat := 5 * perMillisecond

/-- Units of 1/65536 mm in a millimetre (R62). -/
def perMillimetre : Nat := 65536

/-- Units of 1/65536 mm in a metre. -/
def perMetre : Nat := 65536000

/-- The highest route position in metres (R62). -/
def routeTop : Nat := 4000000

/-- SLIDE_FLOOR in mm/s (R64). -/
def slideFloor : Nat := 2000

/-- The highest speed in mm/s (R55). -/
def speedTop : Nat := 100000

end Sys2Proof.Config
end

