-- ==== Sys2Proof/Machine/State.lean ====
section
/-! DEFINITION. The state of the part, block by block, as plain data, and its value after device reset. -/

namespace Sys2Proof.Machine

/-- The spec names no condition in which the part stops, so there is no fault: nothing raises one. -/
inductive Fault where
  deriving DecidableEq, Repr

/-- Why a command has no meaning. -/
inductive Refusal where
  /-- The command has no meaning in this model yet; raised by exec's arm of that command alone. Safe: the run stops. -/
  | notModelled (mnemonic : String)
  deriving DecidableEq, Repr

/-! ## Parameters (R184) -/

/-- The parameters of CONFIGURE, each with its default (R184). -/
structure Params where
  platformWin : Nat := 150
  leadLease : Nat := 3000
  revEdges : Nat := 16
  wheelCirc : Nat := 2900
  axlePpr : Nat := 100
  stillWindows : Nat := 10
  slideLimit : Nat := 300
  agreeTol : Nat := 200
  coastFriction : Nat := 400
  coastDamping : Nat := 800
  coastInertia : Nat := 16
  coastLimit : Nat := 100
  fixTol : Nat := 50
  releaseM : Nat := 3000
  beta : Nat := 3
  ltaShift : Nat := 8
  occThreshold : Nat := 120
  hyst : Nat := 64
  debIn : Nat := 3
  debOut : Nat := 5
  approachM : Nat := 2500
  arriveM : Nat := 400
  showMin : Nat := 4
  trackDots : Nat := 2
  dimDuty : Nat := 40
  stepInterval : Nat := 80
  jumpLimit : Nat := 6
  stepDiscard : Bool := false
  deriving DecidableEq, Repr

/-! ## Journey unit (chapter 1) -/

/-- Stop status (R2, R5). -/
inductive StopStatus where
  | ahead
  | current
  | departed
  | passed
  | runThrough
  deriving DecidableEq, Repr

/-- A stop record (R2). -/
structure StopRec where
  code : Nat
  name : ShortName
  position : Nat
  mask : BitVec 4
  calling : Bool
  side : PlatformSide
  platform : Option Nat
  arrival : Option Nat
  departure : Option Nat
  split : Bool
  join : Bool
  reverse : Bool
  status : StopStatus
  deriving DecidableEq, Repr

/-- The four phases (R15). -/
inductive Phase where
  | empty
  | staged
  | inService
  | terminated
  deriving DecidableEq, Repr

/-- Orientation (R23). -/
inductive Orientation where
  | aForward
  | bForward
  | unset
  deriving DecidableEq, Repr

/-- The journey unit (R4, R6, R15, R16, R23). A staging index that holds a record carries its written mark. -/
structure Journey where
  phase : Phase := .empty
  list : List StopRec := []
  staging : List (Option StopRec) := []
  lastDeparted : Option Nat := none
  atStop : Option Nat := none
  nextCalling : Option Nat := none
  departurePoint : Option Nat := none
  orientation : Orientation := .unset
  deriving DecidableEq, Repr

/-! ## Axle unit (chapter 3) -/

/-- Direction of an edge (R43). -/
inductive EdgeDir where
  | towardA
  | towardB
  deriving DecidableEq, Repr

/-- How the speed of a window was measured (R54). -/
inductive Method where
  | count
  | period
  | zero
  | none
  deriving DecidableEq, Repr

/-- The window record (R54). -/
structure WindowRecord where
  method : Method
  speed : Option Nat
  edges : Nat
  still : Bool
  deriving DecidableEq, Repr

/-- The axle unit (R43 to R58). The rules give no still field for the last record after reset: it is YES, as of a still coach (DESIGN
CHOICE, log entry 39). -/
structure Axle where
  pair : Option (Bool × Bool) := Option.none
  fault : Bool := false
  illegal : Nat := 0
  edges : Nat := 0
  faulted : Bool := false
  confirmed : Option EdgeDir := Option.none
  held : List Stamp := []
  runDir : Option EdgeDir := Option.none
  odometer : Int := 0
  fifo : List Stamp := []
  overrun : Bool := false
  windowAt : Option Nat := Option.none
  last : WindowRecord := { method := .zero, speed := some 0, edges := 0, still := true }
  stillCount : Nat := 10
  deriving DecidableEq, Repr

/-! ## Position unit (chapter 4) -/

/-- What a coast holds (R66 to R72). -/
structure Coast where
  speed : Nat
  forward : Bool
  agree : Nat
  windows : Nat
  limit : Bool
  deriving DecidableEq, Repr

/-- The motion state, with the coast while COASTING (R63). -/
inductive Motion where
  | standstill
  | moving
  | coasting (c : Coast)
  deriving DecidableEq, Repr

/-- The fix state (R73). -/
inductive FixState where
  | unfixed
  | fixed
  | degraded
  deriving DecidableEq, Repr

/-- The position unit (R62 to R76). -/
structure Position where
  estimate : Nat := 0
  contribution : Int := 0
  motion : Motion := .standstill
  accepted : Nat := 0
  fix : FixState := .unfixed
  lastForward : Option Bool := none
  deriving DecidableEq, Repr

/-! ## Reservation unit (chapter 5) -/

/-- State of a reservation entry (R83). -/
inductive EntryState where
  | booked
  | claimed
  | released
  deriving DecidableEq, Repr

/-- Claim window state (R94). -/
inductive ClaimWindow where
  | pending
  | opened
  | deferred
  | spent
  deriving DecidableEq, Repr

/-- A reservation entry attached to a seat (R83). -/
structure Entry where
  token : Nat
  boarding : Nat
  alighting : Nat
  state : EntryState
  unverified : Bool
  effBoarding : Nat
  effAlighting : Nat
  window : ClaimWindow
  anchor : Option (Nat × Nat)
  anchorLeft : Bool
  deriving DecidableEq, Repr

/-- Displayed state of a seat (R81, R100). -/
inductive Displayed where
  | noInfo
  | outOfUse
  | reserved
  | ending
  | freeUntil
  | releasedFree
  | free
  deriving DecidableEq, Repr

/-- Display content: a displayed state and 0 to 2 stops, each an index and its short name (R101). -/
structure Content where
  shown : Displayed
  stops : List (Nat × ShortName)
  deriving DecidableEq, Repr

/-- What a place without a seat shows (R101). -/
def Content.noInfo : Content := { shown := .noInfo, stops := [] }

/-- A seat record (R81). The content holds the displayed state. -/
structure Seat where
  number : Nat
  line : Fin 4
  module : Fin 16
  place : Fin 2
  accessible : Bool
  outOfUse : Bool
  entries : List Entry
  content : Content
  deriving DecidableEq, Repr

/-! ## Occupancy unit (chapter 7) -/

/-- Place states (R128). -/
inductive PlaceState where
  | unknown
  | settling
  | vacant
  | entering
  | occupied
  | leaving
  deriving DecidableEq, Repr

/-- A sensor record (R127); f and b in 1/256 count. -/
structure Sensor where
  state : PlaceState := .unknown
  seeded : Bool := false
  filtered : Option Nat := none
  baseline : Option Nat := none
  debounce : Nat := 0
  settle : Nat := 0
  deriving DecidableEq, Repr

/-- A place of a module of a seat line (R127). -/
structure PlaceId where
  line : Fin 4
  module : Fin 16
  place : Fin 2
  deriving DecidableEq, Repr

/-! ## Seat-line controllers (chapter 6) -/

/-- Bit rate of a seat line (R105). -/
inductive BitRate where
  | b9600
  | b19200
  deriving DecidableEq, Repr

/-- Seat-line commands (R110). -/
inductive SeatCmd where
  | poll
  | showContent
  | level
  | ident
  | names
  deriving DecidableEq, Repr

/-- A frame in progress: its command, module, data characters, block of a NAMES frame, the start of its break (R109, R110), and the moments
at which the characters of the module's answer have begun on the line (R113; log entry 20). -/
structure SeatFrame where
  cmd : SeatCmd
  module : Fin 16
  block : Nat
  data : List Byte
  start : Nat
  begun : List Nat := []
  deriving DecidableEq, Repr

/-- Line state; the running states BREAK to CHECK are those of the frame in progress (R105). -/
inductive LineActivity where
  | off
  | setup
  | idle
  | frame (f : SeatFrame)
  | stuck
  deriving DecidableEq, Repr

/-- Module health (R119). -/
inductive Health where
  | unused
  | waking
  | healthy
  | faulty
  deriving DecidableEq, Repr

/-- Error of a failed transfer (R119). -/
inductive LineError where
  | none
  | noResponse
  | shortResponse
  | checkMismatch
  | framing
  | echoMismatch
  | lineStuck
  deriving DecidableEq, Repr

/-- A module record (R119). -/
structure Module where
  health : Health := .unused
  failures : Nat := 0
  kind : Option Byte := Option.none
  places : Option Nat := Option.none
  identPending : Bool := false
  levelPending : Bool := false
  lastError : LineError := .none
  deriving DecidableEq, Repr

/-- A seat-line controller (R105, R115 to R119). -/
structure SeatLine where
  activity : LineActivity := .off
  moduleCount : Nat := 0
  bitRate : BitRate := .b9600
  breakBits : Nat := 14
  rtFactor : Nat := 14
  faultCount : Nat := 3
  labelLevel : Nat := 160
  round : Nat := 0
  serviceNext : Bool := false
  showQueue : List (Fin 16) := []
  stale : BitVec 16 := 0
  dominantSince : Option Nat := Option.none
  recessiveSince : Nat := 0
  modules : List Module := List.replicate 16 {}
  deriving DecidableEq, Repr

/-! ## Notice unit (chapter 8) -/

/-- Kinds of notice (R142). -/
inductive NoticeKind where
  | nextStop
  | arriving
  | splitAdvice
  | terminus
  | lineText
  | crewText
  deriving DecidableEq, Repr

/-- Who made a notice (R142). -/
inductive NoticeSource where
  | auto
  | lead
  | crew
  deriving DecidableEq, Repr

/-- Arm condition (R142, R149). -/
inductive ArmCondition where
  | atOnce
  | beforeStop (distance : Nat)
  | atStop
  deriving DecidableEq, Repr

/-- End condition (R142, R150). -/
inductive EndCondition where
  | onDeparture
  | afterSeconds (n : Nat)
  | untilCancelled
  | atArrival
  deriving DecidableEq, Repr

/-- Notice states; an ENDED entry has left the queue (R142, R143). -/
inductive NoticeState where
  | waiting
  | armed
  | shown
  | ended
  deriving DecidableEq, Repr

/-- A notice; times in ms of notice time (R142). -/
structure Notice where
  id : Nat
  kind : NoticeKind
  source : NoticeSource
  priority : Nat
  stop : Option Nat
  text : Option Nat
  arm : ArmCondition
  ends : EndCondition
  state : NoticeState
  armedAt : Option Nat
  lastShown : Option Nat
  firstShown : Option Nat
  deriving DecidableEq, Repr

/-- Door side (R155, R157). -/
inductive DoorSide where
  | none
  | side1
  | side2
  | both
  deriving DecidableEq, Repr

/-- The coach clock (R154). -/
structure Clock where
  minute : Nat
  second : Nat
  deriving DecidableEq, Repr

/-- The fields of a page other than the clock, and the SHOWN entry they are formed from (R155). -/
structure PageFields where
  shown : Option Nat := Option.none
  template : Option NoticeKind := Option.none
  stopName : Option ShortName := Option.none
  platform : Option Nat := Option.none
  arrival : Option Nat := Option.none
  door : DoorSide := .none
  textNumber : Option Nat := Option.none
  text : List Byte := []
  destination : Option ShortName := Option.none
  coach : Nat := 0
  deriving DecidableEq, Repr

/-- A page on the panel line: its characters and the end of the last (R156, R196). -/
structure PageSending where
  chars : List Byte
  endsAt : Nat
  deriving DecidableEq, Repr

/-- The notice unit (R142 to R159). -/
structure NoticeUnit where
  queue : List Notice := []
  nextId : Nat := 0
  hold : Option Nat := Option.none
  texts : List (List Byte) := List.replicate 32 []
  clock : Option Clock := Option.none
  secondAt : Option Nat := Option.none
  door1 : Bool := false
  door2 : Bool := false
  chimeUntil : Option Nat := Option.none
  fields : PageFields := {}
  pageDue : Bool := true
  sending : Option PageSending := Option.none
  refreshAt : Option Nat := Option.none
  deriving DecidableEq, Repr

/-! ## Map unit (chapter 9) -/

/-- Role of a logical dot (R163). -/
inductive DotRole where
  | stop (index : Nat)
  | track
  | unused
  deriving DecidableEq, Repr

/-- Dot modes (R166). -/
inductive DotMode where
  | forcedOff
  | forcedOn
  | duty (d : Nat)
  | dutyInv (d : Nat)
  | blink
  deriving DecidableEq, Repr

/-- The map unit (R163 to R172). -/
structure MapUnit where
  layout : List DotRole := List.replicate 48 .unused
  base : Option Nat := none
  count : Nat := 0
  target : Nat := 0
  marker : Nat := 0
  stepAt : Option Nat := none
  shadow : List DotMode := List.replicate 48 .forcedOff
  active : List DotMode := List.replicate 48 .forcedOff
  driven : List DotMode := List.replicate 48 .forcedOff
  frameNumber : Nat := 0
  frameAt : Option Nat := none
  deriving DecidableEq, Repr

/-! ## Report unit (chapter 10) -/

/-- Report kinds (R186). -/
inductive ReportKind where
  | arrived
  | departed
  | stopPassed
  | seatClaimed
  | seatReleased
  | reservationAffected
  | reservationDropped
  | moduleFault
  | moduleRecovered
  | coastBegin
  | coastEnd
  | fixJump
  | noticeEnded
  deriving DecidableEq, Repr

/-- Report notes (R186). -/
inductive ReportNote where
  | none
  | void
  | fault
  | agreed
  | zero
  deriving DecidableEq, Repr

/-- A report record (R186). -/
structure Report where
  kind : ReportKind
  stop : Option Nat := Option.none
  seat : Option Nat := Option.none
  token : Option Nat := Option.none
  position : Nat
  note : ReportNote := .none
  value : Option Int := Option.none
  deriving DecidableEq, Repr

/-- One flag or enable for each of the six conditions, in priority order (R189). -/
structure Conditions where
  restarted : Bool
  leadLost : Bool
  leadChanged : Bool
  positionDegraded : Bool
  seatLineFault : Bool
  reportOverrun : Bool
  deriving DecidableEq, Repr

/-- What the report unit holds for one line port (R187, R189, R192). -/
structure PortReports where
  queue : List Report := []
  flags : Conditions := ⟨true, false, false, false, false, false⟩
  mask : Conditions := ⟨true, true, true, true, true, true⟩
  deriving DecidableEq, Repr

/-! ## The coach side, the ports and the whole part -/

/-- The blocks of the coach side and the report unit they raise into. -/
structure Coach where
  journey : Journey := {}
  axle : Axle := {}
  position : Position := {}
  seats : List Seat := []
  sensors : List Sensor := List.replicate 128 {}
  lines : Quad SeatLine := ⟨{}, {}, {}, {}⟩
  notices : NoticeUnit := {}
  map : MapUnit := {}
  reportsA : PortReports := {}
  reportsB : PortReports := {}
  deriving DecidableEq, Repr

/-- A frame of a line port or, with hop 0, of the crew port (R177, R193). -/
structure Frame where
  hop : Byte
  kind : Byte
  payload : List Byte
  deriving DecidableEq, Repr

/-- A frame being received: its characters so far, unescaped, and whether an escape is open (R177). -/
structure Receiving where
  chars : List Byte := []
  escape : Bool := false
  deriving DecidableEq, Repr

/-- A request in a request buffer (R181). -/
structure Waiting where
  broadcast : Bool
  kind : Byte
  payload : List Byte
  deriving DecidableEq, Repr

/-- A frame in a transmitter and the end of its last character (R180). -/
structure Sending where
  frame : Frame
  endsAt : Nat
  deriving DecidableEq, Repr

/-- A line port (R176 to R181). The silence timer runs while the link is UP. `lastEnd` and `lastSent` are the end and the value of the last
character sent (R176); no character has been sent after device reset (DESIGN CHOICE, log entry 48). -/
structure PortState where
  linkUp : Bool := false
  silenceAt : Nat := 0
  rx : Option Receiving := none
  forward : List Frame := []
  requests : List Waiting := []
  responses : List Frame := []
  sending : Option Sending := none
  lastEnd : Nat := 0
  lastForward : Bool := true
  lastSent : Option Byte := none
  deriving DecidableEq, Repr

/-- The crew port (R182). -/
structure CrewState where
  rx : Option Receiving := none
  requests : List Waiting := []
  responses : List Frame := []
  sending : Option Sending := none
  deriving DecidableEq, Repr

/-- The consist record and the staging owner (R27). The lease is held as the moment it ends. -/
structure Consist where
  generation : Nat := 0
  coachNumber : Nat := 0
  portion : Fin 4 := 0
  lead : Option LinePort := none
  leadUnit : Nat := 0
  lease : Option Nat := none
  stagingOwner : Option LinePort := none
  deriving DecidableEq, Repr

/-- The state of the part. `pending` and `choices` are the model's own; `levels` are inputs (log entries 2, 6 and 19). -/
structure State where
  pending : List Instr
  choices : Nat
  inReset : Bool
  now : Nat
  levels : Quad Level
  params : Params
  portA : PortState
  portB : PortState
  crew : CrewState
  consist : Consist
  coach : Coach
  deriving DecidableEq, Repr

/-- The part right after device reset, RESET still low (R1, R26, R42, R61, R80, R104, R126, R141, R162, R175, R192). -/
def State.reset : State where
  pending := []
  choices := 0
  inReset := true
  now := 0
  levels := ⟨.recessive, .recessive, .recessive, .recessive⟩
  params := {}
  portA := {}
  portB := {}
  crew := {}
  consist := {}
  coach := {}

end Sys2Proof.Machine
end

