-- ==== Sys2Proof/Machine/Flags.lean ====
section
/-! DEFINITION. The six condition flags of a line port, their enables and the attention outputs (R189, R190, R197). -/

namespace Sys2Proof.Machine

/-- The conditions in priority order (R189). -/
inductive Condition where
  | restarted
  | leadLost
  | leadChanged
  | positionDegraded
  | seatLineFault
  | reportOverrun
  deriving DecidableEq, Repr

/-- One flag of a set. -/
def Conditions.get (f : Conditions) : Condition → Bool
  | .restarted => f.restarted
  | .leadLost => f.leadLost
  | .leadChanged => f.leadChanged
  | .positionDegraded => f.positionDegraded
  | .seatLineFault => f.seatLineFault
  | .reportOverrun => f.reportOverrun

/-- Set or clear one flag of a set. -/
def Conditions.put (f : Conditions) (k : Condition) (v : Bool) : Conditions :=
  match k with
  | .restarted => { f with restarted := v }
  | .leadLost => { f with leadLost := v }
  | .leadChanged => { f with leadChanged := v }
  | .positionDegraded => { f with positionDegraded := v }
  | .seatLineFault => { f with seatLineFault := v }
  | .reportOverrun => { f with reportOverrun := v }

/-- The set that a character carries, bit n - 1 for the condition of priority n; bits 6 and 7 are not read (R197). -/
def Conditions.ofByte (b : Byte) : Conditions :=
  ⟨b.getLsbD 0, b.getLsbD 1, b.getLsbD 2, b.getLsbD 3, b.getLsbD 4, b.getLsbD 5⟩

/-- The character of a set (R197). -/
def Conditions.toByte (f : Conditions) : Byte :=
  BitVec.ofNat 8 (f.restarted.toNat + 2 * f.leadLost.toNat + 4 * f.leadChanged.toNat + 8 * f.positionDegraded.toNat
    + 16 * f.seatLineFault.toNat + 32 * f.reportOverrun.toNat)

/-- The flags that are left when the marked ones are cleared (R190). -/
def Conditions.clear (f marks : Conditions) : Conditions :=
  ⟨f.restarted && !marks.restarted, f.leadLost && !marks.leadLost, f.leadChanged && !marks.leadChanged,
    f.positionDegraded && !marks.positionDegraded, f.seatLineFault && !marks.seatLineFault, f.reportOverrun && !marks.reportOverrun⟩

/-- The flags whose enable is on. -/
def Conditions.enabled (f mask : Conditions) : Conditions :=
  ⟨f.restarted && mask.restarted, f.leadLost && mask.leadLost, f.leadChanged && mask.leadChanged,
    f.positionDegraded && mask.positionDegraded, f.seatLineFault && mask.seatLineFault, f.reportOverrun && mask.reportOverrun⟩

/-- The priority of the highest flag that is set, or 0 (R189, R197). -/
def Conditions.top (f : Conditions) : Nat :=
  if f.restarted then 1 else if f.leadLost then 2 else if f.leadChanged then 3 else if f.positionDegraded then 4
  else if f.seatLineFault then 5 else if f.reportOverrun then 6 else 0

/-- Some flag of the set is set. -/
def Conditions.any (f : Conditions) : Bool := f.top != 0

/-- The attention output of a port (R189). -/
def PortReports.attention (r : PortReports) : Bool :=
  !r.queue.isEmpty || (r.flags.enabled r.mask).any

/-- Set or clear a flag of one port. -/
def PortReports.put (r : PortReports) (k : Condition) (v : Bool) : PortReports :=
  { r with flags := r.flags.put k v }

/-- A report joins a queue of at most 16; the oldest is discarded to make room, and REPORT_OVERRUN is set (R187). -/
def PortReports.push (r : PortReports) (x : Report) : PortReports :=
  if r.queue.length < 16 then { r with queue := r.queue ++ [x] }
  else { r with queue := r.queue.drop (r.queue.length - 15) ++ [x], flags := r.flags.put .reportOverrun true }

end Sys2Proof.Machine
end

