-- ==== Sys2Proof/Machine/Ops.lean ====
section
/-! DEFINITION. The shared operations: time and timers, what the coach side reads of the rest of the part, reports and conditions, and
the stops that are calling for this coach. -/

namespace Sys2Proof.Machine

open Sys2Proof.Config

/-! ## What the coach side reads -/

/-- What the blocks of the coach side read of the rest of the part while one change is taken. -/
structure Env where
  now : Nat
  params : Params
  portion : Fin 4
  coachNumber : Nat
  lead : Option LinePort
  upA : Bool
  upB : Bool
  levels : Quad Level
  deriving DecidableEq, Repr

/-- The environment of a state. -/
def State.env (s : State) : Env where
  now := s.now
  params := s.params
  portion := s.consist.portion
  coachNumber := s.consist.coachNumber
  lead := s.consist.lead
  upA := s.portA.linkUp
  upB := s.portB.linkUp
  levels := s.levels

/-- A change of the coach side. -/
def State.onCoach (f : Env → Coach → Coach) (s : State) : State :=
  { s with coach := f s.env s.coach }

/-- A change that is taken only while the part is not held in device reset (R1: while RESET stays low every block holds its state). -/
def live (s : State) (f : State → State) : Host.Outcome State Fault Refusal :=
  if s.inReset then .next s else .next (f s)

/-! ## Time -/

/-- The notice time in ms (R142). -/
def Env.noticeTime (e : Env) : Nat := e.now / perMillisecond

/-- The axle clock: microseconds since the release of RESET, modulo 2^32 (R52). -/
def axleClock (now : Nat) : Stamp := BitVec.ofNat 32 (now / perMicrosecond)

/-- The clock stands at the end of a timer when its expiry is taken, or later (log entry 3). -/
def State.runTo (s : State) (deadline : Nat) : State :=
  { s with now := max s.now deadline }

/-- The first moment, now or later, at which the axle clock shows a timestamp (R52, log entry 4). -/
def momentOf (now : Nat) (stamp : Stamp) : Nat :=
  if stamp = axleClock now then now
  else (now / perMicrosecond + (stamp - axleClock now).toNat) * perMicrosecond

/-- The lease remaining in ms: it counts down in whole ms from the moment it was started (R33). -/
def Consist.leaseRemaining (k : Consist) (now : Nat) : Option Nat :=
  k.lease.map fun d => (d - now + (perMillisecond - 1)) / perMillisecond

/-! ## Ports -/

/-- The state of a line port. -/
def State.port (s : State) : LinePort → PortState
  | .a => s.portA
  | .b => s.portB

/-- Replace the state of a line port. -/
def State.setPort (s : State) (p : LinePort) (x : PortState) : State :=
  match p with
  | .a => { s with portA := x }
  | .b => { s with portB := x }

/-! ## Reports and conditions -/

/-- What the report unit holds for a line port. -/
def Coach.reports (c : Coach) : LinePort → PortReports
  | .a => c.reportsA
  | .b => c.reportsB

/-- Replace what the report unit holds for a line port. -/
def Coach.setReports (c : Coach) (p : LinePort) (r : PortReports) : Coach :=
  match p with
  | .a => { c with reportsA := r }
  | .b => { c with reportsB := r }

/-- A report is queued on the lead port, or with no lead on each port whose link is UP (R187). -/
def Env.routes (e : Env) (p : LinePort) : Bool :=
  match e.lead, p with
  | some q, p => p = q
  | none, .a => e.upA
  | none, .b => e.upB

/-- A report is raised (R187). -/
def Coach.raise (e : Env) (r : Report) (c : Coach) : Coach :=
  { c with
    reportsA := if e.routes .a then c.reportsA.push r else c.reportsA
    reportsB := if e.routes .b then c.reportsB.push r else c.reportsB }

/-- Reports are raised in order. -/
def Coach.raiseAll (e : Env) (rs : List Report) (c : Coach) : Coach :=
  rs.foldl (fun c r => c.raise e r) c

/-- Set or clear a condition on both line ports. -/
def Coach.flagBoth (k : Condition) (v : Bool) (c : Coach) : Coach :=
  { c with reportsA := c.reportsA.put k v, reportsB := c.reportsB.put k v }

/-- The position estimate in metres, rounded toward zero (R62). -/
def Position.metres (p : Position) : Nat := p.estimate / perMetre

/-! ## Stops calling for this coach -/

/-- A stop is calling for this coach (R2). -/
def StopRec.callsAt (portion : Fin 4) (r : StopRec) : Bool := r.calling && r.mask.getLsbD portion.val

/-- The lowest index, from a given one on, of a record with a property. -/
def findFrom (list : List StopRec) (from' : Nat) (f : StopRec → Bool) : Option Nat :=
  ((list.drop from').findIdx? f).map (· + from')

/-- The index of the record with a code. -/
def findCode (list : List StopRec) (code : Nat) : Option Nat := list.findIdx? fun r => r.code = code

/-- The lowest index, from a given one on, that is calling for this coach. -/
def nextCall (list : List StopRec) (portion : Fin 4) (from' : Nat) : Option Nat :=
  findFrom list from' (StopRec.callsAt portion)

/-- How many records are calling for this coach. -/
def callCount (list : List StopRec) (portion : Fin 4) : Nat := (list.filter (StopRec.callsAt portion)).length

/-- No record after an index is calling for this coach. -/
def lastCall (list : List StopRec) (portion : Fin 4) (i : Nat) : Bool := (nextCall list portion (i + 1)).isNone

/-- The index of the coach's last calling stop. -/
def lastCallIndex (list : List StopRec) (portion : Fin 4) : Option Nat :=
  (List.range list.length).reverse.find? fun i => (list[i]?).any (StopRec.callsAt portion)

/-- The record at an optional index. -/
def recordAt (list : List StopRec) (i : Option Nat) : Option StopRec := i.bind (list[·]?)

/-- The code of the record at an optional index. -/
def codeAt (list : List StopRec) (i : Option Nat) : Option Nat := (recordAt list i).map StopRec.code

/-- Replace the status of the record at an index. -/
def setStatus (list : List StopRec) (i : Nat) (st : StopStatus) : List StopRec :=
  list.modify i fun r => { r with status := st }

/-- The estimate exceeds a position in metres, at the full precision of the internal position (R16). -/
def Position.exceeds (p : Position) (metres : Nat) : Bool := metres * perMetre < p.estimate

/-- The estimate is at or above a position in metres, which may be below 0 (R96, R149). -/
def Position.atOrAbove (p : Position) (metres : Int) : Bool := metres * perMetre ≤ (p.estimate : Int)

/-- The magnitude of the difference between the estimate and a position in metres is at most a distance in metres (R18). -/
def Position.within (p : Position) (metres distance : Nat) : Bool :=
  metres * perMetre ≤ p.estimate + distance * perMetre && p.estimate ≤ (metres + distance) * perMetre

/-- A value held to a range (R184). -/
def clampTo (lo hi v : Nat) : Nat := max lo (min hi v)

end Sys2Proof.Machine
end

