-- ==== Sys2Proof/Machine/Axle.lean ====
section
/-! DEFINITION. The axle unit: decoder, direction filter, capture FIFO, window counters and the speed of a window (chapter 3). -/

namespace Sys2Proof.Machine

open Sys2Proof.Config

/-- What a new sample is, against the held pair (R43). -/
inductive Sample where
  | same
  | edge (d : EdgeDir)
  | illegal
  deriving DecidableEq, Repr

/-- The decoder's table (R43): held pair, then new sample, channel 1 first. -/
def decodeSample : Bool × Bool → Bool × Bool → Sample
  | (false, false), (true, false) => .edge .towardA
  | (true, false), (true, true) => .edge .towardA
  | (true, true), (false, true) => .edge .towardA
  | (false, true), (false, false) => .edge .towardA
  | (false, false), (false, true) => .edge .towardB
  | (false, true), (true, true) => .edge .towardB
  | (true, true), (true, false) => .edge .towardB
  | (true, false), (false, false) => .edge .towardB
  | (false, false), (true, true) => .illegal
  | (true, true), (false, false) => .illegal
  | (true, false), (false, true) => .illegal
  | (false, true), (true, false) => .illegal
  | _, _ => .same

/-- The sample in which one channel has changed. -/
def toggled (ch : AxleChannel) (pair : Bool × Bool) : Bool × Bool :=
  match ch with
  | .one => (!pair.1, pair.2)
  | .two => (pair.1, !pair.2)

/-- The distance per edge q, in units of 1/65536 mm (R49). -/
def Params.edgeUnits (p : Params) : Nat := p.wheelCirc * 65536 / (4 * p.axlePpr)

/-- An edge is forward under an orientation (R50 step 2). -/
def isForward (o : Orientation) (d : EdgeDir) : Bool :=
  match o, d with
  | .bForward, .towardB => true
  | .bForward, .towardA => false
  | _, .towardA => true
  | _, .towardB => false

/-- The signed distance of an edge (R50). -/
def signed (forward : Bool) (q : Nat) : Int := if forward then q else -q

/-- The raw odometer saturates at the ends of a 64-bit signed count (R51). -/
def saturate64 (x : Int) : Int := max (-9223372036854775808) (min 9223372036854775807 x)

/-- A timestamp is pushed into the capture FIFO (R53). -/
def Axle.push (x : Axle) (t : Stamp) : Axle :=
  match x.fifo with
  | [] => { x with fifo := [t], overrun := false }
  | [a] => { x with fifo := [a, t], overrun := false }
  | _ :: b :: _ => { x with fifo := [b, t], overrun := true }

/-- The capture FIFO is emptied (R53). -/
def Axle.emptyFifo (x : Axle) : Axle := { x with fifo := [], overrun := false }

/-- FIFO status (R53). -/
inductive FifoStatus where
  | empty
  | one
  | two
  | overrun
  deriving DecidableEq, Repr

/-- The status of the capture FIFO (R53). -/
def Axle.fifoStatus (x : Axle) : FifoStatus :=
  match x.fifo with
  | [] => .empty
  | [_] => .one
  | _ => if x.overrun then .overrun else .two

/-- The held edges are discarded: the run count becomes 0 and the run direction none (R44, R46, R48). -/
def Axle.discardHeld (x : Axle) : Axle := { x with held := [], runDir := none }

/-- An illegal transition (R43, R44). -/
def Axle.illegalEdge (x : Axle) : Axle :=
  let n := min 255 (x.illegal + 1)
  let y := { x with illegal := n, pair := x.pair.map fun q => (!q.1, !q.2) }
  if n = 8 then { y.discardHeld.emptyFifo with fault := true, faulted := true } else y

/-- What the direction filter does with a legal edge (R46, R47): its state afterwards, and the timestamps of the edges that are applied,
in order, all in the confirmed direction. -/
def Axle.filter (revEdges : Nat) (d : EdgeDir) (t : Stamp) (x : Axle) : Axle × List Stamp :=
  if x.confirmed = some d then (x.discardHeld, [t])
  else
    let held := if x.runDir = some d then x.held ++ [t] else [t]
    if revEdges ≤ held.length then ({ x.discardHeld with confirmed := some d }, held)
    else ({ x with held, runDir := some d }, [])

/-! ## The window (R54 to R58) -/

/-- The speed by count (R55). -/
def speedByCount (n q : Nat) : Nat := min speedTop (n * q * 10 / 65536)

/-- The speed by period, a difference of 0 taken as 1 (R56). -/
def speedByPeriod (q : Nat) (older newer : Stamp) : Nat :=
  min speedTop (q * 1000000 / (max 1 (newer - older).toNat * 65536))

/-- The method and measured speed of the window now closed (R55, R56). -/
def Axle.measure (q : Nat) (x : Axle) : Method × Option Nat :=
  if x.faulted then (.none, none)
  else if 4 ≤ x.edges then (.count, some (speedByCount x.edges q))
  else match x.fifo with
    | [a, b] => (.period, some (speedByPeriod q a b))
    | _ => if x.edges = 0 then (.zero, some 0) else (.count, some (speedByCount x.edges q))

/-- The FIFO read at a window close that is not faulted (R56). -/
def Axle.readFifo (x : Axle) : Axle :=
  if x.faulted then x
  else match x.fifo with
    | [_, b] => { x with fifo := [b], overrun := false }
    | _ => x

/-- The still count after a window (R58). -/
def stillAfter (stillWindows : Nat) (m : Method) (edges count : Nat) : Nat :=
  if edges = 0 ∧ (m = .zero ∨ m = .period) then min stillWindows (count + 1) else 0

/-- A window close in the axle unit: the clear test of AXLE_FAULT, the speed, the FIFO read, the still count, the record, and the start
of the next window (R44, R54 to R58). -/
def Axle.close (p : Params) (x : Axle) : Axle :=
  let fault := x.fault && x.illegal != 0
  let m := x.measure p.edgeUnits
  let still := stillAfter p.stillWindows m.1 x.edges x.stillCount
  { x.readFifo with
    fault := fault
    illegal := 0
    edges := 0
    faulted := fault
    last := { method := m.1, speed := m.2, edges := x.edges, still := still == p.stillWindows }
    stillCount := still }

end Sys2Proof.Machine
end

