-- ==== Sys2Proof/Machine/MapStrip.lean ====
section
/-! DEFINITION. The map unit: layout, target, rendering and marker pacing, and the drive frame (chapter 9). -/

namespace Sys2Proof.Machine

open Sys2Proof.Config

/-! ## Layout (R163, R164) -/

/-- The window base (R164). -/
def windowBase (portion : Fin 4) (j : Journey) : Option Nat :=
  if j.phase = .empty then none
  else match j.lastDeparted with
    | some i => some i
    | none => nextCall j.list portion 0

/-- The window capacity (R164). -/
def windowCapacity (trackDots : Nat) : Nat := 47 / (trackDots + 1) + 1

/-- The window stops: the base, then the calling records after it, up to the capacity (R164). -/
def windowStops (portion : Fin 4) (trackDots : Nat) (j : Journey) : List Nat :=
  match windowBase portion j with
  | some b =>
    (b :: (List.range j.list.length).filter fun i => b < i && (j.list[i]?).any (StopRec.callsAt portion)).take (windowCapacity trackDots)
  | none => []

/-- The role of a logical dot (R163, R164). -/
def roleOf (stops : List Nat) (trackDots dot : Nat) : DotRole :=
  if dot % (trackDots + 1) = 0 then
    match stops[dot / (trackDots + 1)]? with
    | some i => .stop i
    | none => .unused
  else if dot / (trackDots + 1) + 1 < stops.length then .track
  else .unused

/-- The layout is worked out again (R163). -/
def MapUnit.relayout (e : Env) (j : Journey) (m : MapUnit) : MapUnit :=
  let stops := windowStops e.portion e.params.trackDots j
  { m with
    base := windowBase e.portion j
    count := stops.length
    layout := (List.range 48).map (roleOf stops e.params.trackDots) }

/-- The STOP dot of a record, if it has one in the window (R165). -/
def MapUnit.stopDot (m : MapUnit) (i : Nat) : Option Nat := m.layout.findIdx? fun r => r = .stop i

/-! ## Target (R165) -/

/-- The dots covered of the segment from one stop to the next, 0 to TRACK_DOTS (R165 step 6). -/
def trackCovered (metres prev next trackDots : Nat) : Nat :=
  (min (trackDots : Int) (max 0 (((metres : Int) - prev) * (trackDots + 1) / ((next : Int) - prev)))).toNat

/-- The target dot (R165). With last departed none the record before next calling is the base in every phase: R165 says so of STAGED, and in
TERMINATED it is the model's (DESIGN CHOICE, log entry 46). -/
def MapUnit.targetOf (e : Env) (j : Journey) (p : Position) (m : MapUnit) : Nat :=
  if j.phase = .empty then 0
  else match m.base with
    | none => 0
    | some base =>
      match j.atStop, j.nextCalling with
      | some i, _ => (m.stopDot i).getD 47
      | none, none => (m.stopDot base).getD 0
      | none, some n =>
        if (m.stopDot n).isNone then 47
        else if n = base then 0
        else
          let prev := j.lastDeparted.getD base
          match j.list[prev]?, j.list[n]? with
          | some a, some b => (m.stopDot prev).getD 0 + trackCovered p.metres a.position b.position e.params.trackDots
          | _, _ => 0

/-- The target is worked out again. -/
def MapUnit.retarget (e : Env) (j : Journey) (p : Position) (m : MapUnit) : MapUnit :=
  { m with target := m.targetOf e j p }

/-! ## Rendering (R167) -/

/-- The motion state is STANDSTILL. -/
def Motion.stopped : Motion → Bool
  | .standstill => true
  | _ => false

/-- The mode of a logical dot, by the first row of R167 that applies. -/
def modeOf (e : Env) (j : Journey) (p : Position) (m : MapUnit) (dot : Nat) : DotMode :=
  let role := m.layout.getD dot .unused
  if j.phase = .empty then .forcedOff
  else if dot = m.marker then (if p.motion.stopped then .forcedOn else .blink)
  else match role with
    | .unused => .forcedOff
    | .stop i =>
      if (j.list[i]?).any StopRec.split then .dutyInv e.params.dimDuty
      else if dot < m.marker then .duty e.params.dimDuty
      else .forcedOn
    | .track => if dot < m.marker then .duty e.params.dimDuty else .forcedOff

/-- Rendering writes every entry of the shadow table (R167). -/
def MapUnit.render (e : Env) (j : Journey) (p : Position) (m : MapUnit) : MapUnit :=
  { m with shadow := (List.range 48).map (modeOf e j p m) }

/-! ## Pacing (R170, R171) -/

/-- The magnitude of the pending step count (R170). -/
def MapUnit.pendingSize (m : MapUnit) : Nat := max m.target m.marker - min m.target m.marker

/-- A jump (R171). -/
def MapUnit.jump (e : Env) (j : Journey) (p : Position) (m : MapUnit) : MapUnit :=
  MapUnit.render e j p { m with marker := m.target }

/-- A step of one dot toward the target, which starts the step timer and renders (R170). -/
def MapUnit.step (e : Env) (j : Journey) (p : Position) (m : MapUnit) : MapUnit :=
  MapUnit.render e j p
    { m with
      marker := if m.marker < m.target then m.marker + 1 else m.marker - 1
      stepAt := some (e.now + e.params.stepInterval * perMillisecond) }

/-- What follows a target worked out again outside a window change (R170). -/
def MapUnit.pace (e : Env) (j : Journey) (p : Position) (m : MapUnit) : MapUnit :=
  if e.params.jumpLimit < m.pendingSize then m.jump e j p
  else if m.target ≠ m.marker ∧ m.stepAt.isNone then m.step e j p
  else m

/-! ## What the map unit takes from the other blocks -/

/-- A window change: layout, target and jump (R163, R171). -/
def Coach.mapWindow (e : Env) (c : Coach) : Coach :=
  { c with map := ((c.map.relayout e c.journey).retarget e c.journey c.position).jump e c.journey c.position }

/-- A position change or an arrival (R165, R170). -/
def Coach.mapTarget (e : Env) (c : Coach) : Coach :=
  { c with map := (c.map.retarget e c.journey c.position).pace e c.journey c.position }

/-- A change of the motion state between STANDSTILL and the other two: a jump at a change to STANDSTILL while STEP_DISCARD is ON, else a
render (R168, R171). -/
def Coach.mapMotion (e : Env) (c : Coach) : Coach :=
  { c with map := if c.position.motion.stopped ∧ e.params.stepDiscard then c.map.jump e c.journey c.position
      else c.map.render e c.journey c.position }

/-- The step timer expires (R170). -/
def Coach.mapStepTimer (e : Env) (c : Coach) : Coach :=
  if c.journey.phase ≠ .empty ∧ c.map.target ≠ c.map.marker then { c with map := c.map.step e c.journey c.position }
  else { c with map := { c.map with stepAt := none } }

/-! ## Drive (R166, R169, R172) -/

/-- The entry that drives a physical dot under an orientation (R172). -/
def drivenBy (o : Orientation) (dot : Nat) : Nat :=
  if o = .bForward then 47 - dot else dot

/-- A frame boundary: the active table copies the shadow table and drives the dots (R169, R172). -/
def MapUnit.boundary (o : Orientation) (m : MapUnit) : MapUnit :=
  { m with
    active := m.shadow
    driven := (List.range 48).map fun d => m.shadow.getD (drivenBy o d) .forcedOff }

/-- The output of a dot in a slot, 0 to 254, of a frame of the blink cycle (R166). -/
def DotMode.lit (m : DotMode) (frameNumber slot : Nat) : Bool :=
  match m with
  | .forcedOff => false
  | .forcedOn => true
  | .duty d => slot < d
  | .dutyInv d => d ≤ slot
  | .blink => frameNumber < 100

end Sys2Proof.Machine
end

