-- ==== Sys2Proof/Machine/Wire.lean ====
section
/-! DEFINITION. The characters on the wires: CRC, escape and framing of the ports (R177, R193), check and address characters of the seat
lines (R111, R195), and numbers as characters (R197). -/

namespace Sys2Proof.Machine

open Sys2Proof.Config

/-- A number as a given count of characters, low character first (R197). -/
def leBytes : Nat → Nat → List Byte
  | 0, _ => []
  | n + 1, v => BitVec.ofNat 8 v :: leBytes n (v / 256)

/-- One bit entering the CRC register (R177). -/
def crcBit (reg : BitVec 16) (bit : Bool) : BitVec 16 :=
  let shifted := reg >>> 1
  if reg.getLsbD 0 != bit then shifted ^^^ 0x8408#16 else shifted

/-- One character entering the CRC register, bit 0 first (R177). -/
def crcChar (reg : BitVec 16) (c : Byte) : BitVec 16 :=
  (List.range 8).foldl (fun r i => crcBit r (c.getLsbD i)) reg

/-- The CRC of a frame's characters (R177). -/
def crc (cs : List Byte) : BitVec 16 := cs.foldl crcChar 0xFFFF#16

/-- The CRC as sent, low character first, with no complement (R177). -/
def crcChars (cs : List Byte) : List Byte := [(crc cs).setWidth 8, ((crc cs) >>> 8).setWidth 8]

/-- The escape of a value inside a frame (R177). -/
def escapeChar (c : Byte) : List Byte :=
  if c = 0x7E#8 ∨ c = 0x7D#8 then [0x7D#8, c ^^^ 0x20#8] else [c]

/-- The content of a frame, the header and payload under the CRC: with the hop on a line port, without it on the crew port (R193). -/
def Frame.content (withHop : Bool) (f : Frame) : List Byte :=
  (if withHop then [f.hop] else []) ++ f.kind :: BitVec.ofNat 8 f.payload.length :: f.payload

/-- The characters of a frame after its delimiter, as they stand on the line (R177, R193). -/
def Frame.wire (withHop : Bool) (f : Frame) : List Byte :=
  (f.content withHop ++ crcChars (f.content withHop)).flatMap escapeChar

/-- The number of header characters before the payload (R193). -/
def headerLength (withHop : Bool) : Nat := if withHop then 3 else 2

/-- The frame whose content has been received (R193); on the crew port the hop is 0. -/
def frameOf (withHop : Bool) (cs : List Byte) : Option Frame :=
  match withHop, cs with
  | true, hop :: kind :: _ :: payload => some { hop, kind, payload }
  | false, kind :: _ :: payload => some { hop := 0, kind, payload }
  | _, _ => none

/-- A valid character reaches a receiver (R177): what it then is receiving, and the frame that this character completes with a
right CRC. A delimiter always begins a new frame, an open escape included (log entry 24). -/
def receive (withHop : Bool) (rx : Option Receiving) (c : Byte) : Option Receiving × Option Frame :=
  if c = 0x7E#8 then (some {}, none)
  else match rx with
    | none => (none, none)
    | some r =>
      if !r.escape && c = 0x7D#8 then (some { r with escape := true }, none)
      else
        let chars := r.chars ++ [if r.escape then c ^^^ 0x20#8 else c]
        let h := headerLength withHop
        if chars.length < h then (some { chars }, none)
        else
          let n := (chars.getD (h - 1) 0).toNat
          if 240 < n then (none, none)
          else if chars.length < h + n + 2 then (some { chars }, none)
          else if chars.drop (h + n) = crcChars (chars.take (h + n)) then (none, frameOf withHop (chars.take (h + n)))
          else (none, none)

/-- How many characters of its wire a frame takes, the delimiter included. -/
def Frame.wireLength (withHop : Bool) (f : Frame) : Nat := 1 + (f.wire withHop).length

/-- The time a frame takes on a line port: ten bit times for each character (R176). -/
def Frame.lineTime (f : Frame) : Nat := f.wireLength true * 10 * lineBit

/-- The time a frame takes on the crew port at 57,600 bit/s, to the next whole crystal period (R182). -/
def Frame.crewTime (f : Frame) : Nat := (f.wireLength false * 10 * crystalHz + 57599) / 57600

/-! ## Seat-line characters -/

/-- One character added to the check figure, the carry out of bit 7 added back into bit 0 (R111). -/
def checkAdd (sum : Nat) (c : Byte) : Nat :=
  if sum + c.toNat < 256 then sum + c.toNat else sum + c.toNat - 255

/-- The check character over characters: the complement of their figure (R111). -/
def checkChar (cs : List Byte) : Byte := ~~~ BitVec.ofNat 8 (cs.foldl checkAdd 0)

/-- Command numbers (R110). -/
def SeatCmd.number : SeatCmd → Nat
  | .poll => 1
  | .showContent => 2
  | .level => 3
  | .ident => 4
  | .names => 5

/-- The number of ones among bits 0 to 6. -/
def onesBelow7 (c : Byte) : Nat := ((List.range 7).filter fun i => c.getLsbD i).length

/-- The address character of a module and a command, bit 7 making the number of ones odd (R111, R195). -/
def addressChar (module : Fin 16) (cmd : SeatCmd) : Byte :=
  let low := BitVec.ofNat 8 (module.val + 16 * cmd.number)
  if onesBelow7 low % 2 = 1 then low else low ||| 0x80#8

/-- Short names as characters (R197). -/
def nameChars (n : ShortName) : List Byte := [n.c0, n.c1, n.c2]

/-- Three space characters (R110, R196). -/
def blankName : List Byte := [0x20#8, 0x20#8, 0x20#8]

end Sys2Proof.Machine
end

