-- ==== Sys2Proof/Machine/SeatQueue.lean ====
section
/-! DEFINITION. What other blocks hand the seat-line controllers: content changes for the SHOW queue (R116) and stale name blocks (R117). -/

namespace Sys2Proof.Machine

/-- A content change for a module joins the SHOW queue once, if the module is served (R116). -/
def SeatLine.queueShow (l : SeatLine) (m : Fin 16) : SeatLine :=
  if m.val < l.moduleCount ∧ m ∉ l.showQueue then { l with showQueue := l.showQueue ++ [m] } else l

/-- The name blocks of a list of a given number of records, blocks 0 to floor((count - 1) / 4) (R117). -/
def nameBlocks (count : Nat) : BitVec 16 :=
  if count = 0 then 0 else BitVec.ofNat 16 (2 ^ ((count - 1) / 4 + 1) - 1)

/-- The blocks of the active list become stale on a line (R117). -/
def SeatLine.markStale (l : SeatLine) (count : Nat) : SeatLine :=
  { l with stale := l.stale ||| nameBlocks count }

/-- The module record of a module. -/
def SeatLine.module (l : SeatLine) (m : Fin 16) : Module := l.modules.getD m.val {}

/-- Replace the module record of a module. -/
def SeatLine.setModule (l : SeatLine) (m : Fin 16) (x : Module) : SeatLine :=
  { l with modules := l.modules.set m.val x }

/-- The line is in a running state (R105). -/
def SeatLine.running (l : SeatLine) : Bool :=
  match l.activity with
  | .idle | .frame _ => true
  | _ => false

/-- Every line marks the blocks of the active list stale (R117). -/
def Coach.markStale (c : Coach) : Coach :=
  { c with lines := c.lines.map fun l => l.markStale c.journey.list.length }

/-- A content change for a module is handed to the controller of its line (R101, R116). -/
def Coach.contentChange (c : Coach) (line : Fin 4) (m : Fin 16) : Coach :=
  { c with lines := c.lines.set line ((c.lines.get line).queueShow m) }

/-- The place states are held by place number within line and module (R127). -/
def PlaceId.index (p : PlaceId) : Nat := p.line.val * 32 + p.module.val * 2 + p.place.val

/-- The sensor record of a place. -/
def Coach.sensor (c : Coach) (p : PlaceId) : Sensor := c.sensors.getD p.index {}

/-- The place of a seat (R81). -/
def Seat.placeId (s : Seat) : PlaceId := ⟨s.line, s.module, s.place⟩

end Sys2Proof.Machine
end

