-- ==== Sys2Proof/Machine/Reservation.lean ====
section
/-! DEFINITION. The reservation unit: effective legs, claim windows, retirement and the displayed state of every seat (chapter 5). -/

namespace Sys2Proof.Machine

open Sys2Proof.Config

/-! ## Legs (R84, R85) -/

/-- The effective index of a stop code (R85). -/
def effIndex (list : List StopRec) (portion : Fin 4) (code : Nat) : Option Nat :=
  (findCode list code).bind (nextCall list portion)

/-- The effective leg of a booking that is not void (R85). -/
def effLeg (list : List StopRec) (portion : Fin 4) (boarding alighting : Nat) : Option (Nat × Nat) :=
  match effIndex list portion boarding, effIndex list portion alighting with
  | some b, some a => if b < a then some (b, a) else none
  | _, _ => none

/-- The booked leg: the route positions of the booked stops (R84). -/
def bookedLeg (list : List StopRec) (boarding alighting : Nat) : Option (Nat × Nat) :=
  match recordAt list (findCode list boarding), recordAt list (findCode list alighting) with
  | some b, some a => some (b.position, a.position)
  | _, _ => none

/-- The booked leg of an entry, empty where a stop is not in the list. -/
def Entry.leg (list : List StopRec) (x : Entry) : Nat × Nat := (bookedLeg list x.boarding x.alighting).getD (0, 0)

/-- Two half-open stretches of route overlap (R84). -/
def overlaps (l m : Nat × Nat) : Bool := l.1 < m.2 && m.1 < l.2

/-! ## One entry: what a change of the journey, the position or the seat does to it -/

/-- What the reservation unit reads when it takes an entry. -/
structure EntryCtx where
  list : List StopRec
  position : Position
  releaseM : Nat
  sensor : PlaceState
  seat : Nat

/-- The seat is occupied (R81). -/
def PlaceState.isOccupied : PlaceState → Bool
  | .occupied | .leaving => true
  | _ => false

/-- The report of an entry's claim or release (R95, R96): seat, token, anchor code, estimate. -/
def EntryCtx.report (k : EntryCtx) (kind : ReportKind) (x : Entry) : Report :=
  { kind, stop := x.anchor.map Prod.fst, seat := some k.seat, token := some x.token, position := k.position.metres }

/-- The sensor state is looked at while the window is OPEN or DEFERRED (R95). -/
def lookAtSeat (k : EntryCtx) (x : Entry) : Entry × List Report :=
  if x.window = .opened ∨ x.window = .deferred then
    if k.sensor.isOccupied then
      if x.state = .booked then
        ({ x with state := .claimed, window := if x.window = .deferred then .spent else x.window }, [k.report .seatClaimed x])
      else (x, [])
    else if k.sensor = .unknown then ({ x with unverified := true }, [])
    else (x, [])
  else (x, [])

/-- The window of an entry whose anchor is left is past its release point (R96). -/
def pastRelease (k : EntryCtx) (x : Entry) : Bool :=
  match x.anchor with
  | some (_, p) => k.position.atOrAbove (p + k.releaseM : Nat)
  | none => false

/-- The close test of an OPEN window (R96). -/
def closeTest (k : EntryCtx) (x : Entry) : Entry × List Report :=
  if x.window = .opened ∧ x.anchorLeft ∧ pastRelease k x then
    if x.state = .booked ∧ ¬ x.unverified then
      if k.position.fix = .fixed then
        ({ x with state := .released, window := .spent }, [k.report .seatReleased x])
      else ({ x with window := .deferred }, [])
    else ({ x with window := .spent }, [])
  else (x, [])

/-- Two operations on an entry, one after the other. -/
def andThen (f g : Entry → Entry × List Report) (x : Entry) : Entry × List Report :=
  let y := f x
  let z := g y.1
  (z.1, y.2 ++ z.2)

/-- The window opens at the record at the effective boarding (R94). -/
def openWindow (k : EntryCtx) (r : StopRec) (x : Entry) : Entry × List Report :=
  andThen (lookAtSeat k) (closeTest k)
    { x with window := .opened, anchor := some (r.code, r.position), anchorLeft := r.status != .current }

/-- The coach has reached a record: its status opens a PENDING window (R94). -/
def StopStatus.reached : StopStatus → Bool
  | .ahead => false
  | _ => true

/-- A PENDING window is brought up to date with its effective boarding record (R94). -/
def openIfReached (k : EntryCtx) (x : Entry) : Entry × List Report :=
  match k.list[x.effBoarding]? with
  | some r => if x.window = .pending ∧ r.status.reached then openWindow k r x else (x, [])
  | none => (x, [])

/-- At a commit an anchor whose code has left the list is taken as left (R94). -/
def anchorGone (k : EntryCtx) (commit : Bool) (x : Entry) : Entry :=
  match x.anchor with
  | some (code, _) => if commit && (findCode k.list code).isNone then { x with anchorLeft := true } else x
  | none => x

/-- The window of an entry at a change of list (R86 step 4, R94, R96). -/
def windowAtListChange (k : EntryCtx) (commit : Bool) (x : Entry) : Entry × List Report :=
  if x.window = .pending then openIfReached k x else closeTest k (anchorGone k commit x)

/-- The window ends where the passenger's leg ends (R98). -/
def endAtAlighting (i : Nat) (x : Entry) : Entry :=
  if x.effAlighting = i ∧ x.window ≠ .spent then { x with window := .spent } else x

/-- The anchor stop is left at a departure or run-through (R96). -/
def leaveAnchor (code : Nat) (x : Entry) : Entry :=
  if x.anchor.map Prod.fst = some code then { x with anchorLeft := true } else x

/-- An entry at an arrival at an index (R98, R94). -/
def entryAtArrival (k : EntryCtx) (i : Nat) (x : Entry) : Entry × List Report :=
  let y := endAtAlighting i x
  if y.effBoarding = i then openIfReached k y else (y, [])

/-- An entry at a departure from a stop (R96). -/
def entryAtDeparture (k : EntryCtx) (code : Nat) (x : Entry) : Entry × List Report := closeTest k (leaveAnchor code x)

/-- An entry at a run-through of an index (R98, R94, R96). -/
def entryAtRunThrough (k : EntryCtx) (i code : Nat) (x : Entry) : Entry × List Report :=
  let y := endAtAlighting i x
  if y.effBoarding = i ∧ y.window = .pending then openIfReached k y else closeTest k (leaveAnchor code y)

/-- An entry whose window is DEFERRED when the fix state becomes FIXED (R97). -/
def entryAtFixed (k : EntryCtx) (x : Entry) : Entry × List Report :=
  if x.window = .deferred then
    if x.unverified then ({ x with window := .spent }, [])
    else ({ x with state := .released, window := .spent }, [k.report .seatReleased x])
  else (x, [])

/-! ## One seat -/

/-- What the reservation unit reads for a seat's entries. -/
def Coach.entryCtx (e : Env) (c : Coach) (s : Seat) : EntryCtx where
  list := c.journey.list
  position := c.position
  releaseM := e.params.releaseM
  sensor := (c.sensor s.placeId).state
  seat := s.number

/-- Every entry of a list, in order, with the reports in order. -/
def mapEntries (f : Entry → Entry × List Report) (xs : List Entry) : List Entry × List Report :=
  ((xs.map f).map Prod.fst, (xs.map f).flatMap Prod.snd)

/-- Every entry of a list, in order, some of them freed. -/
def filterEntries (f : Entry → Option Entry × List Report) (xs : List Entry) : List Entry × List Report :=
  ((xs.map f).filterMap Prod.fst, (xs.map f).flatMap Prod.snd)

/-- An entry at a change of list, steps 1 to 4 of R86; step 1 is for a commit alone (R87). -/
def entryAtListChange (k : EntryCtx) (portion : Fin 4) (old : List StopRec) (commit : Bool) (x : Entry) : Option Entry × List Report :=
  let absent := if (findCode k.list x.boarding).isNone then some x.boarding
    else if (findCode k.list x.alighting).isNone then some x.alighting else none
  match commit, absent with
  | true, some code =>
    (none, [{ kind := .reservationDropped, stop := some code, seat := some k.seat, token := some x.token, position := k.position.metres }])
  | _, _ =>
    match effLeg k.list portion x.boarding x.alighting with
    | none =>
      (none, [{ kind := .reservationAffected, stop := some x.boarding, seat := some k.seat, token := some x.token
                position := k.position.metres, note := .void }])
    | some (b, a) =>
      let was := (codeAt old (some x.effBoarding), codeAt old (some x.effAlighting))
      let is' := (codeAt k.list (some b), codeAt k.list (some a))
      let affected := if was = is' then [] else
        [{ kind := .reservationAffected, stop := is'.1, seat := some k.seat, token := some x.token
           position := k.position.metres, value := is'.2.map Int.ofNat : Report }]
      let y := windowAtListChange k commit { x with effBoarding := b, effAlighting := a }
      (some y.1, affected ++ y.2)

/-- An entry put into a list in the order of booked boarding positions, after those of the same position (R84, R86). -/
def insertEntry (list : List StopRec) (x : Entry) : List Entry → List Entry
  | [] => [x]
  | y :: ys => if (x.leg list).1 < (y.leg list).1 then x :: y :: ys else y :: insertEntry list x ys

/-- A seat's list in the order of the booked boarding positions (R86). -/
def sortEntries (list : List StopRec) (xs : List Entry) : List Entry := xs.foldl (fun ys x => insertEntry list x ys) []

/-- Entries whose booked leg overlaps that of an entry kept before are dropped (R86): those kept, and the reports. -/
def dropOverlaps (k : EntryCtx) (kept : List Entry) : List Entry → List Entry × List Report
  | [] => (kept, [])
  | x :: xs =>
    if kept.any fun y => overlaps (y.leg k.list) (x.leg k.list) then
      let r := dropOverlaps k kept xs
      (r.1, { kind := .reservationDropped, stop := some x.boarding, seat := some k.seat, token := some x.token
              position := k.position.metres } :: r.2)
    else dropOverlaps k (kept ++ [x]) xs

/-- Entries whose effective alighting is at or below the last departed index are retired (R93). -/
def retire (last : Option Nat) (xs : List Entry) : List Entry :=
  match last with
  | some i => xs.filter fun x => i < x.effAlighting
  | none => xs

/-! ## Every seat -/

/-- Every seat in increasing seat number takes an operation on its entries, and the reports are raised in order. -/
def Coach.forSeats (e : Env) (f : Seat → EntryCtx → List Entry → List Entry × List Report) (c : Coach) : Coach :=
  Coach.raiseAll e (c.seats.flatMap fun s => (f s (c.entryCtx e s) s.entries).2)
    { c with seats := c.seats.map fun s => { s with entries := (f s (c.entryCtx e s) s.entries).1 } }

/-- The retirement test of every seat (R93). -/
def Coach.retireSeats (c : Coach) : Coach :=
  { c with seats := c.seats.map fun s => { s with entries := retire c.journey.lastDeparted s.entries } }

/-! ## Displayed state (R99 to R101) -/

/-- The start of the current leg (R99). -/
def Coach.legStart (e : Env) (c : Coach) : Option Nat :=
  if c.journey.phase = .empty then none
  else match c.journey.atStop, c.journey.lastDeparted with
    | some i, _ => some i
    | none, some i => some i
    | none, none => nextCall c.journey.list e.portion 0

/-- An entry is BOOKED or CLAIMED. -/
def Entry.held (x : Entry) : Bool := x.state != .released

/-- An entry covers the current leg (R99). -/
def Entry.covers (start : Option Nat) (x : Entry) : Bool :=
  start.any fun i => x.effBoarding ≤ i && i < x.effAlighting

/-- The NEXT_STOP or ARRIVING notice for the next calling stop is ARMED or SHOWN (R100). -/
def Coach.nextArmed (c : Coach) : Bool :=
  match codeAt c.journey.list c.journey.nextCalling with
  | some code => c.notices.queue.any fun n =>
      (n.kind = .nextStop || n.kind = .arriving) && n.stop = some code && (n.state = .armed || n.state = .shown)
  | none => false

/-- A stop in display content (R101). -/
def stopShown (list : List StopRec) (i : Nat) : Nat × ShortName :=
  (i, ((list[i]?).map StopRec.name).getD ⟨0x20#8, 0x20#8, 0x20#8⟩)

/-- The display content of a seat, by the first row of R100 that applies (R100, R101). -/
def Coach.contentOf (e : Env) (c : Coach) (s : Seat) : Content :=
  let start := c.legStart e
  let list := c.journey.list
  if c.journey.phase = .empty then .noInfo
  else if s.outOfUse then { shown := .outOfUse, stops := [] }
  else match s.entries.find? fun x => x.held && x.covers start with
    | some x =>
      { shown := if some x.effAlighting = c.journey.nextCalling ∧ c.nextArmed then .ending else .reserved
        stops := [stopShown list x.effBoarding, stopShown list x.effAlighting] }
    | none =>
      match ((s.entries.filter fun x => x.held && start.any (· < x.effBoarding)).map Entry.effBoarding).min? with
      | some b => { shown := .freeUntil, stops := [stopShown list b] }
      | none =>
        if s.entries.any fun x => !x.held && x.covers start then { shown := .releasedFree, stops := [] }
        else { shown := .free, stops := [] }

/-- The displayed state of every seat is worked out again; each content that differs is taken and handed on (R100, R101). The seats are taken
in the order of their numbers (DESIGN CHOICE, log entry 17). -/
def Coach.refresh (e : Env) (c : Coach) : Coach :=
  let changed := c.seats.filter fun s => s.content != c.contentOf e s
  changed.foldl (fun d s => d.contentChange s.line s.module)
    { c with seats := c.seats.map fun s => { s with content := c.contentOf e s } }

/-! ## What the reservation unit takes from the other blocks -/

/-- A COMMIT change (R86): the old list gives the codes before the change. -/
def Coach.reserveCommit (e : Env) (old : List StopRec) (c : Coach) : Coach :=
  ((((c.forSeats e fun _ k xs => filterEntries (entryAtListChange k e.portion old true) xs).forSeats e fun _ k xs =>
    dropOverlaps k [] (sortEntries k.list xs)).retireSeats).refresh e)

/-- An AMENDMENT or PORTION change (R87). -/
def Coach.reserveAmend (e : Env) (c : Coach) : Coach :=
  ((c.forSeats e fun _ k xs => filterEntries (entryAtListChange k e.portion k.list false) xs).retireSeats).refresh e

/-- An arrival at an index (R94, R98). -/
def Coach.reserveArrival (e : Env) (i : Nat) (c : Coach) : Coach :=
  (c.forSeats e fun _ k xs => mapEntries (entryAtArrival k i) xs).refresh e

/-- A departure from a stop (R93, R96). -/
def Coach.reserveDeparture (e : Env) (code : Nat) (c : Coach) : Coach :=
  ((c.forSeats e fun _ k xs => mapEntries (entryAtDeparture k code) xs).retireSeats).refresh e

/-- A run-through of an index (R93, R94, R96, R98). -/
def Coach.reserveRunThrough (e : Env) (i code : Nat) (c : Coach) : Coach :=
  ((c.forSeats e fun _ k xs => mapEntries (entryAtRunThrough k i code) xs).retireSeats).refresh e

/-- A position change (R96). -/
def Coach.reservePosition (e : Env) (c : Coach) : Coach :=
  (c.forSeats e fun _ k xs => mapEntries (closeTest k) xs).refresh e

/-- The fix state has become FIXED (R97). -/
def Coach.reserveFixed (e : Env) (c : Coach) : Coach :=
  (c.forSeats e fun _ k xs => mapEntries (entryAtFixed k) xs).refresh e

/-- The state of a place has changed (R95, R139). -/
def Coach.reservePlace (e : Env) (p : PlaceId) (c : Coach) : Coach :=
  (c.forSeats e fun s k xs => if s.placeId = p then mapEntries (lookAtSeat k) xs else (xs, [])).refresh e

/-- The EMPTY change: every entry is freed without a report (R104). -/
def Coach.reserveEmpty (e : Env) (c : Coach) : Coach :=
  Coach.refresh e { c with seats := c.seats.map fun s => { s with entries := [] } }

/-- The number of attached entries (R83). -/
def Coach.attached (c : Coach) : Nat := (c.seats.map fun s => s.entries.length).sum

/-- The number of free entries of the pool (R83). -/
def Coach.poolFree (c : Coach) : Nat := 256 - c.attached

end Sys2Proof.Machine
end

