-- ==== Sys2Proof/Machine/Notice.lean ====
section
/-! DEFINITION. The notice unit: the queue, automatic notices, arming, ending, selection, the door-side outputs, the chime and the page
(chapter 8). -/

namespace Sys2Proof.Machine

open Sys2Proof.Config

/-- What the notice unit takes as one change (R145). -/
inductive NoticeChange where
  /-- A position change. -/
  | position
  /-- An arrival at a stop. -/
  | arrival (code : Nat)
  /-- A departure from a stop. -/
  | departure (code : Nat)
  /-- A run-through of a stop. -/
  | runThrough (code : Nat)
  /-- A COMMIT change; whether it starts a new journey. -/
  | commit (newJourney : Bool)
  /-- An AMENDMENT or PORTION change. -/
  | amendment
  /-- A notice has been posted. -/
  | posted
  /-- A notice is ended by a request or by its time, with a cause number. -/
  | ended (id cause : Nat)
  /-- The clock has been set. -/
  | clockSet
  /-- A text of the crew text table has been replaced. -/
  | textSet (number : Nat)
  /-- The EMPTY change. -/
  | cleared
  /-- Any other change: fix state, orientation, coach number, the end of a hold. -/
  | other
  deriving DecidableEq, Repr

/-- A list change (R145, R148). -/
def NoticeChange.isList : NoticeChange → Bool
  | .commit _ | .amendment => true
  | _ => false

/-! ## The queue (R142, R143) -/

/-- The record of a stop code in the active list. -/
def Coach.stopOf (c : Coach) (code : Option Nat) : Option StopRec :=
  code.bind fun k => recordAt c.journey.list (findCode c.journey.list k)

/-- The SHOWN entry (R151). -/
def NoticeUnit.shown (u : NoticeUnit) : Option Notice := u.queue.find? fun n => n.state = .shown

/-- The first id, counting upward from the counter, that no entry of the queue holds (R142). -/
def NoticeUnit.freshId (u : NoticeUnit) : Nat :=
  (((List.range 256).map fun i => (u.nextId + i) % 256).find? fun id => !u.queue.any fun n => n.id = id).getD 0

/-- An entry is created at the end of the queue in WAITING (R142). -/
def NoticeUnit.create (u : NoticeUnit) (n : Notice) : NoticeUnit :=
  { u with queue := u.queue ++ [{ n with id := u.freshId }], nextId := (u.freshId + 1) % 256 }

/-- Entries leave the queue; with the SHOWN entry its hold is abandoned (R143, R152). -/
def NoticeUnit.drop (u : NoticeUnit) (leaves : Notice → Bool) : NoticeUnit :=
  { u with
    queue := u.queue.filter fun n => !leaves n
    hold := if u.shown.any leaves then none else u.hold }

/-- The NOTICE_ENDED report of an entry with source LEAD (R143). -/
def endedReport (c : Coach) (cause : Nat) (n : Notice) : List Report :=
  if n.source = .lead then
    [{ kind := .noticeEnded, stop := n.stop, position := c.position.metres, value := some (cause * 256 + n.id : Nat) }]
  else []

/-- Entries end, each with a cause, and leave the queue (R143). The reports of several are raised in queue order (DESIGN CHOICE, log entry
42). -/
def Coach.endNotices (e : Env) (cause : Notice → Option Nat) (c : Coach) : Coach :=
  Coach.raiseAll e (c.notices.queue.flatMap fun n => ((cause n).map fun k => endedReport c k n).getD [])
    { c with notices := c.notices.drop fun n => (cause n).isSome }

/-! ## End and list tests (R148, R150) -/

/-- The cause with which the end test of R150 ends an entry at a change. -/
def endCause (g : NoticeChange) (n : Notice) : Option Nat :=
  match g with
  | .arrival code => if n.ends = .atArrival ∧ n.stop = some code then some 0 else none
  | .departure code => if n.ends = .onDeparture ∧ n.stop = some code then some 3 else none
  | .runThrough code => if n.ends = .onDeparture ∧ n.stop = some code then some 3 else none
  | .ended id cause => if n.id = id then some cause else none
  | _ => none

/-- The arm condition names the entry's stop (R148). -/
def ArmCondition.namesStop : ArmCondition → Bool
  | .atOnce => false
  | _ => true

/-- A stop the coach has left (R148). -/
def StopStatus.left : StopStatus → Bool
  | .departed | .runThrough => true
  | _ => false

/-- The cause with which the list test of R148 ends a posted entry. -/
def listCause (e : Env) (c : Coach) (g : NoticeChange) (n : Notice) : Option Nat :=
  if n.source = .auto then none
  else match n.stop with
    | none => none
    | some code =>
      match g with
      | .runThrough k => if n.state = .waiting ∧ n.arm = .atStop ∧ k = code then some 5 else none
      | .commit _ | .amendment =>
        match c.stopOf (some code) with
        | none => some 4
        | some r =>
          if ¬ r.callsAt e.portion then some 4
          else if n.ends = .onDeparture ∧ r.status.left then some 3
          else if n.state = .waiting ∧ n.arm.namesStop ∧ r.status.left then some 5
          else none
      | _ => none

/-! ## Automatic notices (R144, R145) -/

/-- An automatic entry for a stop, before it has an id (R144). -/
def autoNotice (p : Params) (kind : NoticeKind) (code : Nat) : Notice where
  id := 0
  kind := kind
  source := .auto
  priority := if kind = .nextStop then 1 else 2
  stop := some code
  text := none
  arm := .beforeStop (if kind = .arriving then p.arriveM else p.approachM)
  ends := if kind = .nextStop then .atArrival else if kind = .terminus then .untilCancelled else .onDeparture
  state := .waiting
  armedAt := none
  lastShown := none
  firstShown := none

/-- The condition under which a kind is made for the next calling stop (R144). -/
def kindWanted (e : Env) (c : Coach) (kind : NoticeKind) : Bool :=
  match recordAt c.journey.list c.journey.nextCalling, c.journey.nextCalling with
  | some r, some i =>
    match kind with
    | .nextStop | .arriving => true
    | .splitAdvice => r.split
    | .terminus => lastCall c.journey.list e.portion i
    | _ => false
  | _, _ => false

/-- An automatic entry that regeneration takes away (R145). -/
def takenAway (e : Env) (c : Coach) (g : NoticeChange) (n : Notice) : Bool :=
  if n.source ≠ .auto then false
  else if g = .commit true then true
  else match n.kind with
    | .nextStop | .arriving => n.stop != codeAt c.journey.list c.journey.nextCalling
    | .splitAdvice => n.stop != codeAt c.journey.list c.journey.nextCalling || !kindWanted e c .splitAdvice
    | .terminus => g.isList && n.stop != codeAt c.journey.list (lastCallIndex c.journey.list e.portion)
    | _ => false

/-- One kind is created for the next calling stop if it is wanted and has no entry (R145). -/
def Coach.createKind (e : Env) (c : Coach) (kind : NoticeKind) : Coach :=
  match codeAt c.journey.list c.journey.nextCalling with
  | some code =>
    if kindWanted e c kind ∧ ¬ c.notices.queue.any fun n => n.kind = kind then
      { c with notices := c.notices.create (autoNotice e.params kind code) }
    else c
  | none => c

/-- Regeneration (R145). Several kinds are created in the order of the table of R144 (DESIGN CHOICE, log entry 43). -/
def Coach.regenerate (e : Env) (g : NoticeChange) (c : Coach) : Coach :=
  [NoticeKind.nextStop, .arriving, .splitAdvice, .terminus].foldl (Coach.createKind e)
    { c with notices := c.notices.drop (takenAway e c g) }

/-- A change at which the automatic entries are regenerated: a change of next calling, or a list change (R145). -/
def NoticeChange.regenerates : NoticeChange → Bool
  | .departure _ | .runThrough _ | .commit _ | .amendment => true
  | _ => false

/-! ## Arming (R149) -/

/-- The arm condition of an entry holds (R149). -/
def armHolds (c : Coach) (g : NoticeChange) (n : Notice) : Bool :=
  let current := (c.stopOf n.stop).any fun r => r.status = .current
  match n.arm with
  | .atOnce => true
  | .atStop => current
  | .beforeStop m =>
    current
      || ((c.stopOf n.stop).any fun r =>
          codeAt c.journey.list c.journey.nextCalling = n.stop && c.position.atOrAbove ((r.position : Int) - m))
      || (match g with
          | .runThrough code => n.stop = some code
          | _ => false)

/-- A change at which the arm test is taken (R149). -/
def NoticeChange.arms : NoticeChange → Bool
  | .position | .arrival _ | .departure _ | .runThrough _ | .commit _ | .amendment | .posted => true
  | _ => false

/-- Every WAITING entry whose arm condition holds becomes ARMED (R149). -/
def Coach.armNotices (e : Env) (g : NoticeChange) (c : Coach) : Coach :=
  { c with notices := { c.notices with
      queue := c.notices.queue.map fun n =>
        if n.state = .waiting ∧ armHolds c g n then { n with state := .armed, armedAt := some e.noticeTime } else n } }

/-! ## Selection, hold and chime (R151, R152, R159) -/

/-- An entry is strictly better than another by priority, then last-shown time, then armed time (R151). -/
def Notice.beats (a b : Notice) : Bool :=
  let turn (n : Notice) := (n.lastShown.map (· + 1)).getD 0
  b.priority < a.priority
    || (a.priority = b.priority && (turn a < turn b || (turn a = turn b && a.armedAt.getD 0 < b.armedAt.getD 0)))

/-- The best of a list of entries, the earliest in the queue among equals (R151). -/
def bestNotice : List Notice → Option Notice
  | [] => none
  | n :: ns => some (ns.foldl (fun best m => if m.beats best then m else best) n)

/-- The entry that the selection of R151 makes SHOWN, if it makes a change. -/
def NoticeUnit.selected (u : NoticeUnit) : Option Notice :=
  let armed := u.queue.filter fun n => n.state = .armed
  match u.shown with
  | none => bestNotice armed
  | some s =>
    if armed.any fun n => s.priority < n.priority then bestNotice armed
    else if u.hold.isNone then bestNotice (armed.filter fun n => n.priority = s.priority)
    else none

/-- An entry becomes SHOWN, the entry SHOWN before returns to ARMED, and the hold starts (R151, R152); an ARRIVING entry or one of
priority 3 sounds the chime (R159). -/
def NoticeUnit.showEntry (e : Env) (u : NoticeUnit) (x : Notice) : NoticeUnit :=
  { u with
    queue := u.queue.map fun n =>
      if n.id = x.id then
        { n with state := .shown, lastShown := some e.noticeTime, firstShown := some (n.firstShown.getD e.noticeTime) }
      else if n.state = .shown then { n with state := .armed }
      else n
    hold := some ((e.noticeTime + e.params.showMin * 1000) * perMillisecond)
    chimeUntil := if x.kind = .arriving ∨ x.priority = 3 then some (e.now + chimePulse) else u.chimeUntil }

/-- The selection (R151). -/
def Coach.selectNotice (e : Env) (c : Coach) : Coach :=
  match c.notices.selected with
  | some x => { c with notices := c.notices.showEntry e x }
  | none => c

/-! ## Door side (R157, R158) -/

/-- The mirror of a platform side (R157). -/
def mirrorSide : PlatformSide → PlatformSide
  | .left => .right
  | .right => .left
  | s => s

/-- The door side of a platform side under an orientation (R157). -/
def doorOf (o : Orientation) (s : PlatformSide) : DoorSide :=
  match s with
  | .none => .none
  | .both => .both
  | .left => if o = .bForward then .side2 else .side1
  | .right => if o = .bForward then .side1 else .side2

/-- The door side of a stop record (R157). -/
def StopRec.door (o : Orientation) (r : StopRec) : DoorSide :=
  doorOf o (if r.status = .current ∧ r.reverse then mirrorSide r.side else r.side)

/-- A door side includes SIDE1. -/
def DoorSide.has1 : DoorSide → Bool
  | .side1 | .both => true
  | _ => false

/-- A door side includes SIDE2. -/
def DoorSide.has2 : DoorSide → Bool
  | .side2 | .both => true
  | _ => false

/-- The door sides that light the outputs: of the at-stop record, and of the stop of a SHOWN ARRIVING entry while the fix state is
not DEGRADED (R158). -/
def Coach.litDoors (c : Coach) : List DoorSide :=
  let o := c.journey.orientation
  ((recordAt c.journey.list c.journey.atStop).map (StopRec.door o)).toList
    ++ (c.notices.queue.filter fun n => n.kind = .arriving && n.state = .shown && c.position.fix != .degraded).filterMap
        fun n => (c.stopOf n.stop).map (StopRec.door o)

/-- The door-side outputs are evaluated again (R158). -/
def Coach.evalDoors (c : Coach) : Coach :=
  { c with notices := { c.notices with door1 := c.litDoors.any DoorSide.has1, door2 := c.litDoors.any DoorSide.has2 } }

/-! ## The page (R155, R156) -/

/-- The fields of a page as they stand (R155). -/
def Coach.pageFields (e : Env) (c : Coach) : PageFields :=
  let destination := if c.journey.phase = .empty then none
    else (recordAt c.journey.list (lastCallIndex c.journey.list e.portion)).map StopRec.name
  match c.notices.shown with
  | none => { destination, coach := e.coachNumber }
  | some n =>
    let r := c.stopOf n.stop
    { shown := some n.id
      template := some n.kind
      stopName := r.map StopRec.name
      platform := r.bind StopRec.platform
      arrival := r.bind StopRec.arrival
      door := match r with
        | some r => if r.status = .current ∨ c.position.fix ≠ .degraded then r.door c.journey.orientation else .none
        | none => .none
      textNumber := n.text
      text := (n.text.map fun i => c.notices.texts.getD i []).getD []
      destination
      coach := e.coachNumber }

/-- A change that calls for a page whatever it leaves in the fields: SET CLOCK, and SET TEXT of the text that the SHOWN entry names (R153,
R154, R156). -/
def Coach.callsForPage (c : Coach) (g : NoticeChange) : Bool :=
  match g with
  | .clockSet => true
  | .textSet number => c.notices.shown.any fun n => n.text = some number
  | _ => false

/-- A page falls due when it is called for, or when the SHOWN entry or a field of the page has changed (R156; log entry 23). -/
def Coach.evalPage (e : Env) (called : Bool) (c : Coach) : Coach :=
  { c with notices := { c.notices with
      fields := c.pageFields e
      pageDue := c.notices.pageDue || called || c.pageFields e != c.notices.fields } }

/-! ## One change, in the order of R145 -/

/-- What the reservation unit reads of an entry (R100). -/
structure SeatNotice where
  id : Nat
  kind : NoticeKind
  stop : Option Nat
  state : NoticeState
  deriving DecidableEq, Repr

/-- The NEXT_STOP and ARRIVING entries, whose creations, changes of state and departures are handed to the reservation unit (R100, R145). An
entry that takes the place and the id of another stands for another stop, so that it differs here. -/
def NoticeUnit.seatNotices (u : NoticeUnit) : List SeatNotice :=
  (u.queue.filter fun n => n.kind = .nextStop || n.kind = .arriving).map fun n =>
    { id := n.id, kind := n.kind, stop := n.stop, state := n.state }

/-- The queue after the end tests, the list tests and regeneration (R145). -/
def Coach.noticeQueueStep (e : Env) (g : NoticeChange) (c : Coach) : Coach :=
  match g with
  | .cleared => { c with notices := { c.notices with queue := [], hold := none } }
  | _ =>
    let ended := c.endNotices e (endCause g)
    let tested := ended.endNotices e (listCause e ended g)
    if g.regenerates then tested.regenerate e g else tested

/-- One change is taken by the notice unit (R145); last, the reservation unit is handed what has changed for it. -/
def Coach.notice (e : Env) (g : NoticeChange) (c : Coach) : Coach :=
  let queued := c.noticeQueueStep e g
  let armed := if g.arms then queued.armNotices e g else queued
  let chosen := armed.selectNotice e
  let d := chosen.evalDoors.evalPage e (armed.notices.selected.isSome || chosen.callsForPage g)
  if d.notices.seatNotices = c.notices.seatNotices then d else d.refresh e

end Sys2Proof.Machine
end

