-- ==== Sys2Proof/Machine/Progress.lean ====
section
/-! DEFINITION. The journey unit's progress: arrival, departure, run-through, passing, the progress evaluation, and what a list change,
a commit, an amendment or a change of portion does (chapter 1). -/

namespace Sys2Proof.Machine

open Sys2Proof.Config

/-- A change of the journey unit's fields. -/
def Coach.onJourney (f : Journey → Journey) (c : Coach) : Coach := { c with journey := f c.journey }

/-- The report of a progress event: the stop code and the estimate in metres (R18, R20, R21). -/
def Coach.progressReport (c : Coach) (kind : ReportKind) (code : Nat) : Report :=
  { kind, stop := some code, position := c.position.metres }

/-! ## Arrival (R18, R19, R23) -/

/-- The orientation after an arrival at a REVERSE stop (R23). -/
def flip : Orientation → Orientation
  | .bForward => .aForward
  | _ => .bForward

/-- The journey fields after an arrival at an index, with the departure point (R18). -/
def arriveAt (portion : Fin 4) (i : Nat) (r : StopRec) (departurePoint : Nat) (j : Journey) : Journey :=
  { j with
    list := setStatus j.list i .current
    atStop := some i
    departurePoint := some departurePoint
    orientation := if r.reverse then flip j.orientation else j.orientation
    phase := if lastCall j.list portion i then .terminated else j.phase }

/-- An arrival: the fields, the ARRIVED report, and the hand-over to the readers of progress after the orientation flip (R18). -/
def Coach.arrive (e : Env) (i : Nat) (r : StopRec) (departurePoint : Nat) (c : Coach) : Coach :=
  ((((c.onJourney (arriveAt e.portion i r departurePoint)).raise e (c.progressReport .arrived r.code)).reserveArrival e i).notice e
    (.arrival r.code)).mapTarget e

/-! ## Departure and run-through (R20, R21) -/

/-- The lowest index, from a given one on, with status AHEAD that is calling for this coach (R14). -/
def nextAhead (portion : Fin 4) (list : List StopRec) (from' : Nat) : Option Nat :=
  findFrom list from' fun r => r.status = .ahead && r.callsAt portion

/-- Last departed after a stop is left or run through: it moves to the stop, but never below the index it had (R16, R20, R21). DESIGN
CHOICE where R14 has made a stop behind last departed the next calling stop (log entry 38). -/
def leave (i : Nat) (j : Journey) : Option Nat := some (max i (j.lastDeparted.getD 0))

/-- The journey fields after a departure from an index (R20). DESIGN CHOICE: next calling is the lowest following calling record that is
still AHEAD, so that a record passed stays PASSED (R5, R14); with none the journey is TERMINATED (log entry 37). DESIGN CHOICE: it is sought
after the departed stop alone, as R20 says, so that a record below it that a new portion or an amendment has made calling stays AHEAD, with
no run-through (R14, R40; log entry 44). -/
def departFrom (portion : Fin 4) (i : Nat) (j : Journey) : Journey :=
  let next := nextAhead portion j.list (i + 1)
  { j with
    list := setStatus j.list i .departed
    lastDeparted := leave i j
    atStop := none
    departurePoint := none
    nextCalling := next
    phase := if next.isNone then .terminated else if j.phase = .staged then .inService else j.phase }

/-- A departure (R20). -/
def Coach.depart (e : Env) (i : Nat) (r : StopRec) (c : Coach) : Coach :=
  ((((c.onJourney (departFrom e.portion i)).raise e (c.progressReport .departed r.code)).reserveDeparture e r.code).notice e
    (.departure r.code)).mapWindow e

/-- The journey fields after a run-through of an index (R21). DESIGN CHOICE, as at a departure: only a record still AHEAD becomes next
calling (log entry 37). -/
def runThroughOf (portion : Fin 4) (i : Nat) (j : Journey) : Journey :=
  let next := nextAhead portion j.list (i + 1)
  { j with
    list := setStatus j.list i .runThrough
    lastDeparted := leave i j
    nextCalling := next
    phase := if next.isNone then .terminated else if j.phase = .staged then .inService else j.phase }

/-- A run-through (R21). -/
def Coach.runThrough (e : Env) (i : Nat) (r : StopRec) (c : Coach) : Coach :=
  ((((c.onJourney (runThroughOf e.portion i)).raise e (c.progressReport .stopPassed r.code)).reserveRunThrough e i r.code).notice e
    (.runThrough r.code)).mapWindow e

/-! ## The progress evaluation (R17) -/

/-- The journey runs: STAGED or IN_SERVICE (R17). -/
def Phase.running : Phase → Bool
  | .staged | .inService => true
  | _ => false

/-- Step 1: departure, if at stop is set and the estimate exceeds the departure point (R20). -/
def Coach.evalDeparture (e : Env) (c : Coach) : Coach :=
  match c.journey.atStop, c.journey.departurePoint with
  | some i, some d =>
    match c.journey.list[i]? with
    | some r => if c.position.exceeds d then c.depart e i r else c
    | none => c
  | _, _ => c

/-- Step 2: run-through, repeated while it applies (R21). A list holds at most as many run-throughs as records. -/
def Coach.evalRunThrough (e : Env) : Nat → Coach → Coach
  | 0, c => c
  | n + 1, c =>
    match c.journey.atStop, c.journey.nextCalling with
    | none, some i =>
      match c.journey.list[i]? with
      | some r =>
        if c.journey.phase.running ∧ c.position.exceeds (r.position + e.params.platformWin) then
          (c.runThrough e i r).evalRunThrough e n
        else c
      | none => c
    | _, _ => c

/-- Step 3: records not calling for this coach that lie behind take PASSED (R22). -/
def passRecord (e : Env) (p : Position) (r : StopRec) : StopRec :=
  if r.status = .ahead ∧ ¬ r.callsAt e.portion ∧ p.exceeds (r.position + e.params.platformWin) then { r with status := .passed } else r

/-- Step 3 on the active list (R22). -/
def Coach.evalPassing (e : Env) (c : Coach) : Coach :=
  c.onJourney fun j => { j with list := j.list.map (passRecord e c.position) }

/-- Step 4: arrival (R18). -/
def Coach.evalArrival (e : Env) (c : Coach) : Coach :=
  match c.journey.atStop, c.journey.nextCalling with
  | none, some i =>
    match c.journey.list[i]? with
    | some r =>
      if c.position.motion.stopped ∧ c.position.within r.position e.params.platformWin then
        c.arrive e i r (r.position + e.params.platformWin)
      else c
    | none => c
  | _, _ => c

/-- A step of the evaluation, taken only in the STAGED and IN_SERVICE phases (R17). -/
def Coach.whileRunning (f : Coach → Coach) (c : Coach) : Coach := if c.journey.phase.running then f c else c

/-- The progress evaluation (R17). -/
def Coach.evaluate (e : Env) (c : Coach) : Coach :=
  let c1 := c.whileRunning (Coach.evalDeparture e)
  let c2 := c1.whileRunning (Coach.evalRunThrough e c1.journey.list.length)
  let c3 := c2.whileRunning (Coach.evalPassing e)
  c3.whileRunning (Coach.evalArrival e)

/-! ## Commit (R10, R11, R12) -/

/-- The journey fields of a new journey on a list (R10). -/
def newJourney (portion : Fin 4) (list : List StopRec) (j : Journey) : Journey :=
  { j with
    list := list.map fun r => { r with status := .ahead }
    lastDeparted := none
    atStop := none
    nextCalling := nextCall list portion 0
    departurePoint := none
    phase := .staged }

/-- The progress point in a new list (R11): the remapped last departed and at-stop indices, or none where the remap cannot be made. -/
def remapPoint (portion : Fin 4) (list : List StopRec) (j : Journey) : Option (Option Nat × Option Nat) :=
  let oldLast := codeAt j.list j.lastDeparted
  let last := oldLast.bind (findCode list)
  let at' := (codeAt j.list j.atStop).bind (findCode list)
  let kept := at'.filter fun i => (list[i]?).any (StopRec.callsAt portion) && last.all (· < i)
  if oldLast.isSome ∧ last.isNone then none
  else if kept.isNone ∧ (nextCall list portion (last.elim 0 (· + 1))).isNone then none
  else some (last, kept)

/-- The status that the last departed record had in the old list: DEPARTED or RUN_THROUGH (R11). -/
def oldStatus (j : Journey) : StopStatus := ((recordAt j.list j.lastDeparted).map StopRec.status).getD .departed

/-- The status of a record of the new list (R11). -/
def remapStatus (portion : Fin 4) (was : StopStatus) (last at' : Option Nat) (i : Nat) (r : StopRec) : StopStatus :=
  if last = some i then was
  else if last.any (i < ·) then (if r.callsAt portion then .departed else .passed)
  else if at' = some i then .current
  else if at'.any (i < ·) then (if r.callsAt portion then .runThrough else .passed)
  else .ahead

/-- Last departed after the remap: the highest calling record that the at-stop stop skips, if there is one (R11). -/
def remapLast (portion : Fin 4) (list : List StopRec) (last at' : Option Nat) : Option Nat :=
  match at' with
  | some a =>
    match (List.range a).reverse.find? fun i => (list[i]?).any (StopRec.callsAt portion) && last.all (· < i) with
    | some i => some i
    | none => last
  | none => last

/-- The journey fields after a commit in the STAGED or IN_SERVICE phase (R11). -/
def remapped (e : Env) (list : List StopRec) (last at' : Option Nat) (j : Journey) : Journey :=
  let last' := remapLast e.portion list last at'
  { j with
    list := list.mapIdx fun i r => { r with status := remapStatus e.portion (oldStatus j) last at' i r }
    lastDeparted := last'
    atStop := at'
    nextCalling := match at' with
      | some i => some i
      | none => nextCall list e.portion (last'.elim 0 (· + 1))
    departurePoint := (recordAt list at').map fun r => max (j.departurePoint.getD 0) (r.position + e.params.platformWin)
    phase := if at'.any (lastCall list e.portion) then .terminated else if last'.isSome then .inService else .staged }

/-- The COMMIT change is handed to the reservation, notice and map units and the seat-line controllers, then progress is evaluated (R12). -/
def Coach.committed (e : Env) (old : List StopRec) (fresh : Bool) (c : Coach) : Coach :=
  ((((c.markStale).reserveCommit e old).notice e (.commit fresh)).mapWindow e).evaluate e

/-! ## Amendment and portion (R13, R14, R40) -/

/-- The calling-set recalculation (R14). Next calling is sought in the whole list, so that it may lie below last departed (DESIGN CHOICE,
log entry 38). -/
def recalculate (portion : Fin 4) (j : Journey) : Journey :=
  let next := match j.atStop with
    | some i => some i
    | none => nextAhead portion j.list 0
  let ended := match j.atStop with
    | some i => lastCall j.list portion i
    | none => next.isNone && j.phase.running
  { j with nextCalling := next, phase := if ended then .terminated else j.phase }

/-- The AMENDMENT or PORTION change is handed to the reservation, notice and map units, then progress is evaluated (R13, R40). -/
def Coach.amended (e : Env) (c : Coach) : Coach :=
  (((c.reserveAmend e).notice e .amendment).mapWindow e).evaluate e

/-! ## The EMPTY change (R26) -/

/-- The journey unit after RESTART COACH (R26). -/
def emptied (j : Journey) : Journey := { orientation := j.orientation }

/-- The EMPTY change is handed to the reservation, notice and map units (R26); the seat-line controllers mark no block (R117). -/
def Coach.handEmpty (e : Env) (c : Coach) : Coach :=
  ((c.reserveEmpty e).notice e .cleared).mapWindow e

end Sys2Proof.Machine
end

