-- ==== Sys2Proof/Machine/Motion.lean ====
section
/-! DEFINITION. The position unit: applied edges, window records, coasting, the fix state and position fixes, and what it hands to the
other blocks (chapters 3 and 4). -/

namespace Sys2Proof.Machine

open Sys2Proof.Config

/-- The top of the estimate's range, in units (R62). -/
def estimateTop : Nat := 4000000000 * perMillimetre

/-- A change of the estimate, clamped to its range (R62). -/
def moveEstimate (estimate : Nat) (d : Int) : Nat := (max 0 (min (estimateTop : Int) (estimate + d))).toNat

/-- A change of the position unit's fields. -/
def Coach.onPosition (f : Position → Position) (c : Coach) : Coach := { c with position := f c.position }

/-! ## Hand-over (R62, R63, R73) -/

/-- A position change, a change of motion state or both, made at one event, are handed to the reservation, notice and map units, and the
journey unit then evaluates progress (R17, R62, R63; log entry 12). With STEP_DISCARD ON a change to STANDSTILL works the target out again
before the marker jumps (R171). -/
def Coach.handPosition (e : Env) (before : Position) (c : Coach) : Coach :=
  let moved := c.position.estimate != before.estimate
  let turned := c.position.motion.stopped != before.motion.stopped
  let c1 := if moved then (c.reservePosition e).notice e .position else c
  let c2 := if moved || (turned && c.position.motion.stopped && e.params.stepDiscard) then c1.mapTarget e else c1
  let c3 := if turned then c2.mapMotion e else c2
  if moved || turned then c3.evaluate e else c3

/-- A change of the fix state is handed on (R73): the condition POSITION_DEGRADED, the reservation unit when it becomes FIXED, and the
notice unit. -/
def Coach.setFix (e : Env) (f : FixState) (c : Coach) : Coach :=
  if c.position.fix = f then c
  else
    let c1 := (c.onPosition fun p => { p with fix := f }).flagBoth .positionDegraded (f == .degraded)
    (if f = .fixed then c1.reserveFixed e else c1).notice e .other

/-! ## Applied edges (R50) -/

/-- Step 1: orientation learnt from the first edge in STAGED (R23). -/
def Coach.learnOrientation (e : Env) (d : EdgeDir) (c : Coach) : Coach :=
  if c.journey.phase = .staged ∧ c.journey.orientation = .unset then
    (c.onJourney fun j => { j with orientation := if d = .towardA then .aForward else .bForward }).notice e .other
  else c

/-- Steps 4 and 7: in STANDSTILL and MOVING the position unit adds an edge to the estimate, and the motion state is then MOVING; in COASTING
it does neither (R50, R59, R62, R66). -/
def addEdge (forward : Bool) (q : Nat) (p : Position) : Position :=
  match p.motion with
  | .coasting _ => p
  | _ =>
    let moved := moveEstimate p.estimate (signed forward q)
    { p with
      estimate := moved
      contribution := p.contribution + ((moved : Int) - p.estimate)
      lastForward := some forward
      motion := .moving }

/-- Steps 3, 5 and 6 in the axle unit: odometer, window edge count and FIFO (R50). -/
def Axle.applyEdge (forward : Bool) (q : Nat) (t : Stamp) (x : Axle) : Axle :=
  { x.push t with odometer := saturate64 (x.odometer + signed forward q), edges := min 65535 (x.edges + 1) }

/-- An applied edge that finds STANDSTILL makes the still count 0 (R59). -/
def Axle.leaveStill (stopped : Bool) (x : Axle) : Axle := if stopped then { x with stillCount := 0 } else x

/-- An edge is applied (R50). A change from STANDSTILL to MOVING is handed on with the position change of the same edge (R63; log entry
14). -/
def Coach.applyEdge (e : Env) (d : EdgeDir) (c : Coach) (t : Stamp) : Coach :=
  let c1 := c.learnOrientation e d
  let forward := isForward c1.journey.orientation d
  let q := e.params.edgeUnits
  Coach.handPosition e c1.position
    { c1 with
      position := addEdge forward q c1.position
      axle := (c1.axle.applyEdge forward q t).leaveStill c1.position.motion.stopped }

/-- A legal edge: the decoder takes the sample, and while AXLE_FAULT is clear the direction filter takes the edge (R43, R46, R47). -/
def Coach.axleEdge (e : Env) (ch : AxleChannel) (t : Stamp) (c : Coach) : Coach :=
  match c.axle.pair with
  | none => c
  | some pair =>
    let new := toggled ch pair
    let c1 := { c with axle := { c.axle with pair := some new } }
    match decodeSample pair new with
    | .edge d =>
      if c1.axle.fault then c1
      else
        let f := c1.axle.filter e.params.revEdges d t
        f.2.foldl (fun c t => c.applyEdge e d t) { c1 with axle := f.1 }
    | _ => c1

/-! ## Coasting (R66 to R72) -/

/-- The coast decrement (R67). -/
def coastDecrement (p : Params) (v : Nat) : Nat :=
  let d := (p.coastFriction + p.coastDamping * v / 65536) / p.coastInertia
  if d = 0 ∧ 0 < v then 1 else d

/-- A COAST_END or COAST_BEGIN report at the estimate as it stands (R66, R70, R71). -/
def Coach.coastReport (c : Coach) (kind : ReportKind) (note : ReportNote) (value : Option Int) : Report :=
  { kind, position := c.position.metres, note, value }

/-- The motion state becomes STANDSTILL and the capture FIFO is emptied (R53, R58). -/
def Coach.toStandstill (c : Coach) : Coach :=
  { c with position := { c.position with motion := .standstill, accepted := 0 }, axle := c.axle.emptyFifo }

/-- The zero exit (R71). -/
def Coach.zeroExit (e : Env) (c : Coach) : Coach :=
  let c1 := c.toStandstill.setFix e .degraded
  c1.raise e (c1.coastReport .coastEnd .zero none)

/-- The agreement exit (R70). -/
def Coach.agreementExit (e : Env) (speed : Nat) (c : Coach) : Coach :=
  let c1 := c.onPosition fun p => { p with motion := .moving, accepted := speed }
  c1.raise e (c1.coastReport .coastEnd .agreed none)

/-- The coast limit test (R72). -/
def Coach.coastLimit (e : Env) (k : Coast) (c : Coach) : Coach :=
  if e.params.coastLimit ≤ k.windows ∧ ¬ k.limit then
    (c.onPosition fun p => { p with motion := .coasting { k with limit := true } }).setFix e .degraded
  else c.onPosition fun p => { p with motion := .coasting k }

/-- A record agrees with the coast estimate (R70); the record that began the coast does not. -/
def agrees (p : Params) (r : WindowRecord) (began : Bool) (speed : Nat) : Bool :=
  match r.speed with
  | some v => !began && max v speed - min v speed ≤ p.agreeTol
  | none => false

/-- The coasting window close (R68): decrement, advance, count, zero exit, agreement test, limit test. -/
def Coach.coastClose (e : Env) (r : WindowRecord) (began : Bool) (k : Coast) (c : Coach) : Coach :=
  let speed := k.speed - coastDecrement e.params k.speed
  let step : Int := (speed * 65536 / 10 : Nat)
  let c1 := c.onPosition fun p => { p with estimate := moveEstimate p.estimate (if k.forward then step else -step) }
  let windows := min 65535 (k.windows + 1)
  if speed = 0 then c1.zeroExit e
  else
    let agree := if agrees e.params r began speed then k.agree + 1 else 0
    if 3 ≤ agree then c1.agreementExit e speed
    else c1.coastLimit e { k with speed, agree, windows }

/-- Coasting begins (R66). -/
def Coach.coastBegin (e : Env) (r : WindowRecord) (c : Coach) : Coach :=
  let k : Coast := { speed := c.position.accepted, forward := c.position.lastForward.getD true, agree := 0, windows := 0, limit := false }
  let c1 := c.onPosition fun p =>
    { p with motion := .coasting k, estimate := moveEstimate p.estimate (-p.contribution), contribution := 0 }
  let report := match r.speed with
    | some v => c1.coastReport .coastBegin .none (some (v : Int))
    | none => c1.coastReport .coastBegin .fault none
  (c1.raise e report).coastClose e r true k

/-- The position unit takes a window record (R58, R64, R65). -/
def Coach.takeRecord (e : Env) (r : WindowRecord) (c : Coach) : Coach :=
  match c.position.motion with
  | .standstill => c.onPosition fun p => { p with accepted := r.speed.getD 0 }
  | .moving =>
    if r.still then c.toStandstill
    else match r.speed with
      | none => c.coastBegin e r
      | some v =>
        let a := c.position.accepted
        if slideFloor ≤ a ∧ e.params.slideLimit < max v a - min v a then c.coastBegin e r
        else c.onPosition fun p => { p with accepted := v }
  | .coasting k => c.coastClose e r false k

/-- A window close (R54, R62): the record is formed and taken, the window contribution becomes 0, and the changes are handed on as one. -/
def Coach.windowClose (e : Env) (c : Coach) : Coach :=
  let c1 := { c with axle := c.axle.close e.params }
  let c2 := (c1.takeRecord e c1.axle.last).onPosition fun p => { p with contribution := 0 }
  c2.handPosition e c.position

/-! ## Position fixes (R75, R76, R19) -/

/-- The discrepancy of a fix position in metres (R75). -/
def Coach.discrepancy (c : Coach) (position : Nat) : Int := (position : Int) - c.position.metres

/-- Steps 1 to 3 of an applied fix (R76). -/
def placeEstimate (position : Nat) (p : Position) : Position :=
  { p with
    estimate := position * perMetre
    contribution := 0
    motion := match p.motion with
      | .coasting k => .coasting { k with windows := 0, limit := false }
      | m => m }

/-- The arrival that a STATION fix for next calling makes at standstill (R19). -/
def Coach.stationArrival (e : Env) (position : Nat) (stop : Option Nat) (c : Coach) : Coach :=
  match c.journey.atStop, c.journey.nextCalling, stop with
  | none, some i, some code =>
    match c.journey.list[i]? with
    | some r =>
      if c.journey.phase.running ∧ c.position.motion.stopped ∧ r.code = code then
        c.arrive e i r (max r.position position + e.params.platformWin)
      else c
    | none => c
  | _, _, _ => c

/-- A fix is applied (R75, R76): the FIX_JUMP report, the estimate, the fix state, the position change to the other blocks, the arrival of a
STATION fix and the progress evaluation. `station` is the stop code of a fix of kind STATION. -/
def Coach.applyFix (e : Env) (position : Nat) (stop station : Option Nat) (c : Coach) : Coach :=
  let d := c.discrepancy position
  let c1 := if e.params.fixTol < d.natAbs then
      c.raise e { kind := .fixJump, stop := stop, position := position, value := some d }
    else c
  let c2 := (c1.onPosition (placeEstimate position)).setFix e .fixed
  let c3 := if c2.position.estimate != c.position.estimate then ((c2.reservePosition e).notice e .position).mapTarget e else c2
  let c4 := c3.stationArrival e position station
  if c2.position.estimate != c.position.estimate then c4.evaluate e else c4

end Sys2Proof.Machine
end

