-- ==== Sys2Proof/Machine/Occupancy.lean ====
section
/-! DEFINITION. The occupancy unit: filter, baseline, thresholds, debounce, reseed and UNKNOWN (chapter 7). -/

namespace Sys2Proof.Machine

/-- The enter threshold (R131). -/
def enterThreshold (p : Params) : Int := p.occThreshold

/-- The exit threshold (R131). -/
def exitThreshold (p : Params) : Int := (p.occThreshold * (256 - p.hyst) / 256 : Nat)

/-- A step toward a target by a power of two, rounded toward minus infinity (R129). -/
def approach (from' target shift : Nat) : Nat :=
  ((from' : Int) + Int.fdiv ((target : Int) - from') (2 ^ shift : Nat)).toNat

/-- The filter step (R129 step 3). -/
def filterStep (p : Params) (f c : Nat) : Nat := approach f (c * 256) p.beta

/-- The delta in whole counts (R129 step 4). -/
def deltaOf (b f : Nat) : Int := (b / 256 : Nat) - (f / 256 : Nat)

/-- A sample taken in SETTLING (R130). -/
def settleStep (p : Params) (c : Nat) (x : Sensor) : Sensor :=
  match x.seeded, x.filtered with
  | true, some f =>
    let g := filterStep p f c
    if 8 ≤ x.settle + 1 then { x with state := .vacant, filtered := some g, baseline := some g, settle := 0, debounce := 0 }
    else { x with filtered := some g, baseline := some g, settle := x.settle + 1 }
  | _, _ => { x with seeded := true, filtered := some (c * 256), baseline := some (c * 256), settle := 0 }

/-- The state step and the baseline step of a sample past settling, with the new f, the baseline b and the delta (R129 steps 5 and 6,
R132, R133, R134). -/
def stateStep (p : Params) (f b : Nat) (delta : Int) (x : Sensor) : Sensor :=
  match x.state with
  | .vacant =>
    if delta < 0 ∧ enterThreshold p < -delta then { x with baseline := some f }
    else if enterThreshold p < delta then
      if p.debIn ≤ 1 then { x with state := .occupied } else { x with state := .entering, debounce := 1 }
    else { x with baseline := some (approach b f p.ltaShift) }
  | .entering =>
    if enterThreshold p < delta then
      if p.debIn ≤ x.debounce + 1 then { x with state := .occupied, debounce := 0 } else { x with debounce := x.debounce + 1 }
    else { x with state := .vacant, debounce := 0 }
  | .occupied =>
    if delta < exitThreshold p then
      if p.debOut ≤ 1 then { x with state := .vacant } else { x with state := .leaving, debounce := 1 }
    else x
  | .leaving =>
    if delta < exitThreshold p then
      if p.debOut ≤ x.debounce + 1 then { x with state := .vacant, debounce := 0 } else { x with debounce := x.debounce + 1 }
    else { x with state := .occupied, debounce := 0 }
  | .unknown | .settling => x

/-- A sample is taken (R129). -/
def Sensor.sample (p : Params) (c : Nat) (x : Sensor) : Sensor :=
  match x.state with
  | .unknown => x
  | .settling => settleStep p c x
  | _ =>
    match x.filtered, x.baseline with
    | some f, some b =>
      let g := filterStep p f c
      stateStep p g b (deltaOf b g) { x with filtered := some g }
    | _, _ => x

/-- A place reseeded (R136). -/
def Sensor.reseeded : Sensor := { state := .settling }

/-- A place handed UNKNOWN (R137). -/
def Sensor.lost : Sensor := {}

/-- The seat with a place, if its state has changed, is taken by the reservation unit (R139). -/
def Coach.changeSensor (e : Env) (p : PlaceId) (f : Sensor → Sensor) (c : Coach) : Coach :=
  let d := { c with sensors := c.sensors.set p.index (f (c.sensor p)) }
  if (d.sensor p).state = (c.sensor p).state then d else d.reservePlace e p

/-- A sample handed for a place (R123, R129). -/
def Coach.samplePlace (e : Env) (count : Nat) (c : Coach) (p : PlaceId) : Coach := c.changeSensor e p (Sensor.sample e.params count)

/-- A place is reseeded (R136). -/
def Coach.reseedPlace (e : Env) (c : Coach) (p : PlaceId) : Coach := c.changeSensor e p fun _ => Sensor.reseeded

/-- A place is handed UNKNOWN (R137). -/
def Coach.losePlace (e : Env) (c : Coach) (p : PlaceId) : Coach := c.changeSensor e p fun _ => Sensor.lost

/-- Both places of a module, in place order. -/
def bothPlaces (line : Fin 4) (m : Fin 16) : List PlaceId := [⟨line, m, 0⟩, ⟨line, m, 1⟩]

/-- The places present in a module: place 0, and place 1 unless its place count is 1 (R121, R123, R138). -/
def presentPlaces (line : Fin 4) (m : Fin 16) (x : Module) : List PlaceId :=
  if x.places = some 1 then [⟨line, m, 0⟩] else bothPlaces line m

/-- Every place of every module of a line, in increasing module id and place. -/
def linePlaces (line : Fin 4) : List PlaceId := (List.finRange 16).flatMap (bothPlaces line)

/-- Every place of a line is handed UNKNOWN (R107, R114). -/
def Coach.loseLine (e : Env) (line : Fin 4) (c : Coach) : Coach := (linePlaces line).foldl (Coach.losePlace e) c

/-! ## RESEED SEATS (R138) -/

/-- A place is eligible for RESEED SEATS (R138). -/
def Coach.eligible (c : Coach) (p : PlaceId) : Bool :=
  let l := c.lines.get p.line
  l.running && (l.module p.module).health = .healthy && (p.place = 0 || (l.module p.module).places != some 1)

/-- The places ALL names: every place of every module below its line's module count (R138). -/
def Coach.allPlaces (c : Coach) : List PlaceId :=
  (List.finRange 4).flatMap fun l =>
    ((List.finRange 16).filter fun m => m.val < (c.lines.get l).moduleCount).flatMap (bothPlaces l)

end Sys2Proof.Machine
end

