-- ==== Sys2Proof/Machine/SeatTransfer.lean ====
section
/-! DEFINITION. The seat-line controllers: frames, the schedule, transfers that succeed or fail, module health, the stuck watch and SEAT LINE
CONTROL (chapter 6). -/

namespace Sys2Proof.Machine

open Sys2Proof.Config

/-! ## Time on a line -/

/-- One bit time of a line (R105). -/
def BitRate.period : BitRate → Nat
  | .b9600 => 2500
  | .b19200 => 1250

/-- Bit times from the start of the break to the end of the address character (R109). -/
def SeatLine.openingBits (l : SeatLine) : Nat := l.breakBits + 21

/-- The end of a frame that the part sends: opening, data and check characters (R109). -/
def SeatLine.sentAt (l : SeatLine) (f : SeatFrame) : Nat :=
  f.start + (l.openingBits + 10 * (f.data.length + 1)) * l.bitRate.period

/-- The data characters a module answers a command with (R110, R113). -/
def SeatCmd.answer : SeatCmd → Nat
  | .poll => 4
  | .ident => 2
  | _ => 0

/-- The end of the allowed time of a POLL or IDENT (R113). -/
def SeatLine.timeoutAt (l : SeatLine) (f : SeatFrame) : Nat :=
  f.start + (l.openingBits + l.rtFactor * (f.cmd.answer + 1)) * l.bitRate.period

/-- A module answers the command (R110). -/
def SeatCmd.isQuery : SeatCmd → Bool
  | .poll | .ident => true
  | _ => false

/-- The line states of R105. -/
inductive LineState where
  | off
  | setup
  | idle
  | break'
  | delimiter
  | sync
  | address
  | dataOut
  | dataIn
  | check
  | stuck
  deriving DecidableEq, Repr

/-! ## The characters of a frame (R109 to R112) -/

/-- The characters that the part sends in a frame: sync, address, and in SHOW, LEVEL and NAMES the data and check characters (R109, R111). -/
def SeatFrame.chars (f : SeatFrame) : List Byte :=
  let address := addressChar f.module f.cmd
  0xA5#8 :: address :: if f.cmd.isQuery then [] else f.data ++ [checkChar (address :: f.data)]

/-- The bit times of a frame that have passed. -/
def SeatLine.bitsPassed (l : SeatLine) (f : SeatFrame) (now : Nat) : Nat := (now - f.start) / l.bitRate.period

/-- A bit time of the characters that the part sends, counted from the start bit of the sync character, is dominant: the start bit and each
0, bit 0 first (R109). -/
def SeatFrame.dominantBit (f : SeatFrame) (n : Nat) : Bool :=
  match f.chars[n / 10]?, n % 10 with
  | some _, 0 => true
  | some c, k + 1 => k < 8 && !c.getLsbD k
  | none, _ => false

/-- The part drives a bit time of a frame after its break dominant (R109). -/
def SeatLine.drives (l : SeatLine) (f : SeatFrame) (bit : Nat) : Bool := l.breakBits < bit && f.dominantBit (bit - l.breakBits - 1)

/-- The first of the bit times driven dominant in a row up to, not with, a given one. -/
def SeatLine.firstDriven (l : SeatLine) (f : SeatFrame) : Nat → Nat
  | 0 => 0
  | n + 1 => if l.drives f n then l.firstDriven f n else n + 1

/-- The moment from which the part itself has driven the line dominant without a break, up to now or beyond (R109, R114). -/
def SeatLine.drivenSince (l : SeatLine) (f : SeatFrame) (now : Nat) : Option Nat :=
  let bit := l.bitsPassed f now
  let first := l.firstDriven f bit
  if l.drives f bit ∨ (first < bit ∧ now = f.start + bit * l.bitRate.period) then some (f.start + first * l.bitRate.period) else none

/-! ## The answer of a module (R113) -/

/-- The moment at which a character that has begun has arrived: its stop bit is sampled in the middle of its tenth bit time (R113). -/
def SeatLine.arrivesAt (l : SeatLine) (begun : Nat) : Nat := begun + 19 * l.bitRate.period / 2

/-- How many characters of the answer have arrived (R113). -/
def SeatLine.arrived (l : SeatLine) (f : SeatFrame) (now : Nat) : Nat := (f.begun.filter fun t => l.arrivesAt t ≤ now).length

/-- The line goes dominant in a frame: while a module answers and no character of it is being received, a character begins (R113; log entry
20). -/
def SeatLine.hear (now : Nat) (l : SeatLine) (f : SeatFrame) : SeatFrame :=
  if f.cmd.isQuery ∧ l.openingBits ≤ l.bitsPassed f now ∧ l.arrived f now = f.begun.length ∧ f.begun.length ≤ f.cmd.answer then
    { f with begun := f.begun ++ [now] }
  else f

/-- The line state of a frame in progress, by the bit times since its break began (R105, R109), and while a module answers by the characters
that have arrived: the one after the data characters is the check character (R113; log entry 20). -/
def SeatLine.frameState (l : SeatLine) (f : SeatFrame) (now : Nat) : LineState :=
  let bits := l.bitsPassed f now
  if bits < l.breakBits then .break'
  else if bits < l.breakBits + 1 then .delimiter
  else if bits < l.breakBits + 11 then .sync
  else if bits < l.openingBits then .address
  else if f.cmd.isQuery then (if l.arrived f now < f.cmd.answer then .dataIn else .check)
  else if bits < l.openingBits + 10 * f.data.length then .dataOut
  else .check

/-- The line state (R105). -/
def SeatLine.state (l : SeatLine) (now : Nat) : LineState :=
  match l.activity with
  | .off => .off
  | .setup => .setup
  | .idle => .idle
  | .frame f => l.frameState f now
  | .stuck => .stuck

/-- The moment from which the line has been dominant without a break outside BREAK: by other devices, or by the part itself (R114). -/
def SeatLine.runSince (l : SeatLine) (now : Nat) : Option Nat :=
  match l.dominantSince, l.activity with
  | some t, _ => some t
  | none, .frame f => l.drivenSince f now
  | none, _ => none

/-- The dominant run in bit times, 0 to 30 (R114). R114 counts it in the running states, and sets it 0 at the return of a STUCK line to IDLE;
what it reads while the line is STUCK is the model's choice (DESIGN CHOICE, log entry 47): 30 until the next recessive level, then 0. -/
def SeatLine.dominantRun (l : SeatLine) (now : Nat) : Nat :=
  match l.runSince now with
  | some t => min 30 ((now - t) / l.bitRate.period)
  | none => 0

/-- A change of one line. -/
def Coach.onLine (i : Fin 4) (f : SeatLine → SeatLine) (c : Coach) : Coach :=
  { c with lines := c.lines.set i (f (c.lines.get i)) }

/-- A change of one module record. -/
def SeatLine.onModule (m : Fin 16) (f : Module → Module) (l : SeatLine) : SeatLine := l.setModule m (f (l.module m))

/-- The line enters IDLE: its recessive count starts (R109, R115). -/
def SeatLine.toIdle (now : Nat) (l : SeatLine) : SeatLine := { l with activity := .idle, recessiveSince := now }

/-! ## The schedule (R115 to R117) -/

/-- The number of a displayed state on the wire (R195). -/
def Displayed.number : Displayed → Nat
  | .noInfo => 0
  | .outOfUse => 1
  | .reserved => 2
  | .ending => 3
  | .freeUntil => 4
  | .releasedFree => 5
  | .free => 6

/-- The characters of display content in a SHOW: state, first and second stop index, 255 for an absent stop (R110, R195). -/
def Content.chars (x : Content) : List Byte :=
  [BitVec.ofNat 8 x.shown.number, ((x.stops[0]?).map fun s => BitVec.ofNat 8 s.1).getD 255, ((x.stops[1]?).map fun s => BitVec.ofNat 8 s.1).getD 255]

/-- The content of a place: that of the seat that names it, or NO_INFO (R110). -/
def Coach.placeContent (c : Coach) (p : PlaceId) : Content :=
  ((c.seats.find? fun s => s.placeId = p).map Seat.content).getD .noInfo

/-- The data characters of a SHOW frame (R110). -/
def Coach.showData (c : Coach) (line : Fin 4) (m : Fin 16) : List Byte :=
  (bothPlaces line m).flatMap fun p => (c.placeContent p).chars

/-- The name of a stop index in a NAMES frame (R110). -/
def Coach.nameOf (c : Coach) (i : Nat) : List Byte :=
  ((c.journey.list[i]?).map fun r => nameChars r.name).getD blankName

/-- The data characters of a NAMES frame (R110). -/
def Coach.namesData (c : Coach) (block : Nat) : List Byte :=
  BitVec.ofNat 8 block :: (List.range 4).flatMap fun i => c.nameOf (4 * block + i)

/-- The lowest stale name block (R115). -/
def SeatLine.lowestStale (l : SeatLine) : Option Nat := (List.range 16).find? fun b => l.stale.getLsbD b

/-- The lowest module id whose LEVEL pending mark is set (R115). -/
def SeatLine.lowestLevel (l : SeatLine) : Option (Fin 16) := (List.finRange 16).find? fun m => (l.module m).levelPending

/-- The frame and the line left by the service slot, if anything waits (R115): the item is taken when the break begins (R116, R117). -/
def Coach.serviceFrame (c : Coach) (i : Fin 4) (now : Nat) : Option (SeatFrame × SeatLine) :=
  let l := c.lines.get i
  match l.lowestStale, l.showQueue, l.lowestLevel with
  | some b, _, _ =>
    some ({ cmd := .names, module := 0, block := b, data := c.namesData b, start := now }, { l with stale := l.stale &&& ~~~ (1#16 <<< b) })
  | none, m :: ms, _ =>
    some ({ cmd := .showContent, module := m, block := 0, data := c.showData i m, start := now }, { l with showQueue := ms })
  | none, [], some m =>
    some ({ cmd := .level, module := m, block := 0, data := [BitVec.ofNat 8 l.labelLevel], start := now },
      l.onModule m fun x => { x with levelPending := false })
  | none, [], none => none

/-- The frame of the module slot (R115). -/
def SeatLine.moduleFrame (l : SeatLine) (now : Nat) : SeatFrame :=
  let m : Fin 16 := Fin.ofNat 16 l.round
  { cmd := if (l.module m).identPending then .ident else .poll, module := m, block := 0, data := [], start := now }

/-- A line in IDLE begins its next frame (R115): the slots alternate, and an empty service slot is passed over. -/
def Coach.startFrame (e : Env) (i : Fin 4) (c : Coach) : Coach :=
  let l := c.lines.get i
  match if l.serviceNext then c.serviceFrame i e.now else none with
  | some (f, l') => c.onLine i fun _ => { l' with activity := .frame f, serviceNext := false, dominantSince := none }
  | none => c.onLine i fun _ => { l with activity := .frame (l.moduleFrame e.now), serviceNext := true, dominantSince := none }

/-! ## Items handed back and slots that end (R115, R118) -/

/-- The item of a service frame is handed back (R118). -/
def SeatLine.handBack (f : SeatFrame) (l : SeatLine) : SeatLine :=
  match f.cmd with
  | .names => { l with stale := l.stale ||| (1#16 <<< f.block) }
  | .showContent => if f.module ∈ l.showQueue then l else { l with showQueue := l.showQueue ++ [f.module] }
  | .level => l.onModule f.module fun x => { x with levelPending := true }
  | .poll | .ident => l

/-- The round position advances when a module slot's transfer ends (R115). -/
def SeatLine.advance (f : SeatFrame) (l : SeatLine) : SeatLine :=
  if f.cmd.isQuery then { l with round := if l.round + 1 < l.moduleCount then l.round + 1 else 0 } else l

/-! ## Module health (R119 to R121) -/

/-- A MODULE_FAULT or MODULE_RECOVERED report (R120). -/
def Coach.moduleReport (c : Coach) (kind : ReportKind) (i : Fin 4) (m : Fin 16) : Report :=
  { kind, seat := ((c.seats.filter fun s => s.line = i ∧ s.module = m).map Seat.number).min?
    position := c.position.metres, value := some (i.val * 16 + m.val : Nat) }

/-- A failed transfer counts against its module (R120); NAMES is addressed to none. -/
def Coach.countFailure (e : Env) (i : Fin 4) (f : SeatFrame) (err : LineError) (c : Coach) : Coach :=
  if f.cmd = .names then c
  else
    let l := c.lines.get i
    let x := l.module f.module
    let n := min l.faultCount (x.failures + 1)
    let falls := n = l.faultCount ∧ (x.health = .waking ∨ x.health = .healthy)
    let c1 := c.onLine i (SeatLine.onModule f.module fun x =>
      { x with failures := n, lastError := err, health := if falls then .faulty else x.health })
    if falls then
      let c2 := (bothPlaces i f.module).foldl (Coach.losePlace e) c1
      c2.raise e (c2.moduleReport .moduleFault i f.module)
    else c1

/-- The transfer in progress fails (R112, R113, R118, R120): the failure is counted, the item handed back, the slot ended and the line
returned to IDLE. -/
def Coach.failTransfer (e : Env) (i : Fin 4) (f : SeatFrame) (err : LineError) (c : Coach) : Coach :=
  (c.countFailure e i f err).onLine i fun l => ((l.handBack f).advance f).toIdle e.now

/-- A success on a module that is WAKING or FAULTY makes it HEALTHY (R121). -/
def Coach.recover (e : Env) (i : Fin 4) (f : SeatFrame) (c : Coach) : Coach :=
  let x := (c.lines.get i).module f.module
  if x.health = .waking ∨ x.health = .faulty then
    let c1 := (presentPlaces i f.module x).foldl (Coach.reseedPlace e) c
    let c2 := c1.onLine i fun l =>
      ((l.queueShow f.module).onModule f.module fun y =>
        { y with health := .healthy, levelPending := true, identPending := y.identPending || f.cmd != .ident }).markStale c1.journey.list.length
    if x.health = .faulty then c2.raise e (c2.moduleReport .moduleRecovered i f.module) else c2
  else c

/-- A POLL or IDENT succeeds: the failure count becomes 0, the module recovers if it was not HEALTHY (R120, R121). -/
def Coach.succeed (e : Env) (i : Fin 4) (f : SeatFrame) (c : Coach) : Coach :=
  (c.recover e i f).onLine i fun l => (l.onModule f.module fun x => { x with failures := 0 })

/-- The slot ends and the line returns to IDLE (R109, R115). -/
def Coach.endSlot (e : Env) (i : Fin 4) (f : SeatFrame) (c : Coach) : Coach := c.onLine i fun l => (l.advance f).toIdle e.now

/-- The frame in progress on a line. -/
def Coach.frameOn (c : Coach) (i : Fin 4) : Option SeatFrame :=
  match (c.lines.get i).activity with
  | .frame f => some f
  | _ => none

/-- The characters a POLL response checks: address, then the two counts, low character first (R111, R195). -/
def pollChars (f : SeatFrame) (c0 c1 : BitVec 16) : List Byte :=
  [addressChar f.module f.cmd, c0.setWidth 8, (c0 >>> 8).setWidth 8, c1.setWidth 8, (c1 >>> 8).setWidth 8]

/-- A POLL ends with its check character received (R113, R123). -/
def Coach.pollEnds (e : Env) (i : Fin 4) (f : SeatFrame) (c0 c1 : BitVec 16) (check : Byte) (c : Coach) : Coach :=
  if check = checkChar (pollChars f c0 c1) then
    let d := c.succeed e i f
    let s0 := d.samplePlace e c0.toNat ⟨i, f.module, 0⟩
    let s1 := if ((d.lines.get i).module f.module).places = some 1 then s0 else s0.samplePlace e c1.toNat ⟨i, f.module, 1⟩
    s1.endSlot e i f
  else c.failTransfer e i f .checkMismatch

/-- A place count as it is taken: 0 as 1, above 2 as 2 (R122). -/
def placeCount (n : Byte) : Nat := clampTo 1 2 n.toNat

/-- The results of a successful IDENT (R122). -/
def Coach.takeIdent (e : Env) (i : Fin 4) (f : SeatFrame) (kind places : Byte) (c : Coach) : Coach :=
  let x := (c.lines.get i).module f.module
  let n := placeCount places
  let changed := x.kind.isSome && (x.kind != some kind || x.places != some n)
  let y : Module := { x with kind := some kind, places := some n, identPending := false }
  let c1 := if changed then (presentPlaces i f.module y).foldl (Coach.reseedPlace e) c else c
  let c2 := if n = 1 then c1.losePlace e ⟨i, f.module, 1⟩ else c1
  c2.onLine i (SeatLine.onModule f.module fun z => { z with kind := some kind, places := some n, identPending := false })

/-- An IDENT ends with its check character received (R113, R122). -/
def Coach.identEnds (e : Env) (i : Fin 4) (f : SeatFrame) (kind places check : Byte) (c : Coach) : Coach :=
  if check = checkChar [addressChar f.module f.cmd, kind, places] then ((c.succeed e i f).takeIdent e i f kind places).endSlot e i f
  else c.failTransfer e i f .checkMismatch

/-- The frame of a command that is in progress on a line, if it is. -/
def Coach.frameOf (c : Coach) (i : Fin 4) (cmd : SeatCmd) : Option SeatFrame := (c.frameOn i).filter fun f => f.cmd = cmd

/-! ## Stuck watch (R114) -/

/-- No line is STUCK. -/
def Coach.noneStuck (c : Coach) : Bool := c.lines.toList.all fun l => l.activity != .stuck

/-- A HEALTHY module of a line found stuck becomes WAKING (R114). -/
def wake (x : Module) : Module :=
  if x.health = .healthy then { x with health := .waking, failures := 0, identPending := true } else x

/-- LINE_STUCK is found (R114). The dominant run that has reached 30 stands at 30 until the next recessive level (DESIGN CHOICE, log entry
47). -/
def Coach.stick (e : Env) (i : Fin 4) (c : Coach) : Coach :=
  let c1 := match c.frameOn i with
    | some f => c.failTransfer e i f .lineStuck
    | none => c
  let c2 := c1.onLine i fun l =>
    { l with
      activity := .stuck
      serviceNext := false
      dominantSince := some (l.dominantSince.getD (e.now - 30 * l.bitRate.period))
      modules := l.modules.map wake }
  (c2.loseLine e i).flagBoth .seatLineFault true

/-- SEAT_LINE_FAULT is cleared at its source when no line is any longer STUCK (R114). -/
def Coach.clearFault (c : Coach) : Coach := if c.noneStuck then c.flagBoth .seatLineFault false else c

/-- A STUCK line returns to IDLE (R114). -/
def Coach.unstick (e : Env) (i : Fin 4) (c : Coach) : Coach :=
  (c.onLine i fun l => { l with round := 0, dominantSince := none }.toIdle e.now).clearFault

/-- The moment from which the dominant run counts, for a line that other devices hold dominant from now on: in a frame not before the end of
its break, and from the start of the dominant bit times that the part sends just then (R114; log entry 20). -/
def SeatLine.watchFrom (now : Nat) (l : SeatLine) : Nat :=
  match l.activity with
  | .frame f => (l.drivenSince f now).getD (max now (f.start + l.breakBits * l.bitRate.period))
  | _ => now

/-- A frame in progress hears its line go dominant. -/
def SeatLine.hearing (now : Nat) (l : SeatLine) : LineActivity :=
  match l.activity with
  | .frame f => .frame (l.hear now f)
  | a => a

/-- The level of a line changes (R113 to R115): the recessive stretch or the dominant run begins, and a module's character may begin. -/
def SeatLine.levelChange (now : Nat) (level : Level) (l : SeatLine) : SeatLine :=
  match level with
  | .recessive => { l with dominantSince := none, recessiveSince := now }
  | .dominant => { l with activity := l.hearing now, dominantSince := if l.running then some (l.watchFrom now) else none }

/-! ## SEAT LINE CONTROL (R106 to R108) -/

/-- The accepted values are written (R106). -/
def SeatLine.writeCount (n : Nat) (l : SeatLine) : SeatLine :=
  { l with
    moduleCount := n
    showQueue := l.showQueue.filter fun m => m.val < n
    modules := l.modules.mapIdx fun i x =>
      if n ≤ i then { x with health := .unused, levelPending := x.levelPending && !(n ≤ i && i < l.moduleCount) }
      else if l.moduleCount ≤ i then { x with health := .waking }
      else x }

/-- The parameters of a line after the values given are clamped and written (R106). -/
def SeatLine.write (r : LineControl) (l : SeatLine) : SeatLine :=
  let l1 := match r.moduleCount with
    | some n => l.writeCount (clampTo 0 16 n)
    | none => l
  { l1 with
    bitRate := (r.bitRate.map fun b => if b = 19200 then BitRate.b19200 else .b9600).getD l1.bitRate
    breakBits := (r.breakBits.map (clampTo 13 24)).getD l1.breakBits
    rtFactor := (r.rtFactor.map (clampTo 11 20)).getD l1.rtFactor
    faultCount := (r.faultCount.map (clampTo 2 8)).getD l1.faultCount
    labelLevel := (r.labelLevel.map (clampTo 0 255)).getD l1.labelLevel }

/-- A value given is outside its range (R106). -/
def LineControl.clamped (r : LineControl) : Bool :=
  let out (lo hi : Nat) (v : Option Nat) : Bool := v.any fun n => n < lo || hi < n
  out 0 16 r.moduleCount || out 13 24 r.breakBits || out 11 20 r.rtFactor || out 2 8 r.faultCount || out 0 255 r.labelLevel

/-- Some parameter value is given (R106). -/
def LineControl.hasValues (r : LineControl) : Bool :=
  r.moduleCount.isSome || r.bitRate.isSome || r.breakBits.isSome || r.rtFactor.isSome || r.faultCount.isSome || r.labelLevel.isSome

/-- A line leaves a running state or STUCK by OFF or SETUP (R107). -/
def Coach.leaveRun (e : Env) (i : Fin 4) (rest : LineActivity) (c : Coach) : Coach :=
  let l := c.lines.get i
  if l.running ∨ l.activity = .stuck then
    let back := match l.activity with
      | .frame f => l.handBack f
      | _ => l
    let c1 := (c.onLine i fun _ => { back with activity := rest, dominantSince := none }).loseLine e i
    if l.activity = .stuck then c1.clearFault else c1
  else c.onLine i fun l => { l with activity := rest }

/-- A module record at the change from SETUP to IDLE (R108). -/
def wakeAtRun (count i : Nat) (x : Module) : Module :=
  if i < count then { x with health := .waking, failures := 0, identPending := true } else x

/-- The action RUN (R108). -/
def Coach.runLine (e : Env) (i : Fin 4) (c : Coach) : Coach :=
  if (c.lines.get i).activity = .setup then
    c.onLine i fun l =>
      SeatLine.toIdle e.now { l with
        modules := l.modules.mapIdx (wakeAtRun l.moduleCount)
        round := 0
        serviceNext := false
        dominantSince := if e.levels.get i = .dominant then some e.now else none }
  else c

/-- The action of SEAT LINE CONTROL (R107, R108): OFF 0, SETUP 1, RUN 2, KEEP 3. -/
def Coach.lineAction (e : Env) (i : Fin 4) (action : Nat) (c : Coach) : Coach :=
  match action with
  | 0 => c.leaveRun e i .off
  | 1 => c.leaveRun e i .setup
  | 2 => c.runLine e i
  | _ => c

end Sys2Proof.Machine
end

