-- ==== Sys2Proof/Machine/Operands.lean ====
section
/-! DEFINITION. The values of requests and responses as characters: codes of enumerated fields and the records that responses carry
(R193, R194, R197). -/

namespace Sys2Proof.Machine

open Sys2Proof.Config

/-! ## Numbers, flags and absent values (R197) -/

/-- A numeric field that may be none, absent or stopped: then every bit of the field is set (R197). -/
def optBytes (n : Nat) (v : Option Nat) : List Byte := leBytes n (v.getD (256 ^ n - 1))

/-- A signed field in two's complement (R197). -/
def intBytes (n : Nat) (v : Int) : List Byte := leBytes n (v % (256 ^ n : Nat)).toNat

/-- A flag: 1 for set, 0 for clear (R197). -/
def flagByte (b : Bool) : Byte := if b then 1 else 0

/-- A count of milliseconds of notice time, held at the largest value of 4 characters (R197). -/
def msBytes (v : Option Nat) : List Byte := optBytes 4 (v.map (min 4294967295))

/-! ## Enumerated fields: the position in the list of values where the field is specified (R197) -/

/-- NONE, A, B (R27). -/
def leadCode : Option LinePort → Nat
  | none => 0
  | some .a => 1
  | some .b => 2

/-- EMPTY, STAGED, IN_SERVICE, TERMINATED (R15). -/
def Phase.code : Phase → Nat
  | .empty => 0
  | .staged => 1
  | .inService => 2
  | .terminated => 3

/-- A_FORWARD, B_FORWARD, UNSET (R23). -/
def Orientation.code : Orientation → Nat
  | .aForward => 0
  | .bForward => 1
  | .unset => 2

/-- The orientation of a code (R24). -/
def orientationOf : Nat → Option Orientation
  | 0 => some .aForward
  | 1 => some .bForward
  | 2 => some .unset
  | _ => none

/-- AHEAD, CURRENT, DEPARTED, PASSED, RUN_THROUGH (R2). -/
def StopStatus.code : StopStatus → Nat
  | .ahead => 0
  | .current => 1
  | .departed => 2
  | .passed => 3
  | .runThrough => 4

/-- NONE, LEFT, RIGHT, BOTH (R194). -/
def sideCode : PlatformSide → Nat
  | .none => 0
  | .left => 1
  | .right => 2
  | .both => 3

/-- The platform side of a code (R194). -/
def sideOf : Nat → Option PlatformSide
  | 0 => some .none
  | 1 => some .left
  | 2 => some .right
  | 3 => some .both
  | _ => none

/-- NONE, TOWARD_A, TOWARD_B (R45). -/
def dirCode : Option EdgeDir → Nat
  | none => 0
  | some .towardA => 1
  | some .towardB => 2

/-- EMPTY, ONE, TWO, OVERRUN (R53). -/
def FifoStatus.code : FifoStatus → Nat
  | .empty => 0
  | .one => 1
  | .two => 2
  | .overrun => 3

/-- COUNT, PERIOD, ZERO, NONE (R54). -/
def Method.code : Method → Nat
  | .count => 0
  | .period => 1
  | .zero => 2
  | .none => 3

/-- STANDSTILL, MOVING, COASTING (R63). -/
def Motion.code : Motion → Nat
  | .standstill => 0
  | .moving => 1
  | .coasting _ => 2

/-- UNFIXED, FIXED, DEGRADED (R73). -/
def FixState.code : FixState → Nat
  | .unfixed => 0
  | .fixed => 1
  | .degraded => 2

/-- UNKNOWN, SETTLING, VACANT, ENTERING, OCCUPIED, LEAVING (R127). -/
def PlaceState.code : PlaceState → Nat
  | .unknown => 0
  | .settling => 1
  | .vacant => 2
  | .entering => 3
  | .occupied => 4
  | .leaving => 5

/-- BOOKED, CLAIMED, RELEASED (R83). -/
def EntryState.code : EntryState → Nat
  | .booked => 0
  | .claimed => 1
  | .released => 2

/-- PENDING, OPEN, DEFERRED, SPENT (R83). -/
def ClaimWindow.code : ClaimWindow → Nat
  | .pending => 0
  | .opened => 1
  | .deferred => 2
  | .spent => 3

/-- The line states in the order of R105. -/
def LineState.code : LineState → Nat
  | .off => 0
  | .setup => 1
  | .idle => 2
  | .break' => 3
  | .delimiter => 4
  | .sync => 5
  | .address => 6
  | .dataOut => 7
  | .dataIn => 8
  | .check => 9
  | .stuck => 10

/-- UNUSED, WAKING, HEALTHY, FAULTY (R119). -/
def Health.code : Health → Nat
  | .unused => 0
  | .waking => 1
  | .healthy => 2
  | .faulty => 3

/-- The errors in the order of R119. The error none is the first value of its list, and is sent as such (R197; DEDUCED, log entry 11). -/
def LineError.code : LineError → Nat
  | .none => 0
  | .noResponse => 1
  | .shortResponse => 2
  | .checkMismatch => 3
  | .framing => 4
  | .echoMismatch => 5
  | .lineStuck => 6

/-- The bit rate as a number (R105). -/
def BitRate.number : BitRate → Nat
  | .b9600 => 9600
  | .b19200 => 19200

/-- RECESSIVE, DOMINANT (R124). -/
def levelCode : Level → Nat
  | .recessive => 0
  | .dominant => 1

/-- The kinds of notice in the order of R142. -/
def NoticeKind.code : NoticeKind → Nat
  | .nextStop => 0
  | .arriving => 1
  | .splitAdvice => 2
  | .terminus => 3
  | .lineText => 4
  | .crewText => 5

/-- AUTO, LEAD, CREW (R142). -/
def NoticeSource.code : NoticeSource → Nat
  | .auto => 0
  | .lead => 1
  | .crew => 2

/-- WAITING, ARMED, SHOWN, ENDED (R142). -/
def NoticeState.code : NoticeState → Nat
  | .waiting => 0
  | .armed => 1
  | .shown => 2
  | .ended => 3

/-- The report kinds, numbered from 1 in the order of R186 (R193). -/
def ReportKind.code : ReportKind → Nat
  | .arrived => 1
  | .departed => 2
  | .stopPassed => 3
  | .seatClaimed => 4
  | .seatReleased => 5
  | .reservationAffected => 6
  | .reservationDropped => 7
  | .moduleFault => 8
  | .moduleRecovered => 9
  | .coastBegin => 10
  | .coastEnd => 11
  | .fixJump => 12
  | .noticeEnded => 13

/-- The report notes (R193). -/
def ReportNote.code : ReportNote → Nat
  | .none => 0
  | .void => 1
  | .fault => 2
  | .agreed => 3
  | .zero => 4

/-! ## Records (R193, R194, R197) -/

/-- The 18 characters of a report record (R193). A field that is absent is sent with every bit set (R197). -/
def Report.chars (r : Report) : List Byte :=
  leBytes 1 r.kind.code
    ++ leBytes 1 (r.stop.isSome.toNat + 2 * r.seat.isSome.toNat + 4 * r.token.isSome.toNat + 8 * r.value.isSome.toNat)
    ++ leBytes 1 r.note.code ++ optBytes 2 r.stop ++ optBytes 1 r.seat ++ optBytes 4 r.token ++ leBytes 4 r.position
    ++ intBytes 4 (r.value.getD (-1))

/-- The 16 characters of a stop record followed by its status (R194, R197). -/
def StopRec.chars (r : StopRec) : List Byte :=
  leBytes 2 r.code ++ nameChars r.name ++ leBytes 4 r.position ++ [r.mask.setWidth 8]
    ++ leBytes 1 (r.calling.toNat + 2 * sideCode r.side + 8 * r.split.toNat + 16 * r.join.toNat + 32 * r.reverse.toNat)
    ++ leBytes 1 (r.platform.getD 0) ++ optBytes 2 r.arrival ++ optBytes 2 r.departure ++ leBytes 1 r.status.code

/-- The consist record (R27). -/
def State.consistChars (s : State) : List Byte :=
  leBytes 2 s.consist.generation ++ leBytes 1 s.consist.coachNumber ++ leBytes 1 s.consist.portion.val ++ leBytes 1 (leadCode s.consist.lead)
    ++ leBytes 1 s.consist.leadUnit ++ optBytes 2 (s.consist.leaseRemaining s.now)

/-- The phase, the progress fields and the orientation (R25). -/
def Journey.chars (j : Journey) : List Byte :=
  leBytes 1 j.phase.code ++ optBytes 1 j.lastDeparted ++ optBytes 1 j.atStop ++ optBytes 1 j.nextCalling ++ optBytes 4 j.departurePoint
    ++ leBytes 1 j.orientation.code

/-- The odometer in metres, rounded toward zero (R51). -/
def odometerMetres (units : Int) : Int := Int.tdiv units perMetre

/-- The axle fields (R60). -/
def Coach.axleChars (c : Coach) : List Byte :=
  leBytes 1 (dirCode c.axle.confirmed) ++ leBytes 1 c.axle.held.length ++ [flagByte c.axle.fault] ++ intBytes 8 (odometerMetres c.axle.odometer)
    ++ leBytes 1 c.axle.fifoStatus.code ++ leBytes 1 c.axle.last.method.code ++ optBytes 4 c.axle.last.speed ++ leBytes 2 c.axle.last.edges
    ++ leBytes 1 c.axle.stillCount ++ leBytes 1 c.position.motion.code

/-- The coast, while COASTING (R79). -/
def Motion.coast : Motion → Option Coast
  | .coasting k => some k
  | _ => none

/-- The position fields (R79); the coast direction is FORWARD 0, BACKWARD 1 (R66). -/
def Position.chars (p : Position) : List Byte :=
  let k := p.motion.coast
  leBytes 4 p.metres ++ leBytes 1 p.motion.code ++ leBytes 1 p.fix.code ++ leBytes 4 p.accepted
    ++ leBytes 4 ((k.map Coast.speed).getD p.accepted) ++ optBytes 4 (k.map Coast.speed)
    ++ optBytes 1 (k.map fun k => if k.forward then 0 else 1) ++ optBytes 1 (k.map Coast.agree) ++ optBytes 2 (k.map Coast.windows)

/-- A module record as READ STATUS gives it (R124). -/
def Module.chars (m : Module) : List Byte :=
  leBytes 1 m.health.code ++ leBytes 1 m.failures ++ optBytes 1 (m.kind.map BitVec.toNat) ++ optBytes 1 m.places ++ leBytes 1 m.lastError.code

/-- The line record's state and parameters (R106). -/
def SeatLine.paramChars (l : SeatLine) (now : Nat) : List Byte :=
  leBytes 1 (l.state now).code ++ leBytes 1 l.moduleCount ++ leBytes 2 l.bitRate.number ++ leBytes 1 l.breakBits ++ leBytes 1 l.rtFactor
    ++ leBytes 1 l.faultCount ++ leBytes 1 l.labelLevel

/-- A line as READ STATUS gives it (R124): state and parameters, the level in SETUP, the SHOW queue's length, the stale blocks and the
module records. -/
def SeatLine.statusChars (l : SeatLine) (now : Nat) (level : Level) : List Byte :=
  l.paramChars now ++ optBytes 1 (if l.activity = .setup then some (levelCode level) else none) ++ leBytes 1 l.showQueue.length
    ++ leBytes 2 l.stale.toNat ++ leBytes 1 l.modules.length ++ l.modules.flatMap Module.chars

/-- A dot mode: its position in the table of R166 and its d (R197). -/
def DotMode.chars : DotMode → List Byte
  | .forcedOff => [0, 0]
  | .forcedOn => [1, 0]
  | .duty d => [2, BitVec.ofNat 8 d]
  | .dutyInv d => [3, BitVec.ofNat 8 d]
  | .blink => [4, 0]

/-- The map state (R174). -/
def MapUnit.chars (m : MapUnit) : List Byte :=
  optBytes 1 m.base ++ leBytes 1 m.count ++ leBytes 1 m.target ++ leBytes 1 m.marker ++ intBytes 1 ((m.target : Int) - m.marker)
    ++ [flagByte m.stepAt.isSome] ++ leBytes 1 m.active.length ++ m.active.flatMap DotMode.chars

/-- A stop of display content: its index and its short name (R101). -/
def stopShownChars (x : Nat × ShortName) : List Byte := leBytes 1 x.1 ++ nameChars x.2

/-- Display content in READ SEAT: its displayed state, and the count and list of its stops (R101, R102, R197; log entry 11). -/
def Content.results (x : Content) : List Byte :=
  leBytes 1 x.shown.number ++ leBytes 1 x.stops.length ++ x.stops.flatMap stopShownChars

/-- An entry in READ SEAT (R102). -/
def Entry.chars (x : Entry) : List Byte :=
  leBytes 4 x.token ++ leBytes 2 x.boarding ++ leBytes 2 x.alighting ++ leBytes 1 x.state.code ++ [flagByte x.unverified]
    ++ leBytes 1 x.effBoarding ++ leBytes 1 x.effAlighting ++ leBytes 1 x.window.code

/-- The sensor fields of READ SEAT (R139): settle count, debounce count, filtered count and baseline in whole counts. -/
def Sensor.chars (x : Sensor) : List Byte :=
  leBytes 1 x.settle ++ leBytes 1 x.debounce ++ optBytes 2 (x.filtered.map (· / 256)) ++ optBytes 2 (x.baseline.map (· / 256))

/-- The results of READ SEAT (R102, R139). -/
def Coach.seatChars (c : Coach) (s : Seat) : List Byte :=
  leBytes 1 s.number ++ leBytes 1 s.line.val ++ leBytes 1 s.module.val ++ leBytes 1 s.place.val ++ [flagByte s.accessible, flagByte s.outOfUse]
    ++ leBytes 1 (c.sensor s.placeId).state.code ++ leBytes 1 s.content.shown.number ++ s.content.results
    ++ leBytes 1 s.entries.length ++ s.entries.flatMap Entry.chars ++ (c.sensor s.placeId).chars

/-- An arm condition and its distance (R142). -/
def ArmCondition.chars : ArmCondition → List Byte
  | .atOnce => leBytes 1 0 ++ optBytes 2 none
  | .beforeStop m => leBytes 1 1 ++ leBytes 2 m
  | .atStop => leBytes 1 2 ++ optBytes 2 none

/-- An end condition and its duration (R142). -/
def EndCondition.chars : EndCondition → List Byte
  | .onDeparture => leBytes 1 0 ++ optBytes 2 none
  | .afterSeconds n => leBytes 1 1 ++ leBytes 2 n
  | .untilCancelled => leBytes 1 2 ++ optBytes 2 none
  | .atArrival => leBytes 1 3 ++ optBytes 2 none

/-- The seconds remaining of an AFTER_SECONDS entry once shown, a second begun counting as whole (R160; DESIGN CHOICE, log entry 41). -/
def Notice.remaining (n : Notice) (time : Nat) : Option Nat :=
  match n.ends, n.firstShown with
  | .afterSeconds k, some t => some ((t + k * 1000 - time + 999) / 1000)
  | _, _ => none

/-- An entry of the notice queue in READ NOTICES (R160). -/
def Notice.chars (time : Nat) (n : Notice) : List Byte :=
  leBytes 1 n.id ++ leBytes 1 n.kind.code ++ leBytes 1 n.source.code ++ leBytes 1 n.priority ++ optBytes 2 n.stop ++ optBytes 1 n.text
    ++ n.arm.chars ++ n.ends.chars ++ leBytes 1 n.state.code ++ msBytes (n.armedAt.map (time - ·)) ++ msBytes (n.lastShown.map (time - ·))
    ++ msBytes (n.firstShown.map (time - ·)) ++ optBytes 2 (n.remaining time)

/-- The clock: minute and second, or INVALID (R154, R197). -/
def clockChars (k : Option Clock) : List Byte := optBytes 2 (k.map Clock.minute) ++ optBytes 1 (k.map Clock.second)

/-- A text: its length, then its characters (R197). -/
def textChars (t : List Byte) : List Byte := BitVec.ofNat 8 t.length :: t

/-- The results of READ NOTICES (R160). -/
def NoticeUnit.chars (u : NoticeUnit) (time first : Nat) (text : Option Nat) : List Byte :=
  let part := (u.queue.drop first).take 5
  leBytes 1 u.queue.length ++ leBytes 1 part.length ++ part.flatMap (Notice.chars time) ++ optBytes 1 (u.shown.map Notice.id)
    ++ clockChars u.clock ++ [flagByte u.door1, flagByte u.door2]
    ++ (text.map fun i => textChars (u.texts.getD i [])).getD []

/-! ## The page on the panel line (R196) -/

/-- Template codes (R196). -/
def templateCode : Option NoticeKind → Nat
  | none => 0
  | some k => k.code + 1

/-- Door side codes (R196). -/
def DoorSide.code : DoorSide → Nat
  | .none => 0
  | .side1 => 1
  | .side2 => 2
  | .both => 3

/-- The clock of a page (R196): the minute of an INVALID clock is 0xFFFF, its second is a free value (log entry 36). -/
def pageClock : Option Clock → List Byte
  | some k => leBytes 2 k.minute ++ leBytes 1 k.second
  | none => [0xFF#8, 0xFF#8, Config.secondOfInvalidClock]

/-- Characters 1 to 17 + n of a page (R196). -/
def PageFields.body (f : PageFields) (k : Option Clock) : List Byte :=
  leBytes 1 (templateCode f.template) ++ (f.stopName.map nameChars).getD blankName ++ leBytes 1 (f.platform.getD 0) ++ optBytes 2 f.arrival
    ++ leBytes 1 f.door.code ++ optBytes 1 f.textNumber ++ textChars f.text ++ (f.destination.map nameChars).getD blankName
    ++ leBytes 1 f.coach ++ pageClock k

/-- The characters of a page (R196). -/
def PageFields.page (f : PageFields) (k : Option Clock) : List Byte := 0x7E#8 :: f.body k ++ [checkChar (f.body k)]

end Sys2Proof.Machine
end

