-- ==== Sys2Proof/Machine/Params.lean ====
section
/-! DEFINITION. The parameter table of CONFIGURE: the range of each id and the writing of a value (R184). -/

namespace Sys2Proof.Machine

/-- The range of a parameter id (R184); an id outside the table has none. -/
def paramRange : Nat → Option (Nat × Nat)
  | 1 => some (20, 500)
  | 2 => some (500, 10000)
  | 3 => some (4, 255)
  | 4 => some (2000, 3500)
  | 5 => some (20, 250)
  | 6 => some (2, 50)
  | 7 => some (50, 2000)
  | 8 => some (50, 2000)
  | 9 => some (0, 65535)
  | 10 => some (0, 65535)
  | 11 => some (1, 255)
  | 12 => some (10, 600)
  | 13 => some (5, 1000)
  | 14 => some (500, 20000)
  | 15 => some (0, 7)
  | 16 => some (4, 12)
  | 17 => some (10, 4000)
  | 18 => some (0, 200)
  | 19 => some (0, 15)
  | 20 => some (0, 15)
  | 21 => some (500, 10000)
  | 22 => some (100, 2000)
  | 23 => some (1, 20)
  | 24 => some (0, 4)
  | 25 => some (0, 255)
  | 26 => some (20, 1000)
  | 27 => some (1, 47)
  | 28 => some (0, 1)
  | _ => none

/-- The parameters with a value written to an id (R184). -/
def Params.write (p : Params) (id v : Nat) : Params :=
  match id with
  | 1 => { p with platformWin := v }
  | 2 => { p with leadLease := v }
  | 3 => { p with revEdges := v }
  | 4 => { p with wheelCirc := v }
  | 5 => { p with axlePpr := v }
  | 6 => { p with stillWindows := v }
  | 7 => { p with slideLimit := v }
  | 8 => { p with agreeTol := v }
  | 9 => { p with coastFriction := v }
  | 10 => { p with coastDamping := v }
  | 11 => { p with coastInertia := v }
  | 12 => { p with coastLimit := v }
  | 13 => { p with fixTol := v }
  | 14 => { p with releaseM := v }
  | 15 => { p with beta := v }
  | 16 => { p with ltaShift := v }
  | 17 => { p with occThreshold := v }
  | 18 => { p with hyst := v }
  | 19 => { p with debIn := v }
  | 20 => { p with debOut := v }
  | 21 => { p with approachM := v }
  | 22 => { p with arriveM := v }
  | 23 => { p with showMin := v }
  | 24 => { p with trackDots := v }
  | 25 => { p with dimDuty := v }
  | 26 => { p with stepInterval := v }
  | 27 => { p with jumpLimit := v }
  | 28 => { p with stepDiscard := v != 0 }
  | _ => p

/-- The value in force of a parameter id (R184). -/
def Params.read (p : Params) (id : Nat) : Nat :=
  match id with
  | 1 => p.platformWin
  | 2 => p.leadLease
  | 3 => p.revEdges
  | 4 => p.wheelCirc
  | 5 => p.axlePpr
  | 6 => p.stillWindows
  | 7 => p.slideLimit
  | 8 => p.agreeTol
  | 9 => p.coastFriction
  | 10 => p.coastDamping
  | 11 => p.coastInertia
  | 12 => p.coastLimit
  | 13 => p.fixTol
  | 14 => p.releaseM
  | 15 => p.beta
  | 16 => p.ltaShift
  | 17 => p.occThreshold
  | 18 => p.hyst
  | 19 => p.debIn
  | 20 => p.debOut
  | 21 => p.approachM
  | 22 => p.arriveM
  | 23 => p.showMin
  | 24 => p.trackDots
  | 25 => p.dimDuty
  | 26 => p.stepInterval
  | 27 => p.jumpLimit
  | 28 => p.stepDiscard.toNat
  | _ => 0

/-- What a write of a parameter does to the axle unit: a change of REV_EDGES discards the held edges (R48; a write of the value in force
is no change, log entry 25), and STILL_WINDOWS bounds the still count (R58). -/
def Axle.configured (old new : Params) (x : Axle) : Axle :=
  let y := if old.revEdges = new.revEdges then x else x.discardHeld
  if old.stillWindows = new.stillWindows then y else { y with stillCount := min y.stillCount new.stillWindows }

end Sys2Proof.Machine
end

