-- ==== Sys2Proof/Machine/Request.lean ====
section
/-! DEFINITION. Requests and responses: the statuses, who may send what, the judging of checks in order, the renewal of the lease and the
response placed in the port's buffer (R33, R37, R180, R181, R193). -/

namespace Sys2Proof.Machine

open Sys2Proof.Config

/-- Response statuses (R193). -/
inductive Status where
  | accepted
  | adjusted
  | notLead
  | leadHeld
  | staleGeneration
  | notPermitted
  | notOwner
  | wrongPhase
  | noLoad
  | badList
  | progressMismatch
  | badField
  | badKind
  | badState
  | unknownStop
  | unknownSeat
  | pastStop
  | badLeg
  | overlap
  | outOfUse
  | duplicateToken
  | seatFull
  | poolFull
  | notFound
  | queueFull
  deriving DecidableEq, Repr

/-- The number of a status (R193). -/
def Status.code : Status → Nat
  | .accepted => 0
  | .adjusted => 1
  | .notLead => 2
  | .leadHeld => 3
  | .staleGeneration => 4
  | .notPermitted => 5
  | .notOwner => 6
  | .wrongPhase => 7
  | .noLoad => 8
  | .badList => 9
  | .progressMismatch => 10
  | .badField => 11
  | .badKind => 12
  | .badState => 13
  | .unknownStop => 14
  | .unknownSeat => 15
  | .pastStop => 16
  | .badLeg => 17
  | .overlap => 18
  | .outOfUse => 19
  | .duplicateToken => 20
  | .seatFull => 21
  | .poolFull => 22
  | .notFound => 23
  | .queueFull => 24

/-- What a request is answered: a status and the results that follow the coach number (R193). -/
structure Reply where
  status : Status
  results : List Byte := []
  deriving DecidableEq, Repr

/-! ## Judging -/

/-- A refusal changes nothing and carries no results (log entry 10). -/
def refuse (st : Status) (s : State) : State × Reply := (s, { status := st })

/-- The checks of a request in order: the first that fails is its response, else the request is taken. -/
def judge (checks : List (Bool × Status)) (take : State → State × Reply) (s : State) : State × Reply :=
  match checks.find? Prod.fst with
  | some k => refuse k.2 s
  | none => take s

/-- A request that no crew port may send (R182). -/
def lineOnly (p : Port) (take : LinePort → State → State × Reply) (s : State) : State × Reply :=
  match p with
  | .crew => refuse .notPermitted s
  | .line q => take q s

/-- A lead-only request (R37, R182). -/
def leadOnly (p : Port) (take : LinePort → State → State × Reply) (s : State) : State × Reply :=
  lineOnly p (fun q s => if s.consist.lead = some q then take q s else refuse .notLead s) s

/-- A request of the crew port and the lead port (R37, R41). -/
def leadOrCrew (p : Port) (take : State → State × Reply) (s : State) : State × Reply :=
  match p with
  | .crew => take s
  | .line q => if s.consist.lead = some q then take s else refuse .notLead s

/-- A response that carries the consist record as it stands after the request (R27). -/
def withConsist (r : State × Reply) : State × Reply := (r.1, { r.2 with results := r.1.consistChars })

/-- The coach side changes and the request is ACCEPTED with no results. -/
def acceptCoach (f : Env → Coach → Coach) (s : State) : State × Reply := (s.onCoach f, { status := .accepted })

/-! ## Taking and answering -/

/-- The responses waiting on a port. -/
def State.responses (s : State) : Port → List Frame
  | .line q => (s.port q).responses
  | .crew => s.crew.responses

/-- The response buffer of a port has a free place (R180, R181). -/
def State.hasPlace (s : State) (p : Port) : Bool := (s.responses p).length < 2

/-- A lease of LEAD_LEASE started now (R28, R33). -/
def State.freshLease (s : State) : Nat := s.now + s.params.leadLease * perMillisecond

/-- The port is the lead port. -/
def State.isLead (s : State) (p : Port) : Bool :=
  match p with
  | .line q => s.consist.lead = some q
  | .crew => false

/-- A directed request taken from the lead port restarts the lease (R33). -/
def State.renew (p : Port) (s : State) : State :=
  if s.isLead p then { s with consist := { s.consist with lease := some s.freshLease } } else s

/-- The response frame of a request kind (R178, R193): hop 0, the kind plus 0x80, then status, coach number and results. -/
def responseFrame (kind coachNumber : Nat) (r : Reply) : Frame where
  hop := 0
  kind := BitVec.ofNat 8 (kind + 128)
  payload := BitVec.ofNat 8 r.status.code :: BitVec.ofNat 8 coachNumber :: r.results

/-- A response frame is placed in the response buffer; on a line port whose link is DOWN it is discarded (R180, R182). -/
def State.respond (p : Port) (f : Frame) (s : State) : State :=
  match p with
  | .crew => { s with crew := { s.crew with responses := s.crew.responses ++ [f] } }
  | .line q =>
    if (s.port q).linkUp then s.setPort q { s.port q with responses := (s.port q).responses ++ [f] } else s

/-- A directed request is taken when the response buffer of its port has a free place: the lease is restarted, the request processed whole
and its response placed (R33, R181). -/
def request (p : Port) (kind : Nat) (take : State → State × Reply) (s : State) : State :=
  if s.hasPlace p then
    let r := take (s.renew p)
    r.1.respond p (responseFrame kind r.1.consist.coachNumber r.2)
  else s

end Sys2Proof.Machine
end

