-- ==== Sys2Proof/Machine/Consist.lean ====
section
/-! DEFINITION. The consist and lead unit: CLAIM LEAD, KEEP LEAD, YIELD LEAD, SET CONSIST and the ends of a lead (chapter 2). -/

namespace Sys2Proof.Machine

open Sys2Proof.Config

/-! ## Staging and the lead (R6, R38) -/

/-- The staging list is discarded: the owner NONE, the count 0, every written mark clear (R6). -/
def State.discardStaging (s : State) : State :=
  { s with
    consist := { s.consist with stagingOwner := none }
    coach := { s.coach with journey := { s.coach.journey with staging := [] } } }

/-- A condition is set on one line port. -/
def State.flagPort (p : LinePort) (k : Condition) (s : State) : State :=
  { s with coach := s.coach.setReports p ((s.coach.reports p).put k true) }

/-- The lead becomes NONE and the lease stops (R34 to R36). -/
def State.clearLead (s : State) : State := { s with consist := { s.consist with lead := none, lease := none } }

/-- The lead is lost, by expiry or by link loss: LEAD_LOST on both line ports, staging discarded (R34, R35). -/
def State.loseLead (s : State) : State :=
  (((s.clearLead.flagPort .a .leadLost).flagPort .b .leadLost).discardStaging)

/-! ## CLAIM LEAD (R30, R31) -/

/-- A grant is a renewal: the lead was the port already, and generation and unit id are unchanged (R31). -/
def Consist.renewal (k : Consist) (q : LinePort) (g u : Nat) : Bool :=
  k.lead = some q && g = k.generation && u = k.leadUnit

/-- A grant of CLAIM LEAD from a port (R31). -/
def State.grant (q : LinePort) (g u : Nat) (s : State) : State :=
  let t : State :=
    { s with consist := { s.consist with generation := g, lead := some q, leadUnit := u, lease := some s.freshLease } }
  if s.consist.renewal q g u then t
  else
    let t1 := t.flagPort q .leadChanged
    let t2 := if s.consist.lead = some q.other then t1.flagPort q.other .leadChanged else t1
    t2.discardStaging

/-- The judging of CLAIM LEAD (R30). -/
def claimBody (g u : Nat) (q : LinePort) : State → State × Reply := fun s =>
  judge
    [ (!(s.port q).linkUp, .notPermitted),
      (g < s.consist.generation, .staleGeneration),
      (g = s.consist.generation ∧ s.consist.lead = some q.other, .leadHeld) ]
    (fun s => (s.grant q g u, { status := .accepted })) s

/-- CLAIM LEAD (R30, R31). -/
def execClaimLead (p : Port) (g u : Nat) (s : State) : Host.Outcome State Fault Refusal :=
  live s (request p 1 fun s => withConsist (lineOnly p (claimBody g u) s))

/-! ## KEEP LEAD and YIELD LEAD (R32, R36) -/

/-- KEEP LEAD (R32): the renewal is that of every request from the lead port. -/
def execKeepLead (p : Port) (s : State) : Host.Outcome State Fault Refusal :=
  live s (request p 2 fun s => withConsist (leadOnly p (fun _ s => (s, { status := .accepted })) s))

/-- The lead port gives up the lead: LEAD_LOST on the other port (R36). -/
def State.yieldLead (q : LinePort) (s : State) : State := (s.clearLead.flagPort q.other .leadLost).discardStaging

/-- YIELD LEAD (R36). -/
def execYieldLead (p : Port) (s : State) : Host.Outcome State Fault Refusal :=
  live s (request p 3 fun s => withConsist (leadOnly p (fun q s => (s.yieldLead q, { status := .accepted })) s))

/-- LEASE EXPIRY (R34): the lead is lost when the lease has run to its end; with no lead there is no lease to run out. -/
def execLeaseExpiry (s : State) : Host.Outcome State Fault Refusal :=
  live s fun s =>
    match s.consist.lead, s.consist.lease with
    | some _, some d => (s.runTo d).loseLead
    | _, _ => s

/-! ## SET CONSIST (R39, R40) -/

/-- A coach number that has changed goes to the notice unit (R40). -/
def State.setCoachNumber (n : Nat) (s : State) : State :=
  if s.consist.coachNumber = n then s
  else State.onCoach (fun e c => c.notice e .other) { s with consist := { s.consist with coachNumber := n } }

/-- A portion that has changed is written and, outside the EMPTY phase, recalculated and handed on (R14, R40). -/
def State.setPortion (p : Fin 4) (s : State) : State :=
  if s.consist.portion = p then s
  else
    let t : State := { s with consist := { s.consist with portion := p } }
    if s.coach.journey.phase = .empty then t
    else t.onCoach fun e c => (c.onJourney (recalculate e.portion)).amended e

/-- The portion differs and steps 4 and 5 of R39 concern it. -/
def State.newPortion (s : State) (p : Nat) : Bool := s.coach.journey.phase ≠ .empty && p ≠ s.consist.portion.val

/-- The judging of SET CONSIST (R39). -/
def setConsistBody (n p g : Nat) : State → State × Reply := fun s =>
  judge
    [ (g ≠ s.consist.generation, .staleGeneration),
      (32 < n ∨ 3 < p, .badField),
      (s.newPortion p && callCount s.coach.journey.list (Fin.ofNat 4 p) < 2, .badField),
      (s.newPortion p && (recordAt s.coach.journey.list s.coach.journey.atStop).any fun r => !r.mask.getLsbD p, .badField) ]
    (fun s => ((s.setCoachNumber n).setPortion (Fin.ofNat 4 p), { status := .accepted })) s

/-- SET CONSIST (R39, R40). -/
def execSetConsist (p : Port) (coach portion generation : Nat) (s : State) : Host.Outcome State Fault Refusal :=
  live s (request p 4 fun s => withConsist (leadOnly p (fun _ => setConsistBody coach portion generation) s))

end Sys2Proof.Machine
end

