-- ==== Sys2Proof/Machine/Journey.lean ====
section
/-! DEFINITION. The requests of the journey unit: loading, amending and reading the stop list, and SET ORIENTATION (chapter 1). -/

namespace Sys2Proof.Machine

open Sys2Proof.Config

/-! ## SET ORIENTATION (R24) -/

/-- The orientation takes a value; the notice unit takes the change at once, the drivers from the next frame boundary (R24, R172). -/
def Coach.turn (o : Orientation) (e : Env) (c : Coach) : Coach := (c.onJourney fun j => { j with orientation := o }).notice e .other

/-- SET ORIENTATION of a lead (R24). -/
def setOrientationBody (orientation : Nat) (s : State) : State × Reply :=
  match orientationOf orientation with
  | some o => acceptCoach (Coach.turn o) s
  | none => refuse .badField s

/-- SET ORIENTATION (R24). -/
def execSetOrientation (p : Port) (orientation : Nat) (s : State) : Host.Outcome State Fault Refusal :=
  live s (request p 5 (leadOnly p fun _ => setOrientationBody orientation))

/-! ## BEGIN LOAD and STOP RECORDS (R7, R8) -/

/-- BEGIN LOAD of a lead (R7): the staging list is discarded, given a count and an owner. -/
def beginLoadBody (count : Nat) (q : LinePort) : State → State × Reply :=
  judge [ (count = 0 ∨ 64 < count, .badField) ]
    fun s =>
      ({ s with
          consist := { s.consist with stagingOwner := some q }
          coach := { s.coach with journey := { s.coach.journey with staging := List.replicate count none } } },
        { status := .accepted })

/-- BEGIN LOAD (R7). -/
def execBeginLoad (p : Port) (count : Nat) (s : State) : Host.Outcome State Fault Refusal :=
  live s (request p 8 (leadOnly p (beginLoadBody count)))

/-- A character of a short name: A to Z or 0 to 9 (R2). -/
def nameCharOk (c : Byte) : Bool := (65 ≤ c.toNat && c.toNat ≤ 90) || (48 ≤ c.toNat && c.toNat ≤ 57)

/-- A stop code, 1 to 65534 (R2). -/
def stopCodeOk (code : Nat) : Bool := 1 ≤ code && code ≤ 65534

/-- A minute of day (R2). -/
def minuteOk (t : Nat) : Bool := t ≤ 1439

/-- Every field of a stop record on the wire is within the values of R2; 0xFFFF is the absent time and 0 the absent platform (R8 step 4). -/
def StopWire.ok (r : StopWire) : Bool :=
  stopCodeOk r.code && nameCharOk r.name.c0 && nameCharOk r.name.c1 && nameCharOk r.name.c2 && r.position ≤ routeTop && r.mask != 0
    && r.platform ≤ 99 && (minuteOk r.arrival || r.arrival = 65535) && (minuteOk r.departure || r.departure = 65535)

/-- The stop record of its characters (R2, R194). -/
def StopWire.record (r : StopWire) : StopRec where
  code := r.code
  name := r.name
  position := r.position
  mask := r.mask
  calling := r.calling
  side := r.side
  platform := if r.platform = 0 then none else some r.platform
  arrival := if r.arrival = 65535 then none else some r.arrival
  departure := if r.departure = 65535 then none else some r.departure
  split := r.split
  join := r.join
  reverse := r.reverse
  status := .ahead

/-- Records are written from a first index on, and their written marks set (R8). -/
def writeStaging (first : Nat) (rs : List StopRec) (staging : List (Option StopRec)) : List (Option StopRec) :=
  staging.take first ++ rs.map some ++ staging.drop (first + rs.length)

/-- STOP RECORDS of a lead (R8). -/
def stopRecordsBody (first : Nat) (rs : List StopWire) (q : LinePort) : State → State × Reply := fun s =>
  judge
    [ (s.consist.stagingOwner ≠ some q, .noLoad),
      (rs.length = 0 ∨ 12 < rs.length ∨ s.coach.journey.staging.length < first + rs.length, .badField),
      (rs.any fun r => !StopWire.ok r, .badField) ]
    (acceptCoach fun _ c => c.onJourney fun j => { j with staging := writeStaging first (rs.map StopWire.record) j.staging }) s

/-- STOP RECORDS (R8). -/
def execStopRecords (p : Port) (first : Nat) (records : List StopWire) (s : State) : Host.Outcome State Fault Refusal :=
  live s (request p 9 (leadOnly p (stopRecordsBody first records)))

/-! ## END LOAD (R3, R9) -/

/-- The record at an index keeps the flag placement rules in a list of a given length (R3). -/
def flagsPlaced (count i : Nat) (r : StopRec) : Bool :=
  (!r.reverse || (r.calling && i ≠ 0 && i + 1 ≠ count)) && (!r.split || (r.calling && i + 1 ≠ count)) && (!r.join || (r.calling && i ≠ 0))

/-- The lowest index of a list with a property of index and record. -/
def lowestIndex (list : List StopRec) (bad : Nat → StopRec → Bool) : Option Nat :=
  (List.range list.length).find? fun i => (list[i]?).any (bad i)

/-- The failing index of BAD_LIST, by the first of steps 3 to 7 of R9 that fails. -/
def badListIndex (portion : Fin 4) (staging : List (Option StopRec)) : Option Nat :=
  let list := staging.filterMap id
  (staging.findIdx? Option.isNone)
    <|> (lowestIndex list fun i r => (list.take i).any fun q => q.code = r.code)
    <|> (lowestIndex list fun i r => i ≠ 0 && (list[i - 1]?).any fun q => r.position ≤ q.position)
    <|> (if callCount list portion < 2 then some ((nextCall list portion 0).getD 0) else none)
    <|> (lowestIndex list fun i r => !flagsPlaced list.length i r)

/-- The journey after a commit of a list (R10, R11); none where the progress remap cannot be made. -/
def commitOf (e : Env) (list : List StopRec) (j : Journey) : Option Journey :=
  if j.phase.running then (remapPoint e.portion list j).map fun x => remapped e list x.1 x.2 j
  else some (newJourney e.portion list j)

/-- END LOAD of a lead (R9, R12). -/
def endLoadBody (q : LinePort) (s : State) : State × Reply :=
  if s.consist.stagingOwner ≠ some q then refuse .noLoad s
  else match badListIndex s.consist.portion s.coach.journey.staging with
    | some i => (s, { status := .badList, results := leBytes 1 i })
    | none =>
      match commitOf s.env (s.coach.journey.staging.filterMap id) s.coach.journey with
      | none => refuse .progressMismatch s
      | some j =>
        let old := s.coach.journey
        ((s.onCoach fun e c => ({ c with journey := j } : Coach).committed e old.list (!old.phase.running)).discardStaging,
          { status := .accepted })

/-- END LOAD (R9). -/
def execEndLoad (p : Port) (s : State) : Host.Outcome State Fault Refusal :=
  live s (request p 10 (leadOnly p endLoadBody))

/-! ## AMEND STOP (R13, R14) -/

/-- A new value is outside its range, or the value is removed where the field has no absent value (R13 step 4). -/
def Amend.outside (ok : Nat → Bool) (optional : Bool) : Amend → Bool
  | .unchanged => false
  | .value v => !ok v
  | .absent => !optional

/-- A value given is outside the values of R2 (R13 step 4). -/
def AmendReq.outside (r : AmendReq) : Bool :=
  1 < r.calling || Amend.outside (fun v => (sideOf v).isSome) false r.side || Amend.outside (fun v => 1 ≤ v && v ≤ 99) true r.platform
    || Amend.outside minuteOk true r.arrival || Amend.outside minuteOk true r.departure

/-- A field after an amendment. -/
def Amend.apply (a : Amend) (old : Option Nat) : Option Nat :=
  match a with
  | .unchanged => old
  | .value v => some v
  | .absent => none

/-- The record after an amendment (R13). -/
def AmendReq.record (q : AmendReq) (r : StopRec) : StopRec :=
  { r with
    calling := q.calling = 1
    side := (match q.side with
      | .value v => (sideOf v).getD r.side
      | _ => r.side)
    platform := Amend.apply q.platform r.platform
    arrival := Amend.apply q.arrival r.arrival
    departure := Amend.apply q.departure r.departure }

/-- The stop has been left or passed (R13 step 5, R88 step 9). -/
def StopStatus.past : StopStatus → Bool
  | .departed | .passed | .runThrough => true
  | _ => false

/-- Steps 6 and 7 of R13 for the record at an index, `off` telling that calling goes from YES to NO and `list` being the amended list. -/
def amendBreaks (portion : Fin 4) (j : Journey) (list : List StopRec) (r : StopRec) (off : Bool) : Bool :=
  (off && (r.status = .current || r.reverse || r.split || r.join))
    || (j.atStop.isNone && (nextAhead portion list 0).isNone)
    || (off && j.atStop.any (lastCall list portion))
    || callCount list portion < 2

/-- The amendment is written, the calling set recalculated if calling has changed, and the change handed on (R13, R14). -/
def Coach.amend (i : Nat) (q : AmendReq) (calling : Bool) (e : Env) (c : Coach) : Coach :=
  let c1 := c.onJourney fun j => { j with list := j.list.modify i (AmendReq.record q) }
  (if calling = (q.calling == 1) then c1 else c1.onJourney (recalculate e.portion)).amended e

/-- AMEND STOP of a lead (R13). -/
def amendStopBody (q : AmendReq) (s : State) : State × Reply :=
  let j := s.coach.journey
  if j.phase = .empty then refuse .wrongPhase s
  else match findCode j.list q.code with
    | none => refuse .unknownStop s
    | some i =>
      match j.list[i]? with
      | none => refuse .unknownStop s
      | some r =>
        judge
          [ (AmendReq.outside q, .badField),
            (r.status.past, .pastStop),
            (amendBreaks s.consist.portion j (j.list.modify i (AmendReq.record q)) r (r.calling && q.calling = 0), .badField) ]
          (acceptCoach (Coach.amend i q r.calling)) s

/-- AMEND STOP (R13). -/
def execAmendStop (p : Port) (r : AmendReq) (s : State) : Host.Outcome State Fault Refusal :=
  live s (request p 11 (leadOnly p fun _ => amendStopBody r))

/-! ## READ STOP (R25) -/

/-- READ STOP of a line port (R25). -/
def readStopBody (index : Nat) (s : State) : State × Reply :=
  let j := s.coach.journey
  if j.phase = .empty then refuse .wrongPhase s
  else match j.list[index]? with
    | none => refuse .badField s
    | some r => (s, { status := .accepted, results := j.chars ++ leBytes 1 j.list.length ++ r.chars })

/-- READ STOP (R25). -/
def execReadStop (p : Port) (index : Nat) (s : State) : Host.Outcome State Fault Refusal :=
  live s (request p 12 (lineOnly p fun _ => readStopBody index))

end Sys2Proof.Machine
end

