-- ==== Sys2Proof/Machine/Booking.lean ====
section
/-! DEFINITION. The requests of the reservation and occupancy units: the seat map, bookings, seats out of use, READ SEAT and RESEED SEATS
(chapters 5 and 7). -/

namespace Sys2Proof.Machine

open Sys2Proof.Config

/-! ## SEAT MAP (R82) -/

/-- A seat description within the values of R81 (R82 step 3). -/
def seatDescOk (d : SeatDesc) : Bool := 1 ≤ d.number && d.number ≤ 199 && d.line ≤ 3 && d.module ≤ 15 && d.place ≤ 1

/-- Two descriptions share a seat number or a place (R82 step 4). -/
def sharesSeat (a b : SeatDesc) : Bool :=
  a.number = b.number || (a.line = b.line && a.module = b.module && a.place = b.place)

/-- Two descriptions of a list clash (R82 step 4). -/
def seatsClash : List SeatDesc → Bool
  | [] => false
  | d :: ds => ds.any (sharesSeat d) || seatsClash ds

/-- The record of a seat description (R82). -/
def seatRecord (d : SeatDesc) : Seat where
  number := d.number
  line := Fin.ofNat 4 d.line
  module := Fin.ofNat 16 d.module
  place := Fin.ofNat 2 d.place
  accessible := d.accessible
  outOfUse := false
  entries := []
  content := .noInfo

/-- A record put into a table in the order of seat numbers (log entry 17). -/
def insertSeat (s : Seat) : List Seat → List Seat
  | [] => [s]
  | t :: ts => if s.number < t.number then s :: t :: ts else t :: insertSeat s ts

/-- The seat table is replaced, and the content of every module of the old and the new table is handed on (R82, R101). -/
def Coach.mapSeats (ds : List SeatDesc) (c : Coach) : Coach :=
  let table := ds.foldl (fun ts d => insertSeat (seatRecord d) ts) []
  (c.seats ++ table).foldl (fun d s => d.contentChange s.line s.module) { c with seats := table }

/-- SEAT MAP of a lead (R82). -/
def seatMapBody (count : Nat) (ds : List SeatDesc) : State → State × Reply := fun s =>
  judge
    [ (s.coach.journey.phase ≠ .empty, .wrongPhase),
      (96 < count ∨ count ≠ ds.length ∨ (ds.any fun d => !seatDescOk d), .badField),
      (seatsClash ds, .badField) ]
    (acceptCoach fun _ c => c.mapSeats ds) s

/-- SEAT MAP (R82). -/
def execSeatMap (p : Port) (count : Nat) (seats : List SeatDesc) (s : State) : Host.Outcome State Fault Refusal :=
  live s (request p 7 (leadOnly p fun _ => seatMapBody count seats))

/-! ## Seats and entries by name -/

/-- The seat record of a number. -/
def Coach.seat (c : Coach) (number : Nat) : Option Seat := c.seats.find? fun s => s.number = number

/-- The seat whose list holds the entry of a token, with the entry (R83). -/
def Coach.entry (c : Coach) (token : Nat) : Option (Seat × Entry) :=
  c.seats.findSome? fun s => (s.entries.find? fun x => x.token = token).map fun x => (s, x)

/-- A change of the entries of one seat, after which every displayed state is worked out again (R100). -/
def Coach.onEntries (e : Env) (number : Nat) (f : List Entry → List Entry) (c : Coach) : Coach :=
  Coach.refresh e { c with seats := c.seats.map fun s => if s.number = number then { s with entries := f s.entries } else s }

/-! ## RESERVE (R88, R89) -/

/-- What RESERVE books. -/
structure Booking where
  token : Nat
  boarding : Nat
  alighting : Nat
  deriving DecidableEq, Repr

/-- The booked leg of a booking overlaps that of an entry (R84). -/
def Booking.overlapsEntry (b : Booking) (list : List StopRec) (x : Entry) : Bool :=
  (bookedLeg list b.boarding b.alighting).any fun leg => overlaps leg (x.leg list)

/-- The booking goes the wrong way, or would be void (R88 step 8). -/
def Booking.badLeg (b : Booking) (portion : Fin 4) (list : List StopRec) : Bool :=
  (effLeg list portion b.boarding b.alighting).isNone
    || (findCode list b.alighting).any fun a => (findCode list b.boarding).any fun i => a ≤ i

/-- The entry of a booking with its effective leg (R89). -/
def Booking.entry (b : Booking) (leg : Nat × Nat) : Entry where
  token := b.token
  boarding := b.boarding
  alighting := b.alighting
  state := .booked
  unverified := false
  effBoarding := leg.1
  effAlighting := leg.2
  window := .pending
  anchor := none
  anchorLeft := false

/-- The RELEASED entries of a seat that the booking overtakes are freed (R88). -/
def Booking.overtakes (b : Booking) (list : List StopRec) (x : Entry) : Bool := x.state = .released && b.overlapsEntry list x

/-- The entry joins the seat's list, its window is brought up to date, and the displayed state worked out again (R89, R94). -/
def Coach.book (e : Env) (seat : Seat) (x : Entry) (c : Coach) : Coach :=
  let y := openIfReached (c.entryCtx e seat) x
  (Coach.raiseAll e y.2 c).onEntries e seat.number (insertEntry c.journey.list y.1)

/-- The effective codes that the response to RESERVE carries (R89). -/
def legCodes (list : List StopRec) (leg : Nat × Nat) : List Byte :=
  leBytes 2 ((codeAt list (some leg.1)).getD 0) ++ leBytes 2 ((codeAt list (some leg.2)).getD 0)

/-- Steps 11 and 12 and the booking itself, after the freeing, which stands (R88, R89). -/
def bookSeat (b : Booking) (seat : Seat) (s : State) : State × Reply :=
  let list := s.coach.journey.list
  let t := s.onCoach fun e c => c.onEntries e seat.number fun xs => xs.filter fun x => !b.overtakes list x
  judge
    [ (4 ≤ ((t.coach.seat seat.number).map fun x => x.entries.length).getD 0, .seatFull),
      (t.coach.poolFree = 0, .poolFull) ]
    (fun t =>
      let leg := (effLeg list s.consist.portion b.boarding b.alighting).getD (0, 0)
      (t.onCoach fun e c => c.book e seat (b.entry leg), { status := .accepted, results := legCodes list leg }))
    t

/-- RESERVE of a lead (R88). -/
def reserveBody (number : Nat) (b : Booking) (s : State) : State × Reply :=
  let list := s.coach.journey.list
  if s.coach.journey.phase = .empty then refuse .wrongPhase s
  else if b.token = 0 ∨ ¬ stopCodeOk b.boarding ∨ ¬ stopCodeOk b.alighting then refuse .badField s
  else match s.coach.seat number with
    | none => refuse .unknownSeat s
    | some seat =>
      judge
        [ (seat.outOfUse, .outOfUse),
          ((s.coach.entry b.token).isSome, .duplicateToken),
          ((findCode list b.boarding).isNone || (findCode list b.alighting).isNone, .unknownStop),
          (b.badLeg s.consist.portion list, .badLeg),
          ((recordAt list (findCode list b.boarding)).any fun r => r.status.past, .pastStop),
          (seat.entries.any fun x => x.held && b.overlapsEntry list x, .overlap) ]
        (bookSeat b seat) s

/-- RESERVE (R88, R89). -/
def execReserve (p : Port) (seat token boarding alighting : Nat) (s : State) : Host.Outcome State Fault Refusal :=
  live s (request p 13 (leadOnly p fun _ => reserveBody seat { token, boarding, alighting }))

/-! ## CANCEL and RELEASE (R90, R91) -/

/-- CANCEL of a lead (R90). -/
def cancelBody (token : Nat) (s : State) : State × Reply :=
  match s.coach.entry token with
  | none => refuse .notFound s
  | some (seat, _) =>
    (s.onCoach fun e c => c.onEntries e seat.number fun xs => xs.filter fun x => x.token ≠ token,
      { status := .accepted, results := leBytes 1 seat.number })

/-- CANCEL (R90). -/
def execCancel (p : Port) (token : Nat) (s : State) : Host.Outcome State Fault Refusal :=
  live s (request p 14 (leadOnly p fun _ => cancelBody token))

/-- A BOOKED entry given up (R91). -/
def Entry.released (x : Entry) : Entry := { x with state := .released, window := .spent }

/-- RELEASE of a lead (R91). -/
def releaseBody (token : Nat) (s : State) : State × Reply :=
  match s.coach.entry token with
  | none => refuse .notFound s
  | some (seat, x) =>
    judge [ (x.state ≠ .booked, .badState) ]
      (acceptCoach fun e c => c.onEntries e seat.number fun xs => xs.map fun y => if y.token = token then y.released else y) s

/-- RELEASE (R91). -/
def execRelease (p : Port) (token : Nat) (s : State) : Host.Outcome State Fault Refusal :=
  live s (request p 15 (leadOnly p fun _ => releaseBody token))

/-! ## SET OUT OF USE and READ SEAT (R92, R102) -/

/-- The OUT_OF_USE flag of a seat takes a value, and the displayed state is worked out again (R92, R100). -/
def Coach.setUse (number : Nat) (on : Bool) (e : Env) (c : Coach) : Coach :=
  Coach.refresh e { c with seats := c.seats.map fun s => if s.number = number then { s with outOfUse := on } else s }

/-- SET OUT OF USE of the lead or the crew port (R92). -/
def setOutOfUseBody (number : Nat) (on : Bool) : State → State × Reply := fun s =>
  judge [ ((s.coach.seat number).isNone, .unknownSeat) ] (acceptCoach (Coach.setUse number on)) s

/-- SET OUT OF USE (R92). -/
def execSetOutOfUse (p : Port) (seat : Nat) (on : Bool) (s : State) : Host.Outcome State Fault Refusal :=
  live s (request p 16 (leadOrCrew p (setOutOfUseBody seat on)))

/-- READ SEAT of any port (R102, R139). -/
def readSeatBody (number : Nat) (s : State) : State × Reply :=
  match s.coach.seat number with
  | none => refuse .unknownSeat s
  | some seat => (s, { status := .accepted, results := s.coach.seatChars seat })

/-- READ SEAT (R102). -/
def execReadSeat (p : Port) (seat : Nat) (s : State) : Host.Outcome State Fault Refusal :=
  live s (request p 17 (readSeatBody seat))

/-! ## RESEED SEATS (R138) -/

/-- The places that RESEED SEATS names and reseeds: those that are eligible (R138). -/
def Coach.reseedable (c : Coach) (seat : Option Nat) : List PlaceId :=
  (match seat with
    | none => c.allPlaces
    | some n => ((c.seat n).map Seat.placeId).toList).filter c.eligible

/-- RESEED SEATS of the lead or the crew port (R138). -/
def reseedSeatsBody (seat : Option Nat) : State → State × Reply := fun s =>
  judge [ (seat.any fun n => (s.coach.seat n).isNone, .unknownSeat) ]
    (fun s =>
      (s.onCoach fun e c => (c.reseedable seat).foldl (Coach.reseedPlace e) c,
        { status := .accepted, results := leBytes 1 (s.coach.reseedable seat).length })) s

/-- RESEED SEATS (R138). -/
def execReseedSeats (p : Port) (seat : Option Nat) (s : State) : Host.Outcome State Fault Refusal :=
  live s (request p 18 (leadOrCrew p (reseedSeatsBody seat)))

end Sys2Proof.Machine
end

