-- ==== Sys2Proof/Machine/Panels.lean ====
section
/-! DEFINITION. The requests and the timer events of the notice unit and the panel line (chapter 8). -/

namespace Sys2Proof.Machine

open Sys2Proof.Config

/-! ## POST NOTICE and CANCEL NOTICE (R146, R147) -/

/-- The arm condition of a code (R142): AT_ONCE 0, BEFORE_STOP 1, AT_STOP 2. -/
def armOf (arm distance : Nat) : ArmCondition :=
  match arm with
  | 0 => .atOnce
  | 1 => .beforeStop distance
  | _ => .atStop

/-- The end condition of a code for a posted entry (R142): ON_DEPARTURE 0, AFTER_SECONDS 1, UNTIL_CANCELLED 2. -/
def endOf (ends duration : Nat) : EndCondition :=
  match ends with
  | 0 => .onDeparture
  | 1 => .afterSeconds (clampTo 1 3600 duration)
  | _ => .untilCancelled

/-- An AFTER_SECONDS duration is outside 1 to 3600 (R146). -/
def durationClamped (ends duration : Nat) : Bool := ends = 1 && (duration = 0 || 3600 < duration)

/-- A field of POST NOTICE is outside its values (R146 step 2). -/
def noticeOutside (r : NoticeReq) : Bool :=
  3 < r.priority || r.text.all (31 < ·) || 2 < r.arm || 2 < r.ends || (r.arm = 1 && 10000 < r.distance)
    || r.stop.any fun k => k = 0 || k = 65535

/-- A condition names a stop and none is given (R146 step 3). -/
def noticeStopMissing (r : NoticeReq) : Bool := r.stop.isNone && (r.arm = 1 || r.arm = 2 || r.ends = 0)

/-- The stop given is absent from the list or not calling for this coach (R146 step 4). -/
def Coach.unknownStop (portion : Fin 4) (c : Coach) (code : Nat) : Bool :=
  !(c.stopOf (some code)).any (StopRec.callsAt portion)

/-- The number of posted entries in the queue (R142). -/
def NoticeUnit.posted (u : NoticeUnit) : Nat := (u.queue.filter fun n => n.source ≠ .auto).length

/-- The entry that POST NOTICE makes, before it has an id (R146). -/
def postedNotice (crew : Bool) (r : NoticeReq) : Notice where
  id := 0
  kind := if crew then .crewText else .lineText
  source := if crew then .crew else .lead
  priority := r.priority
  stop := r.stop
  text := r.text
  arm := armOf r.arm r.distance
  ends := endOf r.ends r.duration
  state := .waiting
  armedAt := none
  lastShown := none
  firstShown := none

/-- The entry is created, armed if its condition holds, and the selection made (R146). -/
def Coach.postNotice (n : Notice) (e : Env) (c : Coach) : Coach :=
  Coach.notice e .posted { c with notices := c.notices.create n }

/-- The state of the entry of an id; an entry that has left the queue is ENDED (R143, R146). -/
def NoticeUnit.stateOf (u : NoticeUnit) (id : Nat) : NoticeState :=
  ((u.queue.find? fun n => n.id = id).map Notice.state).getD .ended

/-- The port is the crew port, which posts CREW_TEXT entries (R146). -/
def Port.isCrew : Port → Bool
  | .crew => true
  | .line _ => false

/-- POST NOTICE of the lead or the crew port (R146). -/
def postNoticeBody (crew : Bool) (r : NoticeReq) : State → State × Reply := fun s =>
  judge
    [ (noticeOutside r, .badField),
      (noticeStopMissing r, .badField),
      (r.stop.any (s.coach.unknownStop s.consist.portion), .unknownStop),
      ((s.coach.stopOf r.stop).any fun x => x.status.past, .pastStop),
      (20 ≤ s.coach.notices.posted, .queueFull) ]
    (fun s =>
      let id := s.coach.notices.freshId
      let t := s.onCoach (Coach.postNotice (postedNotice crew r))
      (t, { status := if durationClamped r.ends r.duration then .adjusted else .accepted
            results := leBytes 1 id ++ leBytes 1 (t.coach.notices.stateOf id).code })) s

/-- POST NOTICE (R146). -/
def execPostNotice (p : Port) (r : NoticeReq) (s : State) : Host.Outcome State Fault Refusal :=
  live s (request p 21 (leadOrCrew p (postNoticeBody (Port.isCrew p) r)))

/-- CANCEL NOTICE of the lead or the crew port (R147). -/
def cancelNoticeBody (crew : Bool) (id : Nat) (s : State) : State × Reply :=
  match s.coach.notices.queue.find? fun n => n.id = id with
  | none => refuse .notFound s
  | some n =>
    judge [ (n.source = .auto, .notOwner), (crew && n.source = .lead, .notOwner) ]
      (acceptCoach fun e c => c.notice e (.ended id 1)) s

/-- CANCEL NOTICE (R147). -/
def execCancelNotice (p : Port) (id : Nat) (s : State) : Host.Outcome State Fault Refusal :=
  live s (request p 22 (leadOrCrew p (cancelNoticeBody (Port.isCrew p) id)))

/-! ## SET TEXT and SET CLOCK (R153, R154) -/

/-- A text that the crew text table can hold (R153). -/
def textOk (text : List Byte) : Bool := text.length ≤ 64 && text.all fun c => 0x20 ≤ c.toNat && c.toNat ≤ 0x7E

/-- A text of the table is replaced; a page that shows it falls due (R153, R156). -/
def Coach.setText (number : Nat) (text : List Byte) (e : Env) (c : Coach) : Coach :=
  Coach.notice e (.textSet number) { c with notices := { c.notices with texts := c.notices.texts.set number text } }

/-- SET TEXT of a lead (R153). -/
def setTextBody (number : Nat) (text : List Byte) : State → State × Reply :=
  judge [ (31 < number ∨ ¬ textOk text, .badField) ] (acceptCoach (Coach.setText number text))

/-- SET TEXT (R153). -/
def execSetText (p : Port) (number : Nat) (text : List Byte) (s : State) : Host.Outcome State Fault Refusal :=
  live s (request p 23 (leadOnly p fun _ => setTextBody number text))

/-- The clock takes a time and becomes valid; a page falls due (R154, R156). Its seconds are timed from now (log entry 22). -/
def Coach.setClock (minute second : Nat) (e : Env) (c : Coach) : Coach :=
  Coach.notice e .clockSet
    { c with notices := { c.notices with clock := some { minute, second }, secondAt := some (e.now + perSecond) } }

/-- SET CLOCK of a lead (R154). -/
def setClockBody (minute second : Nat) : State → State × Reply :=
  judge [ (1439 < minute ∨ 59 < second, .badField) ] (acceptCoach (Coach.setClock minute second))

/-- SET CLOCK (R154). -/
def execSetClock (p : Port) (minute second : Nat) (s : State) : Host.Outcome State Fault Refusal :=
  live s (request p 24 (leadOnly p fun _ => setClockBody minute second))

/-! ## READ NOTICES (R160) -/

/-- READ NOTICES of a line port (R160). -/
def readNoticesBody (first : Nat) (text : Option Nat) : State → State × Reply :=
  judge [ (23 < first ∨ text.any (31 < ·), .badField) ]
    fun s => (s, { status := .accepted, results := s.coach.notices.chars s.env.noticeTime first text })

/-- READ NOTICES (R160). -/
def execReadNotices (p : Port) (first : Nat) (text : Option Nat) (s : State) : Host.Outcome State Fault Refusal :=
  live s (request p 25 (lineOnly p fun _ => readNoticesBody first text))

/-! ## Timer events of the notice unit (R150, R152, R154, R159) -/

/-- SHOW MIN EXPIRY (R152): the hold of the SHOWN entry runs out and a selection is made. -/
def execShowMinExpiry (s : State) : Host.Outcome State Fault Refusal :=
  live s fun s =>
    match s.coach.notices.hold with
    | some d => (s.runTo d).onCoach fun e c => Coach.notice e .other { c with notices := { c.notices with hold := none } }
    | none => s

/-- The moment at which an AFTER_SECONDS entry runs out, once it has been SHOWN (R150). -/
def Notice.expiresAt (n : Notice) : Option Nat :=
  match n.ends, n.firstShown with
  | .afterSeconds k, some t => some ((t + k * 1000) * perMillisecond)
  | _, _ => none

/-- AFTER SECONDS EXPIRY (R150): the entry ends with cause EXPIRED. -/
def execAfterSecondsExpiry (id : Nat) (s : State) : Host.Outcome State Fault Refusal :=
  live s fun s =>
    match (s.coach.notices.queue.find? fun n => n.id = id).bind Notice.expiresAt with
    | some d => (s.runTo d).onCoach fun e c => c.notice e (.ended id 2)
    | none => s

/-- A change of the notice unit alone. -/
def Coach.onNotices (f : NoticeUnit → NoticeUnit) (c : Coach) : Coach := { c with notices := f c.notices }

/-- CHIME END (R159). -/
def execChimeEnd (s : State) : Host.Outcome State Fault Refusal :=
  live s fun s =>
    match s.coach.notices.chimeUntil with
    | some d => (s.runTo d).onCoach fun _ c => c.onNotices fun u => { u with chimeUntil := none }
    | none => s

/-- The clock one second later (R154). -/
def Clock.tick (k : Clock) : Clock :=
  if k.second < 59 then { k with second := k.second + 1 }
  else if k.minute < 1439 then { minute := k.minute + 1, second := 0 }
  else { minute := 0, second := 0 }

/-- CLOCK SECOND (R154): only a valid clock advances. -/
def execClockSecond (s : State) : Host.Outcome State Fault Refusal :=
  live s fun s =>
    match s.coach.notices.clock, s.coach.notices.secondAt with
    | some k, some d =>
      (s.runTo d).onCoach fun _ c => c.onNotices fun u => { u with clock := some k.tick, secondAt := some (d + perSecond) }
    | _, _ => s

/-! ## The panel line (R155, R156, R196) -/

/-- A page begins with its fields as they stand; its characters take ten bit times each (R155, R156, R196). -/
def Coach.beginPage (e : Env) (c : Coach) : Coach :=
  let chars := (c.pageFields e).page c.notices.clock
  c.onNotices fun u =>
    { u with
      fields := c.pageFields e
      pageDue := false
      sending := some { chars, endsAt := e.now + chars.length * 10 * panelBit }
      refreshAt := some (e.now + Config.pageRefresh) }

/-- PAGE START (R156): a page that is due begins when none is being sent. -/
def execPageStart (s : State) : Host.Outcome State Fault Refusal :=
  live s fun s => if s.coach.notices.pageDue ∧ s.coach.notices.sending.isNone then s.onCoach Coach.beginPage else s

/-- PAGE END (R156). -/
def execPageEnd (s : State) : Host.Outcome State Fault Refusal :=
  live s fun s =>
    match s.coach.notices.sending with
    | some x => (s.runTo x.endsAt).onCoach fun _ c => c.onNotices fun u => { u with sending := none }
    | none => s

/-- PAGE REFRESH (R156): a page falls due 10 s after the last began. -/
def execPageRefresh (s : State) : Host.Outcome State Fault Refusal :=
  live s fun s =>
    match s.coach.notices.refreshAt with
    | some d => (s.runTo d).onCoach fun _ c => c.onNotices fun u => { u with pageDue := true, refreshAt := none }
    | none => s

end Sys2Proof.Machine
end

