-- ==== Sys2Proof/Machine/Ports.lean ====
section
/-! DEFINITION. The line ports and the crew port: characters, frames, forwarding, buffers and the request path (chapter 10). -/

namespace Sys2Proof.Machine

open Sys2Proof.Config

/-! ## Buffers (R179, R181, R182) -/

/-- A frame joins the forward buffer out of a port; it is dropped where that link is DOWN or the buffer holds two (R179). -/
def State.forwardOut (q : LinePort) (f : Frame) (s : State) : State :=
  let x := s.port q
  if x.linkUp ∧ x.forward.length < 2 then s.setPort q { x with forward := x.forward ++ [f] } else s

/-- A request joins the request buffer of a line port; it is dropped where the buffer holds two (R181). -/
def State.joinRequests (q : LinePort) (w : Waiting) (s : State) : State :=
  let x := s.port q
  if x.requests.length < 2 then s.setPort q { x with requests := x.requests ++ [w] } else s

/-- A request joins the request buffer of the crew port (R182). -/
def State.joinCrew (w : Waiting) (s : State) : State :=
  if s.crew.requests.length < 2 then { s with crew := { s.crew with requests := s.crew.requests ++ [w] } } else s

/-! ## A complete frame (R178, R182) -/

/-- A kind of 0x80 or above: a response (R178). -/
def Frame.isResponse (f : Frame) : Bool := 128 ≤ f.kind.toNat

/-- A complete frame received on a line port is handled by its kind and hop (R178). -/
def State.takeFrame (q : LinePort) (f : Frame) (s : State) : State :=
  if f.isResponse then s.forwardOut q.other f
  else if f.hop = 255 then
    (s.joinRequests q { broadcast := true, kind := f.kind, payload := f.payload }).forwardOut q.other f
  else if f.hop = 1 then s.joinRequests q { broadcast := false, kind := f.kind, payload := f.payload }
  else if f.hop = 0 then s
  else s.forwardOut q.other { f with hop := f.hop - 1 }

/-- A complete frame received on the crew port (R182). -/
def State.takeCrewFrame (f : Frame) (s : State) : State :=
  if f.isResponse then s else s.joinCrew { broadcast := false, kind := f.kind, payload := f.payload }

/-! ## Characters (R176, R177) -/

/-- A valid character arrives on a line port: the silence is timed anew, the link is UP, and the receiver takes it (R176, R177). -/
def State.lineCharacter (q : LinePort) (s : State) (c : Byte) : State :=
  let r := receive true (s.port q).rx c
  let t := s.setPort q { s.port q with linkUp := true, silenceAt := s.now + silence, rx := r.1 }
  match r.2 with
  | some f => t.takeFrame q f
  | none => t

/-- A valid character arrives on the crew port (R182). -/
def State.crewCharacter (s : State) (c : Byte) : State :=
  let r := receive false s.crew.rx c
  let t : State := { s with crew := { s.crew with rx := r.1 } }
  match r.2 with
  | some f => t.takeCrewFrame f
  | none => t

/-- LINK UP (R176): a valid character on a port whose link is DOWN. -/
def execLinkUp (p : LinePort) (c : Byte) (s : State) : Host.Outcome State Fault Refusal :=
  live s fun s => if (s.port p).linkUp then s else s.lineCharacter p c

/-- VALID CHARACTER (R176, R177). -/
def execValidCharacter (p : LinePort) (c : Byte) (s : State) : Host.Outcome State Fault Refusal :=
  live s fun s => s.lineCharacter p c

/-- INVALID CHARACTER (R176, R177): the frame being received is discarded. -/
def execInvalidCharacter (p : Port) (s : State) : Host.Outcome State Fault Refusal :=
  live s fun s =>
    match p with
    | .line q => s.setPort q { s.port q with rx := none }
    | .crew => { s with crew := { s.crew with rx := none } }

/-- LINE FRAME RECEIVED (R177, R178): a delimiter and the characters after it, all valid, arrive on a line port. -/
def execLineFrameReceived (p : LinePort) (chars : List Byte) (s : State) : Host.Outcome State Fault Refusal :=
  live s fun s => (0x7E#8 :: chars).foldl (State.lineCharacter p) s

/-- CREW FRAME RECEIVED (R182): a delimiter and the characters after it, all valid, arrive on the crew port. -/
def execCrewFrameReceived (chars : List Byte) (s : State) : Host.Outcome State Fault Refusal :=
  live s fun s => (0x7E#8 :: chars).foldl State.crewCharacter s

/-! ## The link (R35, R176, R179, R180) -/

/-- A port whose link goes DOWN: the frame being received is discarded, the forward and response buffers out of it are emptied, the
request buffer and a frame being sent are kept (R35, R177, R179, R180). -/
def PortState.down (x : PortState) : PortState := { x with linkUp := false, rx := none, forward := [], responses := [] }

/-- LINK DOWN (R35, R176): 200 ms without a valid character; a lead held on the port is lost. -/
def execLinkDown (p : LinePort) (s : State) : Host.Outcome State Fault Refusal :=
  live s fun s =>
    if (s.port p).linkUp then
      let t := (s.runTo (s.port p).silenceAt).setPort p (s.port p).down
      if t.consist.lead = some p then t.loseLead else t
    else s

/-! ## The transmitter (R176, R180) -/

/-- No frame is waiting to be sent or being sent on a port. -/
def PortState.quiet (x : PortState) : Bool := x.forward.isEmpty && x.responses.isEmpty && x.sending.isNone

/-- The moment of the next idle character of a quiet port (R176). -/
def PortState.idleAt (x : PortState) : Nat := x.lastEnd + idlePause

/-- IDLE CHARACTER (R176): the port sends 0x55, which ends ten bit times after it begins. -/
def execIdleCharacter (p : LinePort) (s : State) : Host.Outcome State Fault Refusal :=
  live s fun s =>
    let x := s.port p
    if x.quiet then
      let t := s.runTo x.idleAt
      t.setPort p { x with lastEnd := t.now + 10 * lineBit, lastSent := some idleChar }
    else s

/-- The next frame of a transmitter, its mark, and the buffers it leaves: with both buffers holding a frame, the one it did not send from
last (R180). -/
def PortState.nextFrame (x : PortState) : Option (Frame × PortState) :=
  match x.forward, x.responses with
  | [], [] => none
  | f :: fs, [] => some (f, { x with forward := fs, lastForward := true })
  | [], r :: rs => some (r, { x with responses := rs, lastForward := false })
  | f :: fs, r :: rs =>
    if x.lastForward then some (r, { x with responses := rs, lastForward := false })
    else some (f, { x with forward := fs, lastForward := true })

/-- A free line transmitter begins its next frame (R180). -/
def PortState.begin (now : Nat) (x : PortState) : PortState :=
  match x.sending, x.nextFrame with
  | none, some (f, y) => { y with sending := some { frame := f, endsAt := now + f.lineTime } }
  | _, _ => x

/-- A free crew transmitter begins its oldest response (R182). -/
def CrewState.begin (now : Nat) (x : CrewState) : CrewState :=
  match x.sending, x.responses with
  | none, f :: fs => { x with responses := fs, sending := some { frame := f, endsAt := now + f.crewTime } }
  | _, _ => x

/-- FRAME SEND START (R180, R182). -/
def execFrameSendStart (p : Port) (s : State) : Host.Outcome State Fault Refusal :=
  live s fun s =>
    match p with
    | .line q => s.setPort q ((s.port q).begin s.now)
    | .crew => { s with crew := s.crew.begin s.now }

/-- The frame a port is sending. -/
def State.sendingOn (s : State) : Port → Option Sending
  | .line q => (s.port q).sending
  | .crew => s.crew.sending

/-- A port's transmitter becomes free after a frame (R180); the end of its last character starts the pause before an idle character (R176). -/
def State.freeTransmitter (p : Port) (x : Sending) (s : State) : State :=
  match p with
  | .line q => s.setPort q { s.port q with sending := none, lastEnd := x.endsAt, lastSent := (x.frame.wire true).getLast? }
  | .crew => { s with crew := { s.crew with sending := none } }

/-- FRAME SEND END (R180, R182). -/
def execFrameSendEnd (p : Port) (s : State) : Host.Outcome State Fault Refusal :=
  live s fun s =>
    match s.sendingOn p with
    | some x => (s.runTo x.endsAt).freeTransmitter p x
    | none => s

/-! ## The request path (R181, R182) -/

/-- The effect of a broadcast (R181): SET CLOCK, SET TEXT and POST NOTICE, judged as requests of the port it arrived on. -/
def broadcastBody (q : LinePort) (d : Decoded) : State → State × Reply := fun s =>
  match d with
  | .cmd (.setClock _ minute second) => leadOnly (.line q) (fun _ => setClockBody minute second) s
  | .cmd (.setText _ number text) => leadOnly (.line q) (fun _ => setTextBody number text) s
  | .cmd (.postNotice _ r) => leadOrCrew (.line q) (postNoticeBody false r) s
  | _ => refuse .badKind s

/-- BROADCAST TAKEN (R181): no response, and the lease is not touched. -/
def execBroadcastTaken (p : LinePort) (kind : Byte) (payload : List Byte) (s : State) : Host.Outcome State Fault Refusal :=
  live s fun s => (broadcastBody p (decodeRequest (.line p) kind payload) s).1

/-- BAD KIND REQUEST (R181): kinds 0 and 0x1F to 0x7F. -/
def execBadKindRequest (p : Port) (kind : Byte) (s : State) : Host.Outcome State Fault Refusal :=
  live s fun s => if requestKind kind ∨ 128 ≤ kind.toNat then s else request p kind.toNat (refuse .badKind) s

end Sys2Proof.Machine
end

