-- ==== Sys2Proof/Machine/SeatLines.lean ====
section
/-! DEFINITION. SEAT LINE CONTROL and the events of the seat lines (chapter 6). An event of a transfer that is not in progress does not
occur and changes nothing (log entry 3). -/

namespace Sys2Proof.Machine

open Sys2Proof.Config

/-! ## SEAT LINE CONTROL (R106 to R108) -/

/-- A bit rate is given that is neither 9600 nor 19200 (R106). -/
def badRate (b : Option Nat) : Bool := b.any fun n => n ≠ 9600 && n ≠ 19200

/-- The line is OFF or SETUP (R106). -/
def SeatLine.atRest (l : SeatLine) : Bool := l.activity = .off || l.activity = .setup

/-- The values are written, then the action is taken (R106). -/
def Coach.controlLine (i : Fin 4) (r : LineControl) (e : Env) (c : Coach) : Coach :=
  (c.onLine i (SeatLine.write r)).lineAction e i r.action

/-- SEAT LINE CONTROL of the lead or the crew port (R106). -/
def seatLineControlBody (r : LineControl) : State → State × Reply := fun s =>
  let i : Fin 4 := Fin.ofNat 4 r.line
  let l := s.coach.lines.get i
  judge
    [ (3 < r.line ∨ 3 < r.action ∨ badRate r.bitRate, .badField),
      (LineControl.hasValues r && !l.atRest, .wrongPhase),
      (r.action = 2 ∧ l.activity = .off, .wrongPhase) ]
    (fun s =>
      let t := s.onCoach (Coach.controlLine i r)
      (t, { status := if LineControl.clamped r then .adjusted else .accepted, results := (t.coach.lines.get i).paramChars t.now })) s

/-- SEAT LINE CONTROL (R106). -/
def execSeatLineControl (p : Port) (r : LineControl) (s : State) : Host.Outcome State Fault Refusal :=
  live s (request p 19 (leadOrCrew p (seatLineControlBody r)))

/-! ## The schedule (R115) -/

/-- The moment at which a line may begin its next frame: 4 recessive bit times in IDLE (R115). The bit times of an idle line are whole
periods from the change of level or from the entry to IDLE (DESIGN CHOICE, log entry 40). -/
def SeatLine.frameDue (l : SeatLine) : Nat := l.recessiveSince + 4 * l.bitRate.period

/-- A line begins a frame: it is in IDLE, recessive, and has modules to serve (R115). -/
def State.mayBegin (s : State) (i : Fin 4) : Bool :=
  let l := s.coach.lines.get i
  l.activity = .idle && s.levels.get i = .recessive && l.moduleCount != 0

/-- SEAT FRAME START (R115). -/
def execSeatFrameStart (line : Fin 4) (s : State) : Host.Outcome State Fault Refusal :=
  live s fun s =>
    if s.mayBegin line then (s.runTo (s.coach.lines.get line).frameDue).onCoach fun e c => c.startFrame e line else s

/-! ## Transfers that end (R113, R118 to R123) -/

/-- What a line does with the frame of a command, if that frame is in progress. -/
def State.onFrame (s : State) (line : Fin 4) (cmd : SeatCmd) (f : SeatFrame → State → State) : State :=
  match s.coach.frameOf line cmd with
  | some x => f x s
  | none => s

/-- POLL RESPONSE (R113, R123). A response that comes while the part still sends the opening of the frame is taken as well (DESIGN CHOICE, log
entry 45). -/
def execPollResponse (line : Fin 4) (count0 count1 : BitVec 16) (check : Byte) (s : State) : Host.Outcome State Fault Refusal :=
  live s fun s => s.onFrame line .poll fun f s => s.onCoach fun e c => c.pollEnds e line f count0 count1 check

/-- IDENT RESPONSE (R113, R122), taken in the opening of the frame as well (DESIGN CHOICE, log entry 45). -/
def execIdentResponse (line : Fin 4) (kind places check : Byte) (s : State) : Host.Outcome State Fault Refusal :=
  live s fun s => s.onFrame line .ident fun f s => s.onCoach fun e c => c.identEnds e line f kind places check

/-- A frame that the part sends has been sent to its end (R109, R120). -/
def State.frameSent (line : Fin 4) (f : SeatFrame) (s : State) : State :=
  (s.runTo ((s.coach.lines.get line).sentAt f)).onCoach fun e c => c.endSlot e line f

/-- SHOW SENT (R120): neither success nor failure. -/
def execShowSent (line : Fin 4) (s : State) : Host.Outcome State Fault Refusal :=
  live s fun s => s.onFrame line .showContent (State.frameSent line)

/-- LEVEL SENT (R120): neither success nor failure. -/
def execLevelSent (line : Fin 4) (s : State) : Host.Outcome State Fault Refusal :=
  live s fun s => s.onFrame line .level (State.frameSent line)

/-- NAMES SENT (R110, R120). -/
def execNamesSent (line : Fin 4) (s : State) : Host.Outcome State Fault Refusal :=
  live s fun s => s.onFrame line .names (State.frameSent line)

/-- A transfer fails (R112, R113, R120). -/
def State.failFrame (line : Fin 4) (f : SeatFrame) (err : LineError) (s : State) : State :=
  s.onCoach fun e c => c.failTransfer e line f err

/-- The error of a POLL or IDENT whose allowed time runs out (R113). -/
def timeoutError (arrived : Nat) : LineError := if arrived = 0 then .noResponse else .shortResponse

/-- RESPONSE TIMEOUT (R113): fewer than the N + 1 characters of the answer have arrived. -/
def execResponseTimeout (line : Fin 4) (arrived : Nat) (s : State) : Host.Outcome State Fault Refusal :=
  live s fun s =>
    match s.coach.frameOn line with
    | some f =>
      if f.cmd.isQuery ∧ arrived ≤ f.cmd.answer then
        (s.runTo ((s.coach.lines.get line).timeoutAt f)).failFrame line f (timeoutError arrived)
      else s
    | none => s

/-- FRAMING (R113): a character of a module's answer has a dominant stop bit. It is taken in the opening of the frame as well (DESIGN CHOICE,
log entry 45). -/
def execFraming (line : Fin 4) (s : State) : Host.Outcome State Fault Refusal :=
  live s fun s =>
    match s.coach.frameOn line with
    | some f => if f.cmd.isQuery then s.failFrame line f .framing else s
    | none => s

/-- The part sends in this bit time of a frame and reads its level back (R112). -/
def SeatLine.sends (l : SeatLine) (f : SeatFrame) (now : Nat) : Bool := !f.cmd.isQuery || l.bitsPassed f now < l.openingBits

/-- The end of the bit time that is running (R112). -/
def SeatLine.bitEnd (l : SeatLine) (f : SeatFrame) (now : Nat) : Nat := f.start + (l.bitsPassed f now + 1) * l.bitRate.period

/-- ECHO MISMATCH (R112): the transfer fails at the end of the bit time. The mismatch comes by this command alone; the part does not look for
it in the level input of the line (DESIGN CHOICE, log entry 49). -/
def execEchoMismatch (line : Fin 4) (s : State) : Host.Outcome State Fault Refusal :=
  live s fun s =>
    let l := s.coach.lines.get line
    match s.coach.frameOn line with
    | some f => if l.sends f s.now then (s.runTo (l.bitEnd f s.now)).failFrame line f .echoMismatch else s
    | none => s

/-! ## The stuck watch (R114) -/

/-- The level of a line's wire, an input (log entry 19). -/
def State.setLevel (line : Fin 4) (level : Level) (s : State) : State := { s with levels := s.levels.set line level }

/-- The moment at which the dominant run of a line that other devices hold dominant reaches 30 bit times, in whole periods from its start
(R114; DESIGN CHOICE, log entry 40). -/
def SeatLine.stuckAt (l : SeatLine) (now : Nat) : Nat := l.dominantSince.getD (l.watchFrom now) + 30 * l.bitRate.period

/-- LINE STUCK (R114): found only in a running state. -/
def execLineStuck (line : Fin 4) (s : State) : Host.Outcome State Fault Refusal :=
  live s fun s =>
    let l := s.coach.lines.get line
    if l.running then ((s.setLevel line .dominant).runTo (l.stuckAt s.now)).onCoach fun e c => c.stick e line else s

/-- The moment at which 100 ms of recessive level have passed on a STUCK line (R114). -/
def SeatLine.freeAt (l : SeatLine) (level : Level) (now : Nat) : Nat :=
  (if level = .recessive then l.recessiveSince else now) + stuckRelease

/-- STUCK RELEASE (R114). -/
def execStuckRelease (line : Fin 4) (s : State) : Host.Outcome State Fault Refusal :=
  live s fun s =>
    let l := s.coach.lines.get line
    if l.activity = .stuck then
      ((s.setLevel line .recessive).runTo (l.freeAt (s.levels.get line) s.now)).onCoach fun e c => c.unstick e line
    else s

/-- SEAT LINE LEVEL CHANGE (R114, R115, R124). -/
def execSeatLineLevelChange (line : Fin 4) (level : Level) (s : State) : Host.Outcome State Fault Refusal :=
  live s fun s =>
    if s.levels.get line = level then s
    else (s.setLevel line level).onCoach fun e c => c.onLine line (SeatLine.levelChange e.now level)

end Sys2Proof.Machine
end

