-- ==== Sys2Proof/Machine/Idle.lean ====
section
/-! DEFINITION. What the part does of its own accord when no command waits: the requests it takes and the timers that run out, each with
the moment at which it falls due (log entries 1, 2, 3 and 6). -/

namespace Sys2Proof.Machine

open Sys2Proof.Config

/-- Something the part does of its own accord. -/
inductive Due where
  /-- An event of spec/opcode_table.json, as its command. -/
  | command (i : Instr)
  /-- The oldest request of a port's request buffer is taken (R181). -/
  | request (p : Port)
  deriving DecidableEq, Repr

/-- Something due at an optional moment. -/
def dueAt (t : Option Nat) (i : Instr) : List (Nat × Due) := (t.map fun t => (t, Due.command i)).toList

/-- Something due now, if a condition holds. -/
def dueIf (now : Nat) (b : Bool) (d : Due) : List (Nat × Due) := if b then [(now, d)] else []

/-- The requests that wait on a port. -/
def State.requests (s : State) : Port → List Waiting
  | .line q => (s.port q).requests
  | .crew => s.crew.requests

/-- The oldest request of a port can be taken: a broadcast needs no place in the response buffer (R181). -/
def State.canTake (s : State) (p : Port) : Bool := ((s.requests p).head?).any fun w => w.broadcast || s.hasPlace p

/-- What a line port does of its own accord (R176, R180, R181). -/
def State.portDue (s : State) (q : LinePort) : List (Nat × Due) :=
  let x := s.port q
  dueIf s.now (s.canTake (.line q)) (.request (.line q))
    ++ dueIf s.now (x.sending.isNone && x.nextFrame.isSome) (.command (.frameSendStart (.line q)))
    ++ dueAt (x.sending.map Sending.endsAt) (.frameSendEnd (.line q))
    ++ dueAt (if x.quiet then some x.idleAt else none) (.idleCharacter q)
    ++ dueAt (if x.linkUp then some x.silenceAt else none) (.linkDown q)

/-- What the crew port does of its own accord (R182). -/
def State.crewDue (s : State) : List (Nat × Due) :=
  dueIf s.now (s.canTake .crew) (.request .crew)
    ++ dueIf s.now (s.crew.sending.isNone && !s.crew.responses.isEmpty) (.command (.frameSendStart .crew))
    ++ dueAt (s.crew.sending.map Sending.endsAt) (.frameSendEnd .crew)

/-- The end of a frame that is in progress, when no command ends it before; a module's answer that has not come runs out with the characters
that have arrived by then (R109, R113; log entry 21). -/
def SeatLine.frameEnds (i : Fin 4) (l : SeatLine) (f : SeatFrame) : List (Nat × Due) :=
  match f.cmd with
  | .poll | .ident => [(l.timeoutAt f, .command (.responseTimeout i (min f.cmd.answer (l.arrived f (l.timeoutAt f)))))]
  | .showContent => [(l.sentAt f, .command (.showSent i))]
  | .level => [(l.sentAt f, .command (.levelSent i))]
  | .names => [(l.sentAt f, .command (.namesSent i))]

/-- What a seat line does of its own accord (R109, R113 to R115). ECHO_MISMATCH is not among it (DESIGN CHOICE, log entry 49): a bit time that
is read back otherwise than it was sent is told by the command ECHO MISMATCH alone, also where the level input of the line holds it dominant
in a recessive bit that the part sends (R112). -/
def State.lineDue (s : State) (i : Fin 4) : List (Nat × Due) :=
  let l := s.coach.lines.get i
  dueAt (if s.mayBegin i then some l.frameDue else none) (.seatFrameStart i)
    ++ ((s.coach.frameOn i).map fun f => l.frameEnds i f).getD []
    ++ dueAt (if l.running && l.dominantSince.isSome then some (l.stuckAt s.now) else none) (.lineStuck i)
    ++ dueAt (if l.activity = .stuck ∧ s.levels.get i = .recessive then some (l.freeAt .recessive s.now) else none) (.stuckRelease i)

/-- What the notice unit and the panel line do of their own accord (R150, R152, R154, R156, R159). -/
def NoticeUnit.due (now : Nat) (u : NoticeUnit) : List (Nat × Due) :=
  dueAt u.hold .showMinExpiry
    ++ u.queue.flatMap (fun n => dueAt n.expiresAt (.afterSecondsExpiry n.id))
    ++ dueAt u.chimeUntil .chimeEnd
    ++ dueAt (u.clock.bind fun _ => u.secondAt) .clockSecond
    ++ dueIf now (u.pageDue && u.sending.isNone) (.command .pageStart)
    ++ dueAt (u.sending.map PageSending.endsAt) .pageEnd
    ++ dueAt u.refreshAt .pageRefresh

/-- Everything that the part will do of its own accord, each with its moment. -/
def State.due (s : State) : List (Nat × Due) :=
  s.portDue .a ++ s.portDue .b ++ s.crewDue
    ++ dueAt (s.consist.lead.bind fun _ => s.consist.lease) .leaseExpiry
    ++ dueAt s.coach.axle.windowAt .windowClose
    ++ (List.finRange 4).flatMap s.lineDue
    ++ s.coach.notices.due s.now
    ++ dueAt s.coach.map.stepAt .stepTimerExpiry
    ++ dueAt s.coach.map.frameAt .driveFrameBoundary

/-- What has fallen due, the earliest moment alone. -/
def State.dueNow (s : State) : List Due :=
  let ready := s.due.filter fun d => d.1 ≤ s.now
  match (ready.map Prod.fst).min? with
  | some t => (ready.filter fun d => d.1 = t).map Prod.snd
  | none => []

/-! ## Taking a request from its buffer (R181, R182) -/

/-- The crew subset of the catalogue (R183): SET OUT OF USE, READ SEAT, RESEED SEATS, SEAT LINE CONTROL, POST NOTICE, CANCEL NOTICE and
READ STATUS. -/
def crewKind (kind : Nat) : Bool := kind ∈ [16, 17, 18, 19, 21, 22, 26]

/-- The answer to a request whose payload does not fit its layout (R181, R182); the lead requests and SET CONSIST carry the consist
record in every response (R27). -/
def misfitBody (p : Port) (kind : Nat) (s : State) : State × Reply :=
  let r := refuse (if Port.isCrew p && !crewKind kind then .notPermitted else .badField) s
  if kind ≤ 4 then withConsist r else r

/-- A directed request whose payload does not fit its layout is taken (R181). -/
def State.takeMisfit (p : Port) (kind : Byte) (s : State) : State := request p kind.toNat (misfitBody p kind.toNat) s

/-- The command that a waiting request is, if its payload fits its layout or its kind is not of the catalogue (R181). -/
def Waiting.command (p : Port) (w : Waiting) : Option Instr :=
  match p, w.broadcast with
  | .line q, true => some (.broadcastTaken q w.kind w.payload)
  | _, _ =>
    match decodeRequest p w.kind w.payload with
    | .cmd i => some i
    | .badKind => some (.badKindRequest p w.kind)
    | .badLayout => none

/-- The requests of a port after its oldest has been taken. -/
def State.popRequest (p : Port) (s : State) : State :=
  match p with
  | .line q => s.setPort q { s.port q with requests := (s.port q).requests.drop 1 }
  | .crew => { s with crew := { s.crew with requests := s.crew.requests.drop 1 } }

end Sys2Proof.Machine
end

