-- ==== Sys2Proof/Machine/Reports.lean ====
section
/-! DEFINITION. CONFIGURE, RESTART COACH, READ STATUS and the requests of the report unit (chapter 10). -/

namespace Sys2Proof.Machine

open Sys2Proof.Config

/-! ## CONFIGURE (R184) -/

/-- A value is written to a parameter, with what the axle unit does at the write (R48, R58, R184). -/
def State.configure (id v : Nat) (s : State) : State :=
  { s with
    params := s.params.write id v
    coach := { s.coach with axle := s.coach.axle.configured s.params (s.params.write id v) } }

/-- CONFIGURE of a lead (R184). -/
def configureBody (id value : Nat) (s : State) : State × Reply :=
  if s.coach.journey.phase ≠ .empty then refuse .wrongPhase s
  else match paramRange id with
    | none => refuse .badField s
    | some (lo, hi) =>
      let t := s.configure id (clampTo lo hi value)
      (t, { status := if lo ≤ value ∧ value ≤ hi then .accepted else .adjusted, results := leBytes 1 id ++ leBytes 4 (t.params.read id) })

/-- CONFIGURE (R184). -/
def execConfigure (p : Port) (id value : Nat) (s : State) : Host.Outcome State Fault Refusal :=
  live s (request p 6 (leadOnly p fun _ => configureBody id value))

/-! ## RESTART COACH (R26, R80, R104, R162, R175, R185) -/

/-- The position unit after RESTART COACH (R80). -/
def Position.restarted (p : Position) : Position where
  estimate := 0
  contribution := 0
  motion := match p.motion with
    | .coasting _ => .moving
    | m => m
  accepted := p.accepted
  fix := .unfixed
  lastForward := none

/-- A report queue is emptied; REPORT_OVERRUN is set if it held a report, and RESTARTED in any case (R185). -/
def PortReports.restarted (r : PortReports) : PortReports :=
  { r with
    queue := []
    flags := { r.flags with restarted := true, reportOverrun := r.flags.reportOverrun || !r.queue.isEmpty } }

/-- The coach side after RESTART COACH (R185): the EMPTY change is handed on, then the report queues are emptied. -/
def Coach.restart (e : Env) (c : Coach) : Coach :=
  let c1 := Coach.handEmpty e
    (Coach.flagBoth .positionDegraded false { c with journey := emptied c.journey, position := c.position.restarted })
  { c1 with reportsA := c1.reportsA.restarted, reportsB := c1.reportsB.restarted }

/-- RESTART COACH of a lead (R185). -/
def restartCoachBody (s : State) : State × Reply :=
  ((s.onCoach Coach.restart).discardStaging, { status := .accepted })

/-- RESTART COACH (R185). -/
def execRestartCoach (p : Port) (s : State) : Host.Outcome State Fault Refusal :=
  live s (request p 30 (leadOnly p fun _ => restartCoachBody))

/-! ## READ STATUS (R191) -/

/-- The link state on the wire: UP 0, DOWN 1 (R176, R197). -/
def linkCode (up : Bool) : Byte := if up then 0 else 1

/-- What part 0 carries of the ports: from a line port its own flags, mask, top condition, queue length, link state and the other's link
state; from the crew port the flags of both (R191). -/
def State.portChars (s : State) : Port → List Byte
  | .crew => [s.coach.reportsA.flags.toByte, s.coach.reportsB.flags.toByte]
  | .line q =>
    let r := s.coach.reports q
    [r.flags.toByte, r.mask.toByte, BitVec.ofNat 8 r.flags.top, BitVec.ofNat 8 r.queue.length, linkCode (s.port q).linkUp,
      linkCode (s.port q.other).linkUp]

/-- The seat-line fields of two lines, and SEAT_LINE_FAULT (R124, R191): it stands alike on both line ports. -/
def State.lineChars (s : State) (i k : Fin 4) : List Byte :=
  (s.coach.lines.get i).statusChars s.now (s.levels.get i) ++ (s.coach.lines.get k).statusChars s.now (s.levels.get k)
    ++ [flagByte s.coach.reportsA.flags.seatLineFault]

/-- One part of the status (R191). -/
def State.statusPart (s : State) (p : Port) (part : Nat) : Option (List Byte) :=
  match part with
  | 0 => some (s.consistChars ++ s.coach.journey.chars ++ s.coach.axleChars ++ s.coach.position.chars ++ leBytes 2 s.coach.poolFree
      ++ s.portChars p)
  | 1 => some (s.lineChars 0 1)
  | 2 => some (s.lineChars 2 3)
  | 3 => some s.coach.map.chars
  | _ => none

/-- READ STATUS of any port (R191). -/
def readStatusBody (p : Port) (part : Nat) (s : State) : State × Reply :=
  match s.statusPart p part with
  | some cs => (s, { status := .accepted, results := cs })
  | none => refuse .badField s

/-- READ STATUS (R191). -/
def execReadStatus (p : Port) (part : Nat) (s : State) : Host.Outcome State Fault Refusal :=
  live s (request p 26 (readStatusBody p part))

/-! ## FETCH REPORT (R188) -/

/-- A change of what the report unit holds for a line port. -/
def State.onReports (q : LinePort) (f : PortReports → PortReports) (s : State) : State :=
  { s with coach := s.coach.setReports q (f (s.coach.reports q)) }

/-- FETCH REPORT of a line port (R188). -/
def fetchReportBody (q : LinePort) (s : State) : State × Reply :=
  match (s.coach.reports q).queue with
  | [] => (s, { status := .accepted, results := leBytes 1 0 })
  | r :: rest =>
    (s.onReports q fun x => { x with queue := rest }, { status := .accepted, results := r.chars ++ leBytes 1 rest.length })

/-- FETCH REPORT (R188). -/
def execFetchReport (p : Port) (s : State) : Host.Outcome State Fault Refusal :=
  live s (request p 27 (lineOnly p fetchReportBody))

/-! ## ACK CONDITIONS and SET ATTENTION MASK (R189, R190) -/

/-- The flags of a port after an acknowledge: the marked ones clear, the level flags set again while their cause lasts (R190). -/
def Coach.acknowledged (c : Coach) (marks f : Conditions) : Conditions :=
  let g := f.clear marks
  { g with
    positionDegraded := g.positionDegraded || c.position.fix == .degraded
    seatLineFault := g.seatLineFault || !c.noneStuck }

/-- ACK CONDITIONS of a line port (R190). -/
def ackConditionsBody (marks : Byte) (q : LinePort) (s : State) : State × Reply :=
  let flags := s.coach.acknowledged (Conditions.ofByte marks) (s.coach.reports q).flags
  (s.onReports q fun x => { x with flags }, { status := .accepted, results := [flags.toByte, BitVec.ofNat 8 flags.top] })

/-- ACK CONDITIONS (R190). -/
def execAckConditions (p : Port) (marks : Byte) (s : State) : Host.Outcome State Fault Refusal :=
  live s (request p 28 (lineOnly p (ackConditionsBody marks)))

/-- SET ATTENTION MASK of a line port (R189). -/
def setAttentionMaskBody (enables : Byte) (q : LinePort) (s : State) : State × Reply :=
  let mask := Conditions.ofByte enables
  (s.onReports q fun x => { x with mask }, { status := .accepted, results := [mask.toByte] })

/-- SET ATTENTION MASK (R189). -/
def execSetAttentionMask (p : Port) (enables : Byte) (s : State) : Host.Outcome State Fault Refusal :=
  live s (request p 29 (lineOnly p (setAttentionMaskBody enables)))

end Sys2Proof.Machine
end

