-- ==== Sys2Proof/Machine/Reset.lean ====
section
/-! DEFINITION. Device reset and the release of RESET (R1). -/

namespace Sys2Proof.Machine

open Sys2Proof.Config

/-- DEVICE RESET (R1): every block takes its state after device reset. The commands that wait, the count of choices and the levels of the
seat-line wires are not blocks of the part (log entry 31). -/
def execDeviceReset (s : State) : Host.Outcome State Fault Refusal :=
  .next { State.reset with pending := s.pending, choices := s.choices, levels := s.levels }

/-- The coach side at the release of RESET: the decoder takes its first sample, the window timer and the drive frame timer start, and the
first drive frame begins (R43, R54, R166). -/
def Coach.release (ch1 ch2 : Bool) (c : Coach) : Coach :=
  { c with
    axle := { c.axle with pair := some (ch1, ch2), windowAt := some speedWindow }
    map := { c.map.boundary c.journey.orientation with frameNumber := 0, frameAt := some Config.driveFrame } }

/-- RESET RELEASE (R1): every timer, clock and count starts, and the first idle page begins (R156). It ends a device reset only. -/
def execResetRelease (ch1 ch2 : Bool) (s : State) : Host.Outcome State Fault Refusal :=
  .next <|
    if s.inReset then
      State.onCoach (fun e c => (c.release ch1 ch2).beginPage e) { s with inReset := false, now := 0 }
    else s

end Sys2Proof.Machine
end

