-- ==== Sys2Proof/Machine/Sensing.lean ====
section
/-! DEFINITION. POSITION FIX and the events of the axle unit (chapters 3 and 4). -/

namespace Sys2Proof.Machine

open Sys2Proof.Config

/-! ## POSITION FIX (R74 to R76) -/

/-- What a fix carries (R74): BALISE 0, STATION 1, ESTIMATE 2. -/
structure Fix where
  position : Nat
  kind : Nat
  stop : Option Nat
  deriving DecidableEq, Repr

/-- The fix position, held to 4,000,000 m (R74). -/
def Fix.at' (f : Fix) : Nat := min routeTop f.position

/-- The status of a fix that is not refused (R74). -/
def Fix.status (f : Fix) : Status := if routeTop < f.position then .adjusted else .accepted

/-- A fix of kind ESTIMATE taken while the fix state is FIXED is not applied (R74). -/
def Fix.ignored (f : Fix) (c : Coach) : Bool := f.kind = 2 && c.position.fix = .fixed

/-- The response of a fix: the note IGNORED as a flag, the discrepancy before the fix, the fix state and the estimate after it (R74, log
entry 11). -/
def fixResults (ignored : Bool) (discrepancy : Int) (c : Coach) : List Byte :=
  flagByte ignored :: intBytes 4 discrepancy ++ leBytes 1 c.position.fix.code ++ leBytes 4 c.position.metres

/-- A fix that is not refused is ignored or applied (R74 to R76). -/
def takeFix (f : Fix) (s : State) : State × Reply :=
  let t := if f.ignored s.coach then s
    else s.onCoach fun e c => c.applyFix e f.at' f.stop (if f.kind = 1 then f.stop else none)
  (t, { status := f.status, results := fixResults (f.ignored s.coach) (s.coach.discrepancy f.at') t.coach })

/-- POSITION FIX of a lead (R74). -/
def positionFixBody (f : Fix) : State → State × Reply :=
  judge [ (2 < f.kind, .badField), (f.stop.any fun k => k = 0 || k = 65535, .badField) ] (takeFix f)

/-- POSITION FIX (R74). -/
def execPositionFix (p : Port) (position kind : Nat) (stop : Option Nat) (s : State) : Host.Outcome State Fault Refusal :=
  live s (request p 20 (leadOnly p fun _ => positionFixBody { position, kind, stop }))

/-! ## The axle channels (R43 to R47) -/

/-- AXLE EDGE (R46): the clock stands at the sample when the edge is taken (log entry 4). -/
def execAxleEdge (channel : AxleChannel) (stamp : Stamp) (s : State) : Host.Outcome State Fault Refusal :=
  live s fun s => State.onCoach (fun e c => c.axleEdge e channel stamp) { s with now := momentOf s.now stamp }

/-- ILLEGAL TRANSITION (R44). -/
def execIllegalTransition (s : State) : Host.Outcome State Fault Refusal :=
  live s fun s => s.onCoach fun _ c => { c with axle := c.axle.illegalEdge }

/-! ## The window (R54) -/

/-- The next window follows the one that closes (R54). -/
def Coach.nextWindow (at' : Nat) (c : Coach) : Coach := { c with axle := { c.axle with windowAt := some at' } }

/-- WINDOW CLOSE (R54). -/
def execWindowClose (s : State) : Host.Outcome State Fault Refusal :=
  live s fun s =>
    match s.coach.axle.windowAt with
    | some d => (s.runTo d).onCoach fun e c => (c.windowClose e).nextWindow (d + speedWindow)
    | none => s

end Sys2Proof.Machine
end

