-- ==== Sys2Proof/Machine/Strip.lean ====
section
/-! DEFINITION. The timer events of the map unit (chapter 9). -/

namespace Sys2Proof.Machine

open Sys2Proof.Config

/-- STEP TIMER EXPIRY (R170). -/
def execStepTimerExpiry (s : State) : Host.Outcome State Fault Refusal :=
  live s fun s =>
    match s.coach.map.stepAt with
    | some d => (s.runTo d).onCoach Coach.mapStepTimer
    | none => s

/-- A frame of the drive begins: its number in the blink cycle of 200, and the next boundary 5 ms later (R166, R169). -/
def Coach.driveFrame (at' : Nat) (c : Coach) : Coach :=
  let m := c.map.boundary c.journey.orientation
  { c with map := { m with frameNumber := (m.frameNumber + 1) % 200, frameAt := some at' } }

/-- DRIVE FRAME BOUNDARY (R169). -/
def execDriveFrameBoundary (s : State) : Host.Outcome State Fault Refusal :=
  live s fun s =>
    match s.coach.map.frameAt with
    | some d => (s.runTo d).onCoach fun _ c => c.driveFrame (d + Config.driveFrame)
    | none => s

end Sys2Proof.Machine
end

