-- ==== Sys2Proof/Machine/Dispatch.lean ====
section
/-! DEFINITION. One arm per command of spec/opcode_table.json. -/

namespace Sys2Proof.Machine

def exec (i : Instr) (s : State) : Host.Outcome State Fault Refusal :=
  match i with
  | .deviceReset => Sys2Proof.Machine.execDeviceReset s
  | .resetRelease ch1 ch2 => Sys2Proof.Machine.execResetRelease ch1 ch2 s
  | .linkUp p c => Sys2Proof.Machine.execLinkUp p c s
  | .linkDown p => Sys2Proof.Machine.execLinkDown p s
  | .idleCharacter p => Sys2Proof.Machine.execIdleCharacter p s
  | .lineFrameReceived p chars => Sys2Proof.Machine.execLineFrameReceived p chars s
  | .frameSendStart p => Sys2Proof.Machine.execFrameSendStart p s
  | .frameSendEnd p => Sys2Proof.Machine.execFrameSendEnd p s
  | .crewFrameReceived chars => Sys2Proof.Machine.execCrewFrameReceived chars s
  | .broadcastTaken p kind payload => Sys2Proof.Machine.execBroadcastTaken p kind payload s
  | .badKindRequest p kind => Sys2Proof.Machine.execBadKindRequest p kind s
  | .claimLead p generation unitId => Sys2Proof.Machine.execClaimLead p generation unitId s
  | .keepLead p => Sys2Proof.Machine.execKeepLead p s
  | .yieldLead p => Sys2Proof.Machine.execYieldLead p s
  | .setConsist p coach portion generation => Sys2Proof.Machine.execSetConsist p coach portion generation s
  | .setOrientation p orientation => Sys2Proof.Machine.execSetOrientation p orientation s
  | .configure p id value => Sys2Proof.Machine.execConfigure p id value s
  | .seatMap p count seats => Sys2Proof.Machine.execSeatMap p count seats s
  | .beginLoad p count => Sys2Proof.Machine.execBeginLoad p count s
  | .stopRecords p first records => Sys2Proof.Machine.execStopRecords p first records s
  | .endLoad p => Sys2Proof.Machine.execEndLoad p s
  | .amendStop p r => Sys2Proof.Machine.execAmendStop p r s
  | .readStop p index => Sys2Proof.Machine.execReadStop p index s
  | .reserve p seat token boarding alighting => Sys2Proof.Machine.execReserve p seat token boarding alighting s
  | .cancel p token => Sys2Proof.Machine.execCancel p token s
  | .release p token => Sys2Proof.Machine.execRelease p token s
  | .setOutOfUse p seat on => Sys2Proof.Machine.execSetOutOfUse p seat on s
  | .readSeat p seat => Sys2Proof.Machine.execReadSeat p seat s
  | .reseedSeats p seat => Sys2Proof.Machine.execReseedSeats p seat s
  | .seatLineControl p r => Sys2Proof.Machine.execSeatLineControl p r s
  | .positionFix p position kind stop => Sys2Proof.Machine.execPositionFix p position kind stop s
  | .postNotice p r => Sys2Proof.Machine.execPostNotice p r s
  | .cancelNotice p id => Sys2Proof.Machine.execCancelNotice p id s
  | .setText p number text => Sys2Proof.Machine.execSetText p number text s
  | .setClock p minute second => Sys2Proof.Machine.execSetClock p minute second s
  | .readNotices p first text => Sys2Proof.Machine.execReadNotices p first text s
  | .readStatus p part => Sys2Proof.Machine.execReadStatus p part s
  | .fetchReport p => Sys2Proof.Machine.execFetchReport p s
  | .ackConditions p marks => Sys2Proof.Machine.execAckConditions p marks s
  | .setAttentionMask p enables => Sys2Proof.Machine.execSetAttentionMask p enables s
  | .restartCoach p => Sys2Proof.Machine.execRestartCoach p s
  | .leaseExpiry => Sys2Proof.Machine.execLeaseExpiry s
  | .axleEdge channel stamp => Sys2Proof.Machine.execAxleEdge channel stamp s
  | .illegalTransition => Sys2Proof.Machine.execIllegalTransition s
  | .windowClose => Sys2Proof.Machine.execWindowClose s
  | .seatFrameStart line => Sys2Proof.Machine.execSeatFrameStart line s
  | .pollResponse line count0 count1 check => Sys2Proof.Machine.execPollResponse line count0 count1 check s
  | .identResponse line kind places check => Sys2Proof.Machine.execIdentResponse line kind places check s
  | .showSent line => Sys2Proof.Machine.execShowSent line s
  | .levelSent line => Sys2Proof.Machine.execLevelSent line s
  | .namesSent line => Sys2Proof.Machine.execNamesSent line s
  | .responseTimeout line arrived => Sys2Proof.Machine.execResponseTimeout line arrived s
  | .framing line => Sys2Proof.Machine.execFraming line s
  | .echoMismatch line => Sys2Proof.Machine.execEchoMismatch line s
  | .lineStuck line => Sys2Proof.Machine.execLineStuck line s
  | .stuckRelease line => Sys2Proof.Machine.execStuckRelease line s
  | .showMinExpiry => Sys2Proof.Machine.execShowMinExpiry s
  | .afterSecondsExpiry id => Sys2Proof.Machine.execAfterSecondsExpiry id s
  | .chimeEnd => Sys2Proof.Machine.execChimeEnd s
  | .clockSecond => Sys2Proof.Machine.execClockSecond s
  | .pageStart => Sys2Proof.Machine.execPageStart s
  | .pageEnd => Sys2Proof.Machine.execPageEnd s
  | .pageRefresh => Sys2Proof.Machine.execPageRefresh s
  | .stepTimerExpiry => Sys2Proof.Machine.execStepTimerExpiry s
  | .driveFrameBoundary => Sys2Proof.Machine.execDriveFrameBoundary s
  | .validCharacter p c => Sys2Proof.Machine.execValidCharacter p c s
  | .invalidCharacter p => Sys2Proof.Machine.execInvalidCharacter p s
  | .seatLineLevelChange line level => Sys2Proof.Machine.execSeatLineLevelChange line level s

end Sys2Proof.Machine
end

