-- ==== Sys2Proof/Machine/Step.lean ====
section
/-! DEFINITION. One step: the command at the front of the queue, or what the part does of its own accord. -/

namespace Sys2Proof.Machine

/-- A request of a port's buffer is taken: as the command it spells, or as one whose payload does not fit its layout (R181). -/
def takeRequest (p : Port) (s : State) : Host.Outcome State Fault Refusal :=
  match (s.requests p).head? with
  | none => .next s
  | some w =>
    match w.command p with
    | some i => exec i (s.popRequest p)
    | none => .next ((s.popRequest p).takeMisfit p w.kind)

/-- Something that has fallen due is taken. -/
def takeDue (d : Due) (s : State) : Host.Outcome State Fault Refusal :=
  match d with
  | .command i => exec i s
  | .request p => takeRequest p s

/-- The empty queue: nothing happens while RESET is low; otherwise what has fallen due is taken, the order of several being free
(log entry 2), and with nothing due the clock moves on one crystal period (log entry 1). -/
def idle (s : State) : Host.Outcome State Fault Refusal :=
  if s.inReset then .next s
  else match s.dueNow with
    | [] => .next { s with now := s.now + 1 }
    | [d] => takeDue d s
    | d :: ds =>
      takeDue ((d :: ds).getD (Config.dueChoice s.choices % (ds.length + 1)) d) { s with choices := s.choices + 1 }

/-- One step: the command at the front of the queue is taken with the rest of the queue. -/
def step (s : State) : Host.Outcome State Fault Refusal :=
  match s.pending with
  | i :: rest => exec i { s with pending := rest }
  | [] => idle s

/-- The command that a word spells by the table's bits, put at the front of the queue; the table gives no bits, so no word spells one. -/
def State.withFetchWord (s : State) (nbits w : Nat) : State :=
  match decodeTableWord nbits w with
  | some i => { s with pending := i :: s.pending }
  | none => s

end Sys2Proof.Machine
end

