-- ==== Sys2Proof/Safety.lean ====
section
/-! DEFINITION. The terms of the claims: requests and their answers, characters received in a row, and the invariants that every step keeps. -/

namespace Sys2Proof.Machine

open Sys2Proof.Config

/-! ## Requests and answers -/

/-- The port and the kind number of a request of the catalogue (R183). -/
def requestOf : Instr → Option (Port × Nat)
  | .claimLead p _ _ => some (p, 1)
  | .keepLead p => some (p, 2)
  | .yieldLead p => some (p, 3)
  | .setConsist p _ _ _ => some (p, 4)
  | .setOrientation p _ => some (p, 5)
  | .configure p _ _ => some (p, 6)
  | .seatMap p _ _ => some (p, 7)
  | .beginLoad p _ => some (p, 8)
  | .stopRecords p _ _ => some (p, 9)
  | .endLoad p => some (p, 10)
  | .amendStop p _ => some (p, 11)
  | .readStop p _ => some (p, 12)
  | .reserve p _ _ _ _ => some (p, 13)
  | .cancel p _ => some (p, 14)
  | .release p _ => some (p, 15)
  | .setOutOfUse p _ _ => some (p, 16)
  | .readSeat p _ => some (p, 17)
  | .reseedSeats p _ => some (p, 18)
  | .seatLineControl p _ => some (p, 19)
  | .positionFix p _ _ _ => some (p, 20)
  | .postNotice p _ => some (p, 21)
  | .cancelNotice p _ => some (p, 22)
  | .setText p _ _ => some (p, 23)
  | .setClock p _ _ => some (p, 24)
  | .readNotices p _ _ => some (p, 25)
  | .readStatus p _ => some (p, 26)
  | .fetchReport p => some (p, 27)
  | .ackConditions p _ => some (p, 28)
  | .setAttentionMask p _ => some (p, 29)
  | .restartCoach p => some (p, 30)
  | _ => none

/-- The kinds marked lead in the catalogue, and KEEP LEAD and YIELD LEAD, which only the lead port may use (R32, R36, R183). -/
def leadKinds : List Nat := [2, 3, 4, 5, 6, 7, 8, 9, 10, 11, 13, 14, 15, 16, 18, 19, 20, 21, 22, 23, 24, 30]

/-- A request of a port can be taken: RESET is high and the response buffer has a free place. -/
abbrev State.takes (s : State) (p : Port) : Prop := s.inReset = false ∧ s.hasPlace p = true

/-- A request of the lead port can be taken. -/
abbrev State.leads (s : State) (q : LinePort) : Prop := s.takes (.line q) ∧ s.consist.lead = some q

/-- A request of a port that may send what the lead port and the crew port may send can be taken. -/
abbrev State.controls (s : State) (p : Port) : Prop := s.takes p ∧ (p = .crew ∨ s.isLead p = true)

/-- A lease of a whole LEAD_LEASE, started at the moment of a state (R28, R33). -/
def State.wholeLease (s : State) : Option Nat := some (s.now + s.params.leadLease * perMillisecond)

/-- The state with the lease started again (R33). -/
def State.renewed (s : State) : State := { s with consist := { s.consist with lease := s.wholeLease } }

/-- The response of a request, formed on the state that the request leaves: hop 0, the kind plus 0x80, status, coach number, results
(R178, R193). -/
def State.answer (p : Port) (kind : Nat) (st : Status) (results : List Byte) (s : State) : State :=
  s.respond p
    { hop := 0
      kind := BitVec.ofNat 8 (kind + 128)
      payload := BitVec.ofNat 8 st.code :: BitVec.ofNat 8 s.consist.coachNumber :: results }

/-- Everything outside the consist record and the coach side is as it was. -/
def SameOutside (s t : State) : Prop :=
  t.pending = s.pending ∧ t.choices = s.choices ∧ t.inReset = s.inReset ∧ t.now = s.now ∧ t.levels = s.levels ∧ t.params = s.params
    ∧ t.portA = s.portA ∧ t.portB = s.portB ∧ t.crew = s.crew

/-- A seat record without its display content, which follows from the rest (R81, R100). -/
def Seat.bare (s : Seat) : Seat := { s with content := .noInfo }

/-- A stop record without its status, which the journey unit derives (R2). -/
def StopRec.asLoaded (r : StopRec) : StopRec := { r with status := .ahead }

/-- A line that has taken the values of SEAT LINE CONTROL, each held to its range, and kept every value that was not given (R106): a module
count takes the modules at or above it out of service and out of the SHOW queue, and those it adds are WAKING. -/
def SeatLine.Took (r : LineControl) (l y : SeatLine) : Prop :=
  y.moduleCount = (r.moduleCount.map (min 16)).getD l.moduleCount
    ∧ y.bitRate = (r.bitRate.map fun b => if b = 19200 then BitRate.b19200 else .b9600).getD l.bitRate
    ∧ y.breakBits = (r.breakBits.map fun v => max 13 (min 24 v)).getD l.breakBits
    ∧ y.rtFactor = (r.rtFactor.map fun v => max 11 (min 20 v)).getD l.rtFactor
    ∧ y.faultCount = (r.faultCount.map fun v => max 2 (min 8 v)).getD l.faultCount
    ∧ y.labelLevel = (r.labelLevel.map (min 255)).getD l.labelLevel
    ∧ y.stale = l.stale
    ∧ y.showQueue = (if r.moduleCount = none then l.showQueue else l.showQueue.filter fun m => m.val < y.moduleCount)

/-! ## Characters in a row -/

/-- What a receiver is receiving after characters in a row, and the frames that they complete (R177). -/
def receiveAll (withHop : Bool) : Option Receiving → List Byte → Option Receiving × List Frame
  | rx, [] => (rx, [])
  | rx, c :: cs =>
    let r := receive withHop rx c
    let q := receiveAll withHop r.1 cs
    (q.1, r.2.toList ++ q.2)

/-! ## Invariants -/

/-- The lead names at most one line port, only while that port's link is UP, and the lease runs exactly while there is a lead (R27, R33). -/
def LeadHasLink (s : State) : Prop :=
  (∀ p, s.consist.lead = some p → (s.port p).linkUp = true) ∧ s.consist.lead.isSome = s.consist.lease.isSome

/-- The buffers of a line port hold at most two frames each, and those that send out of a port whose link is DOWN, as its receiver, are
empty (R177, R179 to R181). -/
def PortState.bounded (x : PortState) : Prop :=
  x.forward.length ≤ 2 ∧ x.requests.length ≤ 2 ∧ x.responses.length ≤ 2
    ∧ (x.linkUp = false → x.forward = [] ∧ x.responses = [] ∧ x.rx = none)

/-- The buffers of the three ports keep their bounds (R179 to R182). -/
def BuffersBounded (s : State) : Prop :=
  s.portA.bounded ∧ s.portB.bounded ∧ s.crew.requests.length ≤ 2 ∧ s.crew.responses.length ≤ 2

/-- Each line port's report queue holds at most 16 reports (R187). -/
def ReportsBounded (s : State) : Prop := s.coach.reportsA.queue.length ≤ 16 ∧ s.coach.reportsB.queue.length ≤ 16

/-- The level conditions stand on both line ports exactly while their causes last: POSITION_DEGRADED while the fix state is DEGRADED (R73),
SEAT_LINE_FAULT while a line is STUCK (R114). -/
def LevelFlagsTrue (s : State) : Prop :=
  s.coach.reportsA.flags.positionDegraded = (s.coach.position.fix == .degraded)
    ∧ s.coach.reportsB.flags.positionDegraded = (s.coach.position.fix == .degraded)
    ∧ s.coach.reportsA.flags.seatLineFault = !s.coach.noneStuck
    ∧ s.coach.reportsB.flags.seatLineFault = !s.coach.noneStuck

/-- The estimate stays within 0 to 4,000,000,000 mm (R62), and the tables of places, modules and texts keep their sizes (R119, R127,
R153). -/
def RangesKept (s : State) : Prop :=
  s.coach.position.estimate ≤ 4000000000 * perMillimetre ∧ s.coach.sensors.length = 128 ∧ s.coach.notices.texts.length = 32
    ∧ ∀ i, (s.coach.lines.get i).modules.length = 16

end Sys2Proof.Machine
end

