-- ==== Sys2Proof/Certificates/Slice0/Obligations.lean ====
section
/-! DEFINITION. The statements for the provers, family by family. A docstring names the rules that a statement speaks of; where a
statement rests on a choice of the model, it names the log entry. -/

open Sys2Proof Sys2Proof.Machine

/-! ## The queue, the part's own time and device reset -/

/-- Log entry 1: a step takes the command at the front of the queue, with the rest of the queue. -/
def Obligations.StepTakesTheFrontCommand : Prop :=
  ∀ (c : Instr) (rest : List Instr) (s : State), step { s with pending := c :: rest } = exec c { s with pending := rest }

/-- The model's choice (log entries 1, 2, 3 and 6): with an empty queue the part holds still while RESET is low, else takes one of the
events that fell due first, whichever the free value names, and with nothing due lets one crystal period pass. The events that fell due
first are all those of the earliest moment that has come. What is due, and when: a request that can be taken, a transmitter or a page that
may begin, at once; each timer of the part at its end, the frame of a seat line (log entries 20, 21 and 40) and the line watch among them;
no request falls due but through its buffer, and no ECHO_MISMATCH of itself (log entry 49). What falls due runs as its command. R181: taking
a request of a buffer removes the oldest and runs the command it spells, or refuses a payload that does not fit the layout of its kind:
BAD_FIELD, and on the crew port NOT_PERMITTED for a kind outside the crew subset, with the consist record in the answer to a lead request or
SET CONSIST (log entry 7). An empty buffer gives nothing to take. While its response buffer has no free place, a request command changes
nothing (log entry 6). -/
def Obligations.IdleStepTakesWhatFellDueFirst : Prop :=
  (∀ s : State, s.pending = [] →
    (s.inReset = true → step s = .next s)
    ∧ (s.inReset = false → s.dueNow = [] → step s = .next { s with now := s.now + 1 })
    ∧ (∀ d, s.inReset = false → s.dueNow = [d] → step s = takeDue d s)
    ∧ (s.inReset = false → 2 ≤ s.dueNow.length → ∃ d ∈ s.dueNow, step s = takeDue d { s with choices := s.choices + 1 }))
  ∧ (∀ (s : State) (d : Due), d ∈ s.dueNow ↔ ∃ t, t ≤ s.now ∧ (t, d) ∈ s.due ∧ ∀ x ∈ s.due, t ≤ x.1)
  ∧ (∀ (s : State) (t : Nat) (p : Port) (q : LinePort) (i : Fin 4) (n : Nat), ∃ x l u, ∃ due : Instr → Prop,
    x = s.port q ∧ l = s.coach.lines.get i ∧ u = s.coach.notices ∧ (∀ c, due c = ((t, .command c) ∈ s.due))
    ∧ ((t, .request p) ∈ s.due ↔ t = s.now ∧ ∃ w ws, s.requests p = w :: ws ∧ (w.broadcast = true ∨ (s.responses p).length < 2))
    ∧ (due (.frameSendStart (.line q)) ↔ t = s.now ∧ x.sending = none ∧ (x.forward ≠ [] ∨ x.responses ≠ []))
    ∧ (due (.frameSendStart .crew) ↔ t = s.now ∧ s.crew.sending = none ∧ s.crew.responses ≠ [])
    ∧ (due (.frameSendEnd p) ↔ ∃ y, s.sendingOn p = some y ∧ t = y.endsAt)
    ∧ (due (.idleCharacter q) ↔ x.forward = [] ∧ x.responses = [] ∧ x.sending = none ∧ t = x.lastEnd + 480000)
    ∧ (due (.linkDown q) ↔ x.linkUp = true ∧ t = x.silenceAt)
    ∧ (due .leaseExpiry ↔ s.consist.lead ≠ none ∧ s.consist.lease = some t)
    ∧ (due .windowClose ↔ s.coach.axle.windowAt = some t)
    ∧ (due (.seatFrameStart i) ↔ l.activity = .idle ∧ s.levels.get i = .recessive ∧ l.moduleCount ≠ 0
        ∧ t = l.recessiveSince + 4 * l.bitRate.period)
    ∧ (due (.responseTimeout i n) ↔ ∃ f k, l.activity = .frame f ∧ ((f.cmd = .poll ∧ k = 4) ∨ (f.cmd = .ident ∧ k = 2))
        ∧ t = f.start + (l.breakBits + 21 + l.rtFactor * (k + 1)) * l.bitRate.period
        ∧ n = min k (f.begun.filter fun b => b + 19 * l.bitRate.period / 2 ≤ t).length)
    ∧ (∀ cmd c, (cmd, c) ∈ [(SeatCmd.showContent, Instr.showSent i), (.level, .levelSent i), (.names, .namesSent i)] →
        (due c ↔ ∃ f, l.activity = .frame f ∧ f.cmd = cmd
          ∧ t = f.start + (l.breakBits + 21 + 10 * (f.data.length + 1)) * l.bitRate.period))
    ∧ (due (.lineStuck i) ↔ (l.activity = .idle ∨ ∃ f, l.activity = .frame f)
        ∧ ∃ d, l.dominantSince = some d ∧ t = d + 30 * l.bitRate.period)
    ∧ (due (.stuckRelease i) ↔ l.activity = .stuck ∧ s.levels.get i = .recessive ∧ t = l.recessiveSince + 2400000)
    ∧ (due .showMinExpiry ↔ u.hold = some t)
    ∧ (due (.afterSecondsExpiry n) ↔ ∃ m ∈ u.queue, ∃ k f, m.id = n ∧ m.ends = .afterSeconds k ∧ m.firstShown = some f
        ∧ t = (f + k * 1000) * 24000)
    ∧ (due .chimeEnd ↔ u.chimeUntil = some t)
    ∧ (due .clockSecond ↔ u.clock ≠ none ∧ u.secondAt = some t)
    ∧ (due .pageStart ↔ t = s.now ∧ u.pageDue = true ∧ u.sending = none)
    ∧ (due .pageEnd ↔ ∃ y, u.sending = some y ∧ t = y.endsAt)
    ∧ (due .pageRefresh ↔ u.refreshAt = some t)
    ∧ (due .stepTimerExpiry ↔ s.coach.map.stepAt = some t)
    ∧ (due .driveFrameBoundary ↔ s.coach.map.frameAt = some t)
    ∧ (¬ due (.echoMismatch i)) ∧ ∀ c, requestOf c ≠ none → ¬ due c)
  ∧ (∀ (c : Instr) (s : State), takeDue (.command c) s = exec c s)
  ∧ (∀ (s : State) (p : Port), s.requests p = [] → takeDue (.request p) s = .next s)
  ∧ (∀ (s : State) (p : Port) (w : Waiting) (ws : List Waiting), s.requests p = w :: ws →
    ((s.popRequest p).requests p = ws)
    ∧ (∀ i, w.command p = some i → takeDue (.request p) s = exec i (s.popRequest p))
    ∧ (w.command p = none → (s.popRequest p).takes p → ∃ x st results, x = (s.popRequest p).renew p
        ∧ takeDue (.request p) s = .next (State.answer p w.kind.toNat st results x)
        ∧ st = (if p = .crew ∧ w.kind.toNat ∉ [16, 17, 18, 19, 21, 22, 26] then .notPermitted else .badField)
        ∧ results = if w.kind.toNat ≤ 4 then x.consistChars else []))
  ∧ ∀ (i : Instr) (p : Port) (k : Nat) (s : State), requestOf i = some (p, k) → 2 ≤ (s.responses p).length → exec i s = .next s

/-- R1 and the reset tables of the chapters, field by field. The queue, the count of choices and the levels of the wires are kept (log
entry 31); the still field of the last window record is the model's choice (log entry 39), as are the fields that hold the model's own
moments, its record of the page last compared and the last character sent on a line port (log entries 22, 23 and 48). -/
def Obligations.DeviceResetGivesTheResetValues : Prop :=
  ∀ s : State, ∃ t, exec .deviceReset s = .next t ∧ t.inReset = true ∧ t.now = 0
    ∧ t.pending = s.pending ∧ t.choices = s.choices ∧ t.levels = s.levels
    ∧ t.params = ⟨150, 3000, 16, 2900, 100, 10, 300, 200, 400, 800, 16, 100, 50, 3000, 3, 8, 120, 64, 3, 5, 2500, 400, 4, 2, 40, 80, 6, false⟩
    ∧ t.consist = ⟨0, 0, 0, none, 0, none, none⟩
    ∧ (∀ p, t.port p = ⟨false, 0, none, [], [], [], none, 0, true, none⟩) ∧ t.crew = ⟨none, [], [], none⟩
    ∧ t.coach.journey = ⟨.empty, [], [], none, none, none, none, .unset⟩
    ∧ t.coach.axle = ⟨none, false, 0, 0, false, none, [], none, 0, [], false, none, ⟨.zero, some 0, 0, true⟩, 10⟩
    ∧ t.coach.position = ⟨0, 0, .standstill, 0, .unfixed, none⟩
    ∧ t.coach.seats = []
    ∧ (∀ x : PlaceId, t.coach.sensor x = ⟨.unknown, false, none, none, 0, 0⟩)
    ∧ (∀ i, t.coach.lines.get i = ⟨.off, 0, .b9600, 14, 14, 3, 160, 0, false, [], 0, none, 0,
          List.replicate 16 ⟨.unused, 0, none, none, false, false, .none⟩⟩ ∧ (t.coach.lines.get i).dominantRun t.now = 0)
    ∧ t.coach.notices = ⟨[], 0, none, List.replicate 32 [], none, none, false, false, none,
        ⟨none, none, none, none, none, .none, none, [], none, 0⟩, true, none, none⟩
    ∧ t.coach.map = ⟨List.replicate 48 .unused, none, 0, 0, 0, none, List.replicate 48 .forcedOff, List.replicate 48 .forcedOff,
        List.replicate 48 .forcedOff, 0, none⟩
    ∧ (∀ p, t.coach.reports p = ⟨[], ⟨true, false, false, false, false, false⟩, ⟨true, true, true, true, true, true⟩⟩
        ∧ (t.coach.reports p).attention = true)

/-- R1, R43, R54, R156, R166: while RESET stays low every command but DEVICE RESET and RESET RELEASE finds the blocks held (log entry 5).
The release takes the first sample of the axle channels, starts the window timer and the drive frame timer, drives the dots from the shadow
table and begins the first idle page, formed from the fields of the page as they stand; it changes nothing else, and has no effect when
RESET is high already. -/
def Obligations.ResetHoldsThePartUntilItsRelease : Prop :=
  (∀ (i : Instr) (s : State), s.inReset = true → i ≠ .deviceReset → (∀ a b, i ≠ .resetRelease a b) → exec i s = .next s)
  ∧ ∀ (s : State) (ch1 ch2 : Bool), ∃ f page, f = s.coach.pageFields s.env ∧ page = f.page s.coach.notices.clock
    ∧ (s.inReset = false → exec (.resetRelease ch1 ch2) s = .next s)
    ∧ (s.inReset = true → exec (.resetRelease ch1 ch2) s = .next { s with
        inReset := false
        now := 0
        coach := { s.coach with
          axle := { s.coach.axle with pair := some (ch1, ch2), windowAt := some 2400000 }
          map := { s.coach.map with
            active := s.coach.map.shadow
            driven := (List.range 48).map fun k =>
              s.coach.map.shadow.getD (if s.coach.journey.orientation = .bForward then 47 - k else k) .forcedOff
            frameNumber := 0
            frameAt := some 120000 }
          notices := { s.coach.notices with
            fields := f, pageDue := false, sending := some ⟨page, page.length * 12500⟩, refreshAt := some 240000000 } } })

/-! ## Frames and characters (chapter 10) -/

/-- R177, R193: what the wire carries of a frame is received as that frame, whatever was being received before its delimiter, and nothing
else is received with it. Where an escape was open, that the delimiter begins a new frame is the model's choice (log entry 24). A receiver
hands over a frame only when the characters received are the content of that frame and the CRC formed over it, the length being at most 240,
and it then receives nothing. -/
def Obligations.FrameRoundTrip : Prop :=
  (∀ (withHop : Bool) (rx : Option Receiving) (f : Frame), f.payload.length ≤ 240 → (withHop = false → f.hop = 0) →
    receiveAll withHop rx (0x7E#8 :: f.wire withHop) = (none, [f]))
  ∧ ∀ (withHop : Bool) (rx x : Option Receiving) (c : Byte) (f : Frame), receive withHop rx c = (x, some f) →
    x = none ∧ f.payload.length ≤ 240 ∧ c ≠ 0x7E#8
    ∧ ∃ r, rx = some r ∧ r.chars ++ [if r.escape then c ^^^ 0x20#8 else c] = f.content withHop ++ crcChars (f.content withHop)

/-- R176 to R182: a frame received whole takes its port's link UP, starts its silence again and is handled by kind and hop. A frame to be
forwarded joins the forward buffer of the other port only while that link is UP and the buffer holds fewer than two; a request joins the
request buffer only while that holds fewer than two. On the crew port a response is discarded. The model's choices: the characters of the
frame come at one moment, from which the silence is timed (log entry 33), and the delimiter begins the frame even where an escape was open
(log entry 24). -/
def Obligations.FrameIsHandledByKindAndHop : Prop :=
  (∀ (s : State) (p : LinePort) (f : Frame), s.inReset = false → f.payload.length ≤ 240 →
    ∃ u : State, ∃ onward : Frame → State → State, ∃ taken : Bool → State,
      u = s.setPort p { s.port p with linkUp := true, silenceAt := s.now + 4800000, rx := none }
      ∧ (∀ g v, onward g v = if (s.port p.other).linkUp = true ∧ (s.port p.other).forward.length < 2
          then v.setPort p.other { s.port p.other with forward := (s.port p.other).forward ++ [g] } else v)
      ∧ (∀ b, taken b = if (s.port p).requests.length < 2
          then u.setPort p { u.port p with requests := (s.port p).requests ++ [⟨b, f.kind, f.payload⟩] } else u)
      ∧ (128 ≤ f.kind.toNat → exec (.lineFrameReceived p (f.wire true)) s = .next (onward f u))
      ∧ (f.kind.toNat < 128 → f.hop.toNat = 255 → exec (.lineFrameReceived p (f.wire true)) s = .next (onward f (taken true)))
      ∧ (f.kind.toNat < 128 → f.hop.toNat = 1 → exec (.lineFrameReceived p (f.wire true)) s = .next (taken false))
      ∧ (f.kind.toNat < 128 → f.hop.toNat = 0 → exec (.lineFrameReceived p (f.wire true)) s = .next u)
      ∧ (f.kind.toNat < 128 → 2 ≤ f.hop.toNat → f.hop.toNat ≤ 254 → exec (.lineFrameReceived p (f.wire true)) s
          = .next (onward { f with hop := BitVec.ofNat 8 (f.hop.toNat - 1) } u)))
  ∧ ∀ (s : State) (f : Frame), s.inReset = false → f.payload.length ≤ 240 → f.hop = 0 →
    ∃ u, u = { s with crew := { s.crew with rx := none } }
      ∧ (128 ≤ f.kind.toNat → exec (.crewFrameReceived (f.wire false)) s = .next u)
      ∧ (f.kind.toNat < 128 → exec (.crewFrameReceived (f.wire false)) s = .next (if s.crew.requests.length < 2
          then { u with crew := { u.crew with requests := s.crew.requests ++ [⟨false, f.kind, f.payload⟩] } } else u))

/-- R176, R177: a valid character takes the link UP and starts 200 ms of silence; outside a frame it is ignored unless it is the delimiter,
which begins a frame, also where an escape is open (the model's choice, log entry 24). A character that is not valid discards the frame
being received and does nothing else. LINK UP is the valid character that finds the link DOWN. R35, R179, R180: a link that goes DOWN drops
the frame being received and the forward and response traffic out of the port, and keeps the request buffer, the frame being sent and the
report queue; with it goes the lead that its port holds. The clock then stands at the end of the silence, or later (log entry 3). -/
def Obligations.CharactersHoldTheLink : Prop :=
  (∀ (s : State) (p : LinePort) (c : Byte), s.inReset = false →
    (∃ t, exec (.validCharacter p c) s = .next t ∧ (t.port p).linkUp = true ∧ (t.port p).silenceAt = s.now + 4800000
      ∧ t.coach = s.coach ∧ t.consist = s.consist ∧ t.crew = s.crew ∧ t.params = s.params ∧ t.now = s.now)
    ∧ (c = 0x7E#8 → exec (.validCharacter p c) s
        = .next (s.setPort p { s.port p with linkUp := true, silenceAt := s.now + 4800000, rx := some {} }))
    ∧ (c ≠ 0x7E#8 → (s.port p).rx = none → exec (.validCharacter p c) s
        = .next (s.setPort p { s.port p with linkUp := true, silenceAt := s.now + 4800000 }))
    ∧ ((s.port p).linkUp = false → exec (.linkUp p c) s = exec (.validCharacter p c) s
        ∧ ∃ t, exec (.linkUp p c) s = .next t ∧ (t.port p).linkUp = true)
    ∧ exec (.invalidCharacter (.line p)) s = .next (s.setPort p { s.port p with rx := none })
    ∧ exec (.invalidCharacter .crew) s = .next { s with crew := { s.crew with rx := none } })
  ∧ ∀ (s : State) (p : LinePort), s.inReset = false → (s.port p).linkUp = true →
    ∃ u, u = ({ s with now := max s.now (s.port p).silenceAt } : State).setPort p
        { s.port p with linkUp := false, rx := none, forward := [], responses := [] }
      ∧ (s.consist.lead ≠ some p → exec (.linkDown p) s = .next u)
      ∧ (s.consist.lead = some p → exec (.linkDown p) s = .next { u with
          consist := { s.consist with lead := none, lease := none, stagingOwner := none }
          coach := { s.coach with
            journey := { s.coach.journey with staging := [] }
            reportsA := { s.coach.reportsA with flags := { s.coach.reportsA.flags with leadLost := true } }
            reportsB := { s.coach.reportsB with flags := { s.coach.reportsB.flags with leadLost := true } } } })

/-- R176, R177, R180, R182: a free transmitter begins the oldest frame of the one buffer that holds any, or with both holding one, of the
buffer it did not send from last; the frame leaves its buffer then, and takes ten bit times a character. A busy transmitter begins nothing.
At the end of a frame the transmitter is free, and the last character sent is the last of the frame on the wire; an idle character, 0x55, is
sent only when no frame is waiting or being sent, 20 ms after the last character ended, and it takes ten bit times and is then the last
character sent. The model's choices here: the clock at the end of a frame and at an idle character (log entry 3), an idle character that
does not hold the transmitter (log entry 30), the length of a crew frame (log entry 34), the last character sent as state (log entry 48). -/
def Obligations.TransmitterSendsAndIdles : Prop :=
  (∀ (s : State) (p : LinePort) (x : PortState), s.inReset = false → x = s.port p →
    (x.sending.isSome = true → exec (.frameSendStart (.line p)) s = .next s)
    ∧ (x.forward = [] → x.responses = [] → exec (.frameSendStart (.line p)) s = .next s)
    ∧ (∀ f fs, x.sending = none → x.forward = f :: fs → x.responses = [] ∨ x.lastForward = false →
        exec (.frameSendStart (.line p)) s = .next (s.setPort p { x with
          forward := fs, lastForward := true, sending := some ⟨f, s.now + (1 + (f.wire true).length) * 240⟩ }))
    ∧ (∀ f fs, x.sending = none → x.responses = f :: fs → x.forward = [] ∨ x.lastForward = true →
        exec (.frameSendStart (.line p)) s = .next (s.setPort p { x with
          responses := fs, lastForward := false, sending := some ⟨f, s.now + (1 + (f.wire true).length) * 240⟩ }))
    ∧ (∀ y, x.sending = some y → exec (.frameSendEnd (.line p)) s
      = .next (({ s with now := max s.now y.endsAt } : State).setPort p
          { x with sending := none, lastEnd := y.endsAt, lastSent := (y.frame.wire true).getLast? }))
    ∧ (x.forward = [] → x.responses = [] → x.sending = none →
        exec (.idleCharacter p) s = .next (({ s with now := max s.now (x.lastEnd + 480000) } : State).setPort p
          { x with lastEnd := max s.now (x.lastEnd + 480000) + 240, lastSent := some 0x55#8 }))
    ∧ (x.forward ≠ [] ∨ x.responses ≠ [] ∨ x.sending ≠ none → exec (.idleCharacter p) s = .next s))
  ∧ ∀ s : State, s.inReset = false →
    (∀ f fs, s.crew.sending = none → s.crew.responses = f :: fs →
      ∃ t, t = { s with crew := { s.crew with
          responses := fs, sending := some ⟨f, s.now + ((1 + (f.wire false).length) * 10 * 24000000 + 57599) / 57600⟩ } }
        ∧ exec (.frameSendStart .crew) s = .next t)
    ∧ ∀ x, s.crew.sending = some x → exec (.frameSendEnd .crew) s
      = .next { s with now := max s.now x.endsAt, crew := { s.crew with sending := none } }

/-! ## Requests (chapters 2 and 10) -/

/-- R181: a broadcast of SET CLOCK, SET TEXT or POST NOTICE has the effect that the same request of its port would have on the coach side,
with no response and without touching the lease, also while the response buffer of the port is full; a broadcast of any other kind, or one
that does not fit its layout, has no effect. -/
def Obligations.BroadcastTakenAsRequestWithoutAnswer : Prop :=
  ∀ (s : State) (p : LinePort) (kind : Byte) (payload : List Byte), s.inReset = false →
    (∀ i, decodeRequest (.line p) kind payload = .cmd i → kind.toNat ∈ [21, 23, 24] → s.hasPlace (.line p) = true →
      ∃ t, exec i s = .next t ∧ exec (.broadcastTaken p kind payload) s = .next { s with coach := t.coach })
    ∧ (∀ i, decodeRequest (.line p) kind payload = .cmd i → kind.toNat ∈ [21, 23, 24] →
      ∃ t, exec i (s.setPort p { s.port p with responses := [] }) = .next t
        ∧ exec (.broadcastTaken p kind payload) s = .next { s with coach := t.coach })
    ∧ (kind.toNat ∉ [21, 23, 24] → exec (.broadcastTaken p kind payload) s = .next s)
    ∧ ((∀ i, decodeRequest (.line p) kind payload ≠ .cmd i) → exec (.broadcastTaken p kind payload) s = .next s)

/-- R29, R37, R181 to R183: a kind that is no request kind is refused BAD_KIND on every port, the lead port's lease being restarted all the
same; a request marked lead, KEEP LEAD or YIELD LEAD from a line port that is not lead is refused NOT_LEAD before any other check; a kind
outside the crew subset is refused NOT_PERMITTED on the crew port. The answers of the lead requests and SET CONSIST carry the consist
record (R27, log entry 10). Nothing else changes. -/
def Obligations.RequestsRefusedForTheirPortOrKind : Prop :=
  (∀ (s : State) (p : Port) (kind : Byte), s.takes p → kind.toNat = 0 ∨ (31 ≤ kind.toNat ∧ kind.toNat ≤ 127) →
    exec (.badKindRequest p kind) s = .next (State.answer p kind.toNat .badKind [] (s.renew p)))
  ∧ (∀ (i : Instr) (q : LinePort) (k : Nat) (s : State), requestOf i = some (.line q, k) → k ∈ leadKinds → s.takes (.line q) →
    s.consist.lead ≠ some q →
    exec i s = .next (State.answer (.line q) k .notLead (if k ≤ 4 then s.consistChars else []) s))
  ∧ ∀ (i : Instr) (k : Nat) (s : State), requestOf i = some (.crew, k) → k ∉ [16, 17, 18, 19, 21, 22, 26] → s.takes .crew →
    exec i s = .next (State.answer .crew k .notPermitted (if k ≤ 4 then s.consistChars else []) s)

/-! ## The lead (chapter 2) -/

/-- R30: the judgement of a claim. R31: a grant sets lead, unit id and generation and starts the lease; one that is no renewal also sets
LEAD_CHANGED on its port, and on the other port too if that held the lead, and discards the staging list. -/
def Obligations.ClaimIsJudgedAndGranted : Prop :=
  (∀ (s : State) (p : LinePort) (g u : Nat), s.takes (.line p) →
    ∃ r, r = s.renew (.line p)
      ∧ ((s.port p).linkUp = false → exec (.claimLead (.line p) g u) s
          = .next (State.answer (.line p) 1 .notPermitted r.consistChars r))
      ∧ ((s.port p).linkUp = true → g < s.consist.generation → exec (.claimLead (.line p) g u) s
          = .next (State.answer (.line p) 1 .staleGeneration r.consistChars r))
      ∧ ((s.port p).linkUp = true → g = s.consist.generation → s.consist.lead = some p.other → exec (.claimLead (.line p) g u) s
          = .next (State.answer (.line p) 1 .leadHeld r.consistChars r)))
  ∧ ∀ (s : State) (p : LinePort) (g u : Nat), s.takes (.line p) → (s.port p).linkUp = true →
    s.consist.generation < g ∨ (g = s.consist.generation ∧ s.consist.lead ≠ some p.other) →
    ∃ k x, k = { s.consist with generation := g, lead := some p, leadUnit := u, lease := some (s.now + s.params.leadLease * 24000) }
      ∧ exec (.claimLead (.line p) g u) s = .next (State.answer (.line p) 1 .accepted x.consistChars x)
      ∧ (s.consist.lead = some p → g = s.consist.generation → u = s.consist.leadUnit → x = { s with consist := k })
      ∧ (¬ (s.consist.lead = some p ∧ g = s.consist.generation ∧ u = s.consist.leadUnit) → x = { s with
          consist := { k with stagingOwner := none }
          coach := { s.coach with
            journey := { s.coach.journey with staging := [] }
            reportsA := if p = .a ∨ s.consist.lead = some .a
              then { s.coach.reportsA with flags := { s.coach.reportsA.flags with leadChanged := true } } else s.coach.reportsA
            reportsB := if p = .b ∨ s.consist.lead = some .b
              then { s.coach.reportsB with flags := { s.coach.reportsB.flags with leadChanged := true } } else s.coach.reportsB } })

/-- R32, R36: KEEP LEAD of the lead port restarts the lease and does nothing else; YIELD LEAD gives up the lead, sets LEAD_LOST on the other
line port and discards the staging list. From a line port that is not lead each is refused NOT_LEAD. -/
def Obligations.KeepLeadAndYieldLead : Prop :=
  ∀ (s : State) (q : LinePort), s.takes (.line q) →
    (s.consist.lead = some q → ∃ x, x = { s with consist := { s.consist with lease := some (s.now + s.params.leadLease * 24000) } }
      ∧ exec (.keepLead (.line q)) s = .next (State.answer (.line q) 2 .accepted x.consistChars x))
    ∧ (s.consist.lead ≠ some q → exec (.keepLead (.line q)) s = .next (State.answer (.line q) 2 .notLead s.consistChars s))
    ∧ (s.consist.lead = some q → ∃ x, x = { s with
          consist := { s.consist with lead := none, lease := none, stagingOwner := none }
          coach := { s.coach with
            journey := { s.coach.journey with staging := [] }
            reportsA := if q = .b
              then { s.coach.reportsA with flags := { s.coach.reportsA.flags with leadLost := true } } else s.coach.reportsA
            reportsB := if q = .a
              then { s.coach.reportsB with flags := { s.coach.reportsB.flags with leadLost := true } } else s.coach.reportsB } }
      ∧ exec (.yieldLead (.line q)) s = .next (State.answer (.line q) 3 .accepted x.consistChars x))
    ∧ (s.consist.lead ≠ some q → exec (.yieldLead (.line q)) s = .next (State.answer (.line q) 3 .notLead s.consistChars s))

/-- R33: every directed request of the lead port but YIELD LEAD leaves it lead with a whole lease, whatever the response; the lease is that
of the LEAD_LEASE in force when the request is taken, a CONFIGURE of LEAD_LEASE included (log entry 9). A request of another port but a
CLAIM LEAD leaves lead and lease as they were. R34: at lease expiry the lead becomes NONE, LEAD_LOST is set on both ports and the staging
list is discarded; generation, coach number, portion and unit id are kept; the clock stands at the end of the lease, or later (log entry 3).
A claim of the current generation that comes next from a port whose link is UP, under any unit id, is granted as a lead change. -/
def Obligations.RequestsOfTheLeadRestartTheLease : Prop :=
  (∀ (i : Instr) (p : Port) (k : Nat) (s : State), requestOf i = some (p, k) → s.takes p →
    (∀ q, p = .line q → s.consist.lead = some q → k ≠ 3 → ∃ t, exec i s = .next t
      ∧ t.consist.lead = some q ∧ t.consist.lease = some (s.now + s.params.leadLease * 24000))
    ∧ (s.isLead p = false → k ≠ 1 → ∃ t, exec i s = .next t ∧ t.consist.lease = s.consist.lease ∧ t.consist.lead = s.consist.lead))
  ∧ ∀ (s : State) (q : LinePort) (d : Nat), s.inReset = false → s.consist.lead = some q → s.consist.lease = some d →
    ∃ t, t = { s with
        now := max s.now d
        consist := { s.consist with lead := none, lease := none, stagingOwner := none }
        coach := { s.coach with
          journey := { s.coach.journey with staging := [] }
          reportsA := { s.coach.reportsA with flags := { s.coach.reportsA.flags with leadLost := true } }
          reportsB := { s.coach.reportsB with flags := { s.coach.reportsB.flags with leadLost := true } } } }
      ∧ exec .leaseExpiry s = .next t
      ∧ ∀ (p : LinePort) (u : Nat), s.hasPlace (.line p) = true → (s.port p).linkUp = true →
        ∃ v, exec (.claimLead (.line p) s.consist.generation u) t = .next v
          ∧ v.consist = { t.consist with lead := some p, leadUnit := u, lease := some (t.now + s.params.leadLease * 24000) }
          ∧ (v.coach.reports p).flags.leadChanged = true ∧ v.coach.reports p.other = t.coach.reports p.other

/-- R39: the checks of SET CONSIST in order, and what an accepted one writes. R40: a coach number and portion left as they were hand nothing
on; a new coach number is taken by the notice unit as one change; in the EMPTY phase a new portion is written and handed to no block; in
another phase the calling-set recalculation of R14 is run for the new portion, the change is handed to the reservation unit, the notice unit
and the map unit, in that order, and progress is evaluated. -/
def Obligations.SetConsistIsJudgedAndWritten : Prop :=
  ∀ (s : State) (q : LinePort) (n p g : Nat), s.leads q → ∃ short absent st x,
    short = (callCount s.coach.journey.list (Fin.ofNat 4 p) < 2)
    ∧ absent = (∃ i r, s.coach.journey.atStop = some i ∧ s.coach.journey.list[i]? = some r ∧ r.mask.getLsbD p = false)
    ∧ exec (.setConsist (.line q) n p g) s = .next (State.answer (.line q) 4 st x.consistChars x)
    ∧ (g ≠ s.consist.generation → st = .staleGeneration)
    ∧ (g = s.consist.generation → 32 < n ∨ 3 < p → st = .badField)
    ∧ (g = s.consist.generation → n ≤ 32 → p ≤ 3 → s.coach.journey.phase ≠ .empty → p ≠ s.consist.portion.val →
        short ∨ absent → st = .badField)
    ∧ (g = s.consist.generation → n ≤ 32 → p ≤ 3 →
        s.coach.journey.phase = .empty ∨ p = s.consist.portion.val ∨ (¬ short ∧ ¬ absent) → st = .accepted)
    ∧ (st ≠ .accepted → x = s.renewed)
    ∧ (st = .accepted → SameOutside s x ∧ x.consist = { s.renewed.consist with coachNumber := n, portion := Fin.ofNat 4 p }
        ∧ x.coach.position = s.coach.position ∧ x.coach.axle = s.coach.axle)
    ∧ (st = .accepted → n = s.consist.coachNumber → p = s.consist.portion.val → x.coach = s.coach)
    ∧ (st = .accepted → s.coach.journey.phase = .empty ∨ p = s.consist.portion.val →
        x.coach.journey = s.coach.journey ∧ x.coach.map = s.coach.map ∧ x.coach.reportsA = s.coach.reportsA
          ∧ x.coach.reportsB = s.coach.reportsB)
    ∧ (st = .accepted → ∃ c0 : Coach, (n = s.consist.coachNumber → c0 = s.coach)
        ∧ (n ≠ s.consist.coachNumber → c0 = s.coach.notice { x.env with portion := s.consist.portion } .other)
        ∧ (s.coach.journey.phase = .empty ∨ p = s.consist.portion.val → x.coach = c0)
        ∧ (s.coach.journey.phase ≠ .empty → p ≠ s.consist.portion.val → ∃ c1 c : Coach,
          c1 = { c0 with journey := recalculate (Fin.ofNat 4 p) s.coach.journey }
          ∧ c = ((c1.reserveAmend x.env).notice x.env .amendment).mapWindow x.env
          ∧ c.journey = recalculate (Fin.ofNat 4 p) s.coach.journey ∧ c.position = s.coach.position ∧ c.axle = s.coach.axle
          ∧ x.coach = c.evaluate x.env))

/-! ## The journey record (chapter 1) -/

/-- R24: SET ORIENTATION of the lead takes any of the three values in any phase and refuses any other value BAD_FIELD. Nothing of position,
axle, seats' bookings, the stop list or the map's tables changes with it. R158: the notice unit takes the change, and so the door-side outputs
and the page. -/
def Obligations.SetOrientationTakesThreeValues : Prop :=
  ∀ (s : State) (q : LinePort) (v : Nat), s.leads q →
    (3 ≤ v → exec (.setOrientation (.line q) v) s = .next (State.answer (.line q) 5 .badField [] s.renewed))
    ∧ (∀ o, (v = 0 ∧ o = Orientation.aForward) ∨ (v = 1 ∧ o = .bForward) ∨ (v = 2 ∧ o = .unset) → ∃ x,
        exec (.setOrientation (.line q) v) s = .next (State.answer (.line q) 5 .accepted [] x)
        ∧ SameOutside s x ∧ x.consist = s.renewed.consist ∧ x.coach.journey = { s.coach.journey with orientation := o }
        ∧ x.coach = Coach.notice s.env .other { s.coach with journey := { s.coach.journey with orientation := o } }
        ∧ x.coach.position = s.coach.position ∧ x.coach.axle = s.coach.axle ∧ x.coach.map = s.coach.map
        ∧ x.coach.sensors = s.coach.sensors ∧ x.coach.reportsA = s.coach.reportsA ∧ x.coach.reportsB = s.coach.reportsB
        ∧ x.coach.seats.map Seat.bare = s.coach.seats.map Seat.bare)

/-- R7. -/
def Obligations.BeginLoadStartsAStagingList : Prop :=
  ∀ (s : State) (q : LinePort) (n : Nat), s.takes (.line q) →
    (s.consist.lead ≠ some q → exec (.beginLoad (.line q) n) s = .next (State.answer (.line q) 8 .notLead [] s))
    ∧ (s.consist.lead = some q → n = 0 ∨ 64 < n →
        exec (.beginLoad (.line q) n) s = .next (State.answer (.line q) 8 .badField [] s.renewed))
    ∧ (s.consist.lead = some q → 1 ≤ n → n ≤ 64 → exec (.beginLoad (.line q) n) s = .next (State.answer (.line q) 8 .accepted [] { s.renewed with
        consist := { s.renewed.consist with stagingOwner := some q }
        coach := { s.coach with journey := { s.coach.journey with staging := List.replicate n none } } }))

/-- R8: the checks of STOP RECORDS in order; an accepted one writes its records to the indices from the first on and no other index. R9: END
LOAD without a staging list of the port is refused NO_LOAD; a list that fails a check is refused BAD_LIST with the index of the first check
that fails, and the staging list is kept: an unwritten index, a code that a lower index has, a position not above that of the index before,
fewer than two calling records, a flag that breaks a placement rule of R3, each the lowest, and each judged on a list that passes the checks
before it. A list through which progress cannot be remapped is refused PROGRESS_MISMATCH. -/
def Obligations.StopRecordsAreWrittenToStaging : Prop :=
  (∀ (s : State) (q : LinePort) (first : Nat) (rs : List StopWire), s.leads q →
    (s.consist.stagingOwner ≠ some q →
      exec (.stopRecords (.line q) first rs) s = .next (State.answer (.line q) 9 .noLoad [] s.renewed))
    ∧ (s.consist.stagingOwner = some q →
        rs = [] ∨ 12 < rs.length ∨ s.coach.journey.staging.length < first + rs.length ∨ (∃ r ∈ rs, StopWire.ok r = false) →
        exec (.stopRecords (.line q) first rs) s = .next (State.answer (.line q) 9 .badField [] s.renewed))
    ∧ (s.consist.stagingOwner = some q → rs ≠ [] → rs.length ≤ 12 → first + rs.length ≤ s.coach.journey.staging.length →
        (∀ r ∈ rs, StopWire.ok r = true) → ∃ g,
          exec (.stopRecords (.line q) first rs) s = .next (State.answer (.line q) 9 .accepted [] { s.renewed with
            coach := { s.coach with journey := { s.coach.journey with staging := g } } })
          ∧ g.length = s.coach.journey.staging.length
          ∧ ∀ i, g[i]? = if i < first ∨ first + rs.length ≤ i then s.coach.journey.staging[i]?
              else (rs[i - first]?).map fun r => some (StopWire.record r)))
  ∧ ∀ (s : State) (q : LinePort), s.leads q → ∃ g list, ∃ whole single rising : Prop, ∃ placed : Nat → StopRec → Prop,
    g = s.coach.journey.staging ∧ list = g.filterMap id
    ∧ whole = (s.consist.stagingOwner = some q ∧ none ∉ g) ∧ single = (list.map StopRec.code).Nodup
    ∧ rising = list.Pairwise (fun a b => a.position < b.position)
    ∧ (∀ i r, placed i r = ((r.reverse = true → r.calling = true ∧ i ≠ 0 ∧ i + 1 ≠ list.length)
        ∧ (r.split = true → r.calling = true ∧ i + 1 ≠ list.length) ∧ (r.join = true → r.calling = true ∧ i ≠ 0)))
    ∧ (∀ i r r', whole → single → list[i]? = some r → list[i + 1]? = some r' → r'.position ≤ r.position →
        (list.take (i + 1)).Pairwise (fun a b => a.position < b.position) →
        exec (.endLoad (.line q)) s = .next (State.answer (.line q) 10 .badList [BitVec.ofNat 8 (i + 1)] s.renewed))
    ∧ (whole → single → rising → callCount list s.consist.portion < 2 → ∃ k,
        exec (.endLoad (.line q)) s = .next (State.answer (.line q) 10 .badList [BitVec.ofNat 8 k] s.renewed)
        ∧ (∀ (i : Nat) r, list[i]? = some r → r.callsAt s.consist.portion = true → k = i)
        ∧ ((∀ r ∈ list, r.callsAt s.consist.portion = false) → k = 0))
    ∧ (∀ i r, whole → single → rising → 2 ≤ callCount list s.consist.portion → list[i]? = some r → ¬ placed i r →
        (∀ (k : Nat) y, k < i → list[k]? = some y → placed k y) →
        exec (.endLoad (.line q)) s = .next (State.answer (.line q) 10 .badList [BitVec.ofNat 8 i] s.renewed))
    ∧ (whole → single → rising → 2 ≤ callCount list s.consist.portion → (∀ (i : Nat) r, list[i]? = some r → placed i r) →
        badListIndex s.consist.portion g = none)
    ∧ (s.consist.stagingOwner ≠ some q → exec (.endLoad (.line q)) s = .next (State.answer (.line q) 10 .noLoad [] s.renewed))
    ∧ (∀ i, s.consist.stagingOwner = some q → g[i]? = some none → none ∉ g.take i →
        exec (.endLoad (.line q)) s = .next (State.answer (.line q) 10 .badList [BitVec.ofNat 8 i] s.renewed))
    ∧ (∀ i r k r', s.consist.stagingOwner = some q → none ∉ g → g[i]? = some (some r) → k < i →
        g[k]? = some (some r') → r'.code = r.code →
        ((list.take i).map StopRec.code).Nodup →
        exec (.endLoad (.line q)) s = .next (State.answer (.line q) 10 .badList [BitVec.ofNat 8 i] s.renewed))
    ∧ (s.consist.stagingOwner = some q → ∀ i, badListIndex s.consist.portion g = some i →
        exec (.endLoad (.line q)) s = .next (State.answer (.line q) 10 .badList [BitVec.ofNat 8 i] s.renewed))
    ∧ (s.consist.stagingOwner = some q → badListIndex s.consist.portion g = none →
        (s.coach.journey.phase = .staged ∨ s.coach.journey.phase = .inService) → remapPoint s.consist.portion list s.coach.journey = none →
        exec (.endLoad (.line q)) s = .next (State.answer (.line q) 10 .progressMismatch [] s.renewed))

/-- R9, R10, R12: END LOAD of a list that passes every check and can be committed: the response is ACCEPTED, the staging list is discarded,
the name blocks of the list are stale on every line, the commit is handed to the reservation unit, the notice unit and the map unit, and the
coach is that of the commit after one progress evaluation. From the EMPTY or
TERMINATED phase the commit starts a new journey: every status AHEAD, the phase STAGED, progress at the lowest calling index. A coach that
moves and has passed no stop of the list keeps that journey; a coach at standstill within the platform window of the lowest calling stop
arrives there at once. -/
def Obligations.EndLoadStartsANewJourney : Prop :=
  ∀ (s : State) (q : LinePort) (list : List StopRec) (k : Journey), s.leads q → s.consist.stagingOwner = some q →
    badListIndex s.consist.portion s.coach.journey.staging = none → list = s.coach.journey.staging.filterMap id →
    commitOf s.env list s.coach.journey = some k → ∃ x, ∃ c : Coach,
      exec (.endLoad (.line q)) s = .next (State.answer (.line q) 10 .accepted [] x)
      ∧ SameOutside s x ∧ x.consist = { s.renewed.consist with stagingOwner := none }
      ∧ x.coach.position = s.coach.position ∧ x.coach.axle = s.coach.axle ∧ x.coach.sensors = s.coach.sensors
      ∧ (∀ i, (x.coach.lines.get i).stale = (s.coach.lines.get i).stale ||| BitVec.ofNat 16 (2 ^ ((list.length - 1) / 4 + 1) - 1))
      ∧ c.journey = k ∧ c.position = s.coach.position ∧ x.coach.journey = { (c.evaluate s.env).journey with staging := [] }
      ∧ (∃ fresh : Bool, ∃ c0 : Coach, (fresh = true ↔ s.coach.journey.phase = .empty ∨ s.coach.journey.phase = .terminated)
        ∧ c0 = { s.coach with journey := k, lines := c0.lines }
        ∧ (∀ i, c0.lines.get i = { s.coach.lines.get i with
            stale := (s.coach.lines.get i).stale ||| BitVec.ofNat 16 (2 ^ ((list.length - 1) / 4 + 1) - 1) })
        ∧ c = ((c0.reserveCommit s.env s.coach.journey.list).notice s.env (.commit fresh)).mapWindow s.env
        ∧ x.coach = { c.evaluate s.env with journey := { (c.evaluate s.env).journey with staging := [] } })
      ∧ (s.coach.journey.phase = .empty ∨ s.coach.journey.phase = .terminated →
          k = ⟨.staged, list.map StopRec.asLoaded, s.coach.journey.staging, none, none, nextCall list s.consist.portion 0, none,
            s.coach.journey.orientation⟩
          ∧ (s.coach.position.motion ≠ .standstill →
              (∀ r ∈ list, s.coach.position.estimate ≤ (r.position + s.params.platformWin) * 65536000) →
              x.coach.journey = { k with staging := [] })
          ∧ (∀ i r, s.coach.position.motion = .standstill → nextCall list s.consist.portion 0 = some i → list[i]? = some r →
              r.position * 65536000 ≤ s.coach.position.estimate + s.params.platformWin * 65536000 →
              s.coach.position.estimate ≤ (r.position + s.params.platformWin) * 65536000 →
              x.coach.journey.phase = .staged ∧ x.coach.journey.atStop = some i ∧ x.coach.journey.nextCalling = some i
                ∧ x.coach.journey.lastDeparted = none ∧ x.coach.journey.departurePoint = some (r.position + s.params.platformWin)
                ∧ x.coach.journey.list[i]? = some { r with status := .current }
                ∧ x.coach.journey.orientation = (if r.reverse then
                    (if s.coach.journey.orientation = .bForward then .aForward else .bForward) else s.coach.journey.orientation)))

/-- R11: last departed and at stop are remapped through their codes: at stop is kept where its code is in the new list, its new record is
calling for this coach and it is above last departed; the remap fails where the code of last departed is gone, or where no stop is kept and
no record after last departed is calling. When the remap of a commit succeeds, the remapped last departed record keeps DEPARTED or
RUN_THROUGH, records before it take DEPARTED or PASSED, the records between it and a kept at-stop record RUN_THROUGH or PASSED, the at-stop
record CURRENT, every other AHEAD. Last departed becomes the highest calling record that a kept at-stop record skips, if there is one; the
phase is TERMINATED where no calling record follows a kept at-stop record, else IN_SERVICE or STAGED by last departed; next calling is the
kept stop or the lowest calling index above last departed, and the departure point follows. -/
def Obligations.CommitRemapsProgress : Prop :=
  (∀ (portion : Fin 4) (list : List StopRec) (j : Journey), ∃ last at' kept : Option Nat, ∃ gone stranded : Prop,
    last = (codeAt j.list j.lastDeparted).bind (findCode list) ∧ at' = (codeAt j.list j.atStop).bind (findCode list)
    ∧ (∀ a, kept = some a ↔ at' = some a ∧ (∃ r, list[a]? = some r ∧ r.callsAt portion = true) ∧ ∀ l, last = some l → l < a)
    ∧ gone = (codeAt j.list j.lastDeparted ≠ none ∧ last = none)
    ∧ stranded = (kept = none ∧ ∀ (i : Nat) r, list[i]? = some r → (∀ l, last = some l → l < i) → r.callsAt portion = false)
    ∧ (gone ∨ stranded → remapPoint portion list j = none) ∧ (¬ gone → ¬ stranded → remapPoint portion list j = some (last, kept)))
  ∧ ∀ (e : Env) (list : List StopRec) (j : Journey) (last at' : Option Nat), remapPoint e.portion list j = some (last, at') →
    ∃ k, k = remapped e list last at' j ∧ commitOf e list j = (if j.phase = .staged ∨ j.phase = .inService then some k
        else some (newJourney e.portion list j))
      ∧ k.atStop = at' ∧ k.orientation = j.orientation ∧ k.list.length = list.length
      ∧ (∀ i r, list[i]? = some r → ∃ st, k.list[i]? = some { r with status := st }
          ∧ (last = some i → st = oldStatus j)
          ∧ (∀ l, last = some l → i < l → st = if r.callsAt e.portion then .departed else .passed)
          ∧ (at' = some i → st = .current)
          ∧ (∀ a, at' = some a → i < a → (∀ l, last = some l → l < i) → st = if r.callsAt e.portion then .runThrough else .passed)
          ∧ ((∀ l, last = some l → l < i) → (∀ a, at' = some a → a < i) → st = .ahead))
      ∧ (∀ a, at' = some a → k.nextCalling = some a ∧ ∃ r, list[a]? = some r ∧ r.callsAt e.portion = true
          ∧ k.departurePoint = some (max (j.departurePoint.getD 0) (r.position + e.params.platformWin)))
      ∧ (at' = none → k.departurePoint = none ∧ k.lastDeparted = last ∧ ∃ n r, k.nextCalling = some n ∧ list[n]? = some r
          ∧ r.callsAt e.portion = true ∧ (∀ l, last = some l → l < n)
          ∧ ∀ (m : Nat) y, m < n → (∀ l, last = some l → l < m) → list[m]? = some y → y.callsAt e.portion = false)
      ∧ (∀ a i r, at' = some a → i < a → list[i]? = some r → r.callsAt e.portion = true → (∀ l, last = some l → l < i) →
          (∀ n y, i < n → n < a → list[n]? = some y → y.callsAt e.portion = false) → k.lastDeparted = some i)
      ∧ (∀ a, at' = some a → (∀ i r, i < a → list[i]? = some r → r.callsAt e.portion = true → ∃ l, last = some l ∧ i ≤ l) →
          k.lastDeparted = last)
      ∧ (∀ a, at' = some a → (∀ n y, a < n → list[n]? = some y → y.callsAt e.portion = false) → k.phase = .terminated)
      ∧ ((∀ a, at' = some a → ∃ n y, a < n ∧ list[n]? = some y ∧ y.callsAt e.portion = true) →
          k.phase = if k.lastDeparted.isSome then .inService else .staged)

/-- R14: the calling-set recalculation keeps every status, at stop and last departed. Next calling is the at-stop index, or with none the
lowest AHEAD record that is calling for this coach, sought from index 0 (log entry 38); with a stop set, a record below it
that has become calling stays AHEAD (log entry 44). The phase becomes TERMINATED where no calling record follows the at-stop record, and
where with no stop there is no next calling in a running journey. -/
def Obligations.CallingSetIsRecalculated : Prop :=
  ∀ (portion : Fin 4) (j : Journey), ∃ k, k = recalculate portion j ∧ k = { j with nextCalling := k.nextCalling, phase := k.phase }
    ∧ (∀ i, j.atStop = some i → k.nextCalling = some i
        ∧ ((∀ m r, i < m → j.list[m]? = some r → r.callsAt portion = false) → k.phase = .terminated)
        ∧ ((∃ m r, i < m ∧ j.list[m]? = some r ∧ r.callsAt portion = true) → k.phase = j.phase))
    ∧ (∀ i r, j.atStop = none → j.list[i]? = some r → r.status = .ahead → r.callsAt portion = true →
        (∀ m y, m < i → j.list[m]? = some y → y.status = .ahead → y.callsAt portion = false) → k.nextCalling = some i ∧ k.phase = j.phase)
    ∧ (j.atStop = none → (∀ r ∈ j.list, r.status = .ahead → r.callsAt portion = false) → k.nextCalling = none
        ∧ (j.phase = .staged ∨ j.phase = .inService → k.phase = .terminated)
        ∧ (j.phase = .empty ∨ j.phase = .terminated → k.phase = j.phase))

/-- R13: AMEND STOP is judged in order: the phase, the stop, the values, the status of the record, and the rules for a stop that is called
off. An accepted one writes the fields it carries and no others; the calling-set recalculation of R14 is run if calling has changed, the
change is handed to the reservation unit, the notice unit and the map unit, in that order, and progress is evaluated. -/
def Obligations.AmendStopIsJudgedAndWritten : Prop :=
  ∀ (s : State) (q : LinePort) (a : AmendReq), s.leads q →
    (s.coach.journey.phase = .empty → exec (.amendStop (.line q) a) s = .next (State.answer (.line q) 11 .wrongPhase [] s.renewed))
    ∧ (s.coach.journey.phase ≠ .empty → (∀ r ∈ s.coach.journey.list, r.code ≠ a.code) →
        exec (.amendStop (.line q) a) s = .next (State.answer (.line q) 11 .unknownStop [] s.renewed))
    ∧ ∀ i r, s.coach.journey.phase ≠ .empty → findCode s.coach.journey.list a.code = some i → s.coach.journey.list[i]? = some r →
        ∃ off broken w list,
        off = (r.calling = true ∧ a.calling = 0)
        ∧ (w = { r with calling := a.calling == 1, side := w.side, platform := w.platform, arrival := w.arrival, departure := w.departure }
            ∧ (a.side = .unchanged → w.side = r.side) ∧ (∀ v y, a.side = .value v → sideOf v = some y → w.side = y)
            ∧ (∀ f old new, (f, old, new) ∈ [(a.platform, r.platform, w.platform), (a.arrival, r.arrival, w.arrival),
                (a.departure, r.departure, w.departure)] →
                (f = .unchanged → new = old) ∧ (∀ v, f = .value v → new = some v) ∧ (f = .absent → new = none)))
        ∧ (∀ m : Nat, list[m]? = if m = i then some w else s.coach.journey.list[m]?)
        ∧ broken = ((off ∧ (r.status = .current ∨ r.reverse = true ∨ r.split = true ∨ r.join = true))
            ∨ (s.coach.journey.atStop = none ∧ ∀ y ∈ list, y.status = .ahead → y.callsAt s.consist.portion = false)
            ∨ (off ∧ ∃ g, s.coach.journey.atStop = some g ∧ ∀ m y, g < m → list[m]? = some y → y.callsAt s.consist.portion = false)
            ∨ callCount list s.consist.portion < 2)
        ∧ (AmendReq.outside a = true → exec (.amendStop (.line q) a) s = .next (State.answer (.line q) 11 .badField [] s.renewed))
        ∧ (AmendReq.outside a = false → r.status = .departed ∨ r.status = .passed ∨ r.status = .runThrough →
            exec (.amendStop (.line q) a) s = .next (State.answer (.line q) 11 .pastStop [] s.renewed))
        ∧ (AmendReq.outside a = false → r.status = .ahead ∨ r.status = .current → broken →
            exec (.amendStop (.line q) a) s = .next (State.answer (.line q) 11 .badField [] s.renewed))
        ∧ (AmendReq.outside a = false → r.status = .ahead ∨ r.status = .current → ¬ broken → ∃ x, ∃ c : Coach,
            exec (.amendStop (.line q) a) s = .next (State.answer (.line q) 11 .accepted [] x)
            ∧ SameOutside s x ∧ x.consist = s.renewed.consist ∧ x.coach.position = s.coach.position ∧ x.coach.axle = s.coach.axle
            ∧ c.journey = (if w.calling = r.calling then { s.coach.journey with list := list }
                else recalculate s.consist.portion { s.coach.journey with list := list })
            ∧ c = ((({ s.coach with journey := c.journey } : Coach).reserveAmend s.env).notice s.env .amendment).mapWindow s.env
            ∧ c.position = s.coach.position ∧ c.axle = s.coach.axle ∧ x.coach = c.evaluate s.env)

/-- R25, R102, R124, R160, R191: the reads change no state but the lease of the lead port, return what stands, and say so when what they name
is not there. Parts 1 and 2 of READ STATUS return two lines each and the flag SEAT_LINE_FAULT. The order of the results and the codes of
their fields are those of log entry 11 (DEDUCED), and the seconds remaining of a notice are rounded up (log entry 41). -/
def Obligations.ReadsChangeNothing : Prop :=
  ∀ (s : State) (p : Port) (n : Nat) (text : Option Nat), s.takes p →
    (∀ q, p = .line q → ∃ st rs, exec (.readStop p n) s = .next (State.answer p 12 st rs (s.renew p))
        ∧ (s.coach.journey.phase = .empty → st = .wrongPhase ∧ rs = [])
        ∧ (s.coach.journey.phase ≠ .empty → s.coach.journey.list.length ≤ n → st = .badField ∧ rs = [])
        ∧ (∀ r, s.coach.journey.phase ≠ .empty → s.coach.journey.list[n]? = some r → st = .accepted
            ∧ rs = s.coach.journey.chars ++ [BitVec.ofNat 8 s.coach.journey.list.length] ++ r.chars))
    ∧ (∃ st rs, exec (.readSeat p n) s = .next (State.answer p 17 st rs (s.renew p))
        ∧ ((∀ x ∈ s.coach.seats, x.number ≠ n) → st = .unknownSeat ∧ rs = [])
        ∧ (∀ x, s.coach.seat n = some x → st = .accepted ∧ rs = s.coach.seatChars x))
    ∧ (∀ q, p = .line q → ∃ st rs, exec (.readNotices p n text) s = .next (State.answer p 25 st rs (s.renew p))
        ∧ (23 < n ∨ (∃ k, text = some k ∧ 31 < k) → st = .badField ∧ rs = [])
        ∧ (n ≤ 23 → (∀ k, text = some k → k ≤ 31) → st = .accepted
            ∧ rs = s.coach.notices.chars (s.now / 24000) n text))
    ∧ (∃ st rs, exec (.readStatus p n) s = .next (State.answer p 26 st rs (s.renew p))
        ∧ (3 < n → st = .badField ∧ rs = []) ∧ (n ≤ 3 → st = .accepted)
        ∧ (n = 0 → ∃ r, r = s.renew p ∧ rs = r.consistChars ++ s.coach.journey.chars ++ s.coach.axleChars ++ s.coach.position.chars
            ++ leBytes 2 (256 - s.coach.attached) ++ s.portChars p)
        ∧ (∀ i k : Fin 4, (n = 1 ∧ i = 0 ∧ k = 1) ∨ (n = 2 ∧ i = 2 ∧ k = 3) →
            rs = (s.coach.lines.get i).statusChars s.now (s.levels.get i) ++ (s.coach.lines.get k).statusChars s.now (s.levels.get k)
              ++ [if s.coach.reportsA.flags.seatLineFault then 1 else 0])
        ∧ (n = 3 → rs = s.coach.map.chars))

/-- R17 to R21: while the journey runs, a coach at standstill within the platform window of next calling arrives there, a coach whose
estimate exceeds the departure point departs, and one whose estimate exceeds next calling by more than the window with no stop runs through
it; each raises its report first, with the stop code and the estimate in metres, and is then handed to the reservation unit, the notice unit
and the map unit, in that order, which may raise reports of their own. The model's choices: after a departure or run-through the lowest
following calling record still AHEAD is next calling, and with none the journey is TERMINATED (log entry 37), no record below the departed
stop being sought (log entry 44); last departed never falls (log entry 38). -/
def Obligations.ProgressIsTakenFromTheEstimate : Prop :=
  ∀ (e : Env) (c : Coach) (i : Nat) (r : StopRec), c.journey.phase = .staged ∨ c.journey.phase = .inService →
    c.journey.list[i]? = some r → ∃ next last : Option Nat, ∃ told : ReportKind → Report,
    ∃ reported : ReportKind → Coach → Prop, ∃ first : Journey → ReportKind → Coach,
    next = nextAhead e.portion c.journey.list (i + 1) ∧ last = some (max i (c.journey.lastDeparted.getD 0))
    ∧ (∀ kind, told kind = ⟨kind, some r.code, none, none, c.position.estimate / 65536000, .none, none⟩)
    ∧ (∀ kind d, reported kind d = ∃ rs : List Report, (c.seats = [] → c.notices.queue = [] → rs = [])
        ∧ ∀ p, d.reports p = (Coach.raiseAll e (told kind :: rs) c).reports p)
    ∧ (∀ j kind, first j kind = ({ c with journey := j } : Coach).raise e (told kind))
    ∧ (∃ d, d = c.arrive e i r (r.position + e.params.platformWin)
      ∧ d.journey = { c.journey with
          list := setStatus c.journey.list i .current, atStop := some i, departurePoint := some (r.position + e.params.platformWin)
          orientation := if r.reverse then (if c.journey.orientation = .bForward then .aForward else .bForward) else c.journey.orientation
          phase := if nextCall c.journey.list e.portion (i + 1) = none then .terminated else c.journey.phase }
      ∧ d.position = c.position ∧ reported .arrived d
      ∧ d = (((first d.journey .arrived).reserveArrival e i).notice e (.arrival r.code)).mapTarget e)
    ∧ (∃ d, d = c.depart e i r
      ∧ d.journey = { c.journey with
          list := setStatus c.journey.list i .departed, lastDeparted := last, atStop := none, departurePoint := none
          nextCalling := next, phase := if next = none then .terminated else .inService }
      ∧ d.position = c.position ∧ reported .departed d
      ∧ d = (((first d.journey .departed).reserveDeparture e r.code).notice e (.departure r.code)).mapWindow e)
    ∧ (∃ d, d = c.runThrough e i r
      ∧ d.journey = { c.journey with
          list := setStatus c.journey.list i .runThrough, lastDeparted := last
          nextCalling := next, phase := if next = none then .terminated else .inService }
      ∧ d.position = c.position ∧ reported .stopPassed d
      ∧ d = (((first d.journey .stopPassed).reserveRunThrough e i r.code).notice e (.runThrough r.code)).mapWindow e)
    ∧ (c.journey.atStop = some i → (∀ p, c.journey.departurePoint = some p → c.position.estimate ≤ p * 65536000) →
        c.evaluate e = c.evalPassing e)
    ∧ (c.journey.atStop = none → c.journey.nextCalling = some i → c.position.motion = .standstill →
        (c.position.estimate ≤ (r.position + e.params.platformWin) * 65536000) →
        (r.position * 65536000 ≤ c.position.estimate + e.params.platformWin * 65536000) →
        r.callsAt e.portion = true →
        c.evaluate e = (c.evalPassing e).arrive e i r (r.position + e.params.platformWin))
    ∧ (∀ p, c.journey.atStop = some i → c.journey.departurePoint = some p → p * 65536000 < c.position.estimate →
        ∃ d, d = c.depart e i r ∧ c.evaluate e = d.evaluate e)
    ∧ (c.journey.atStop = none → c.journey.nextCalling = some i →
        (r.position + e.params.platformWin) * 65536000 < c.position.estimate →
        ∃ d, d = c.runThrough e i r ∧ c.evaluate e = d.evaluate e)

/-- R17, R22: while the journey runs, a progress evaluation marks PASSED exactly the records that are AHEAD, not calling for this coach and
left behind by more than the platform window, and raises no report for them; between stops, with next calling neither run through nor
arrived at, it does nothing else; in the EMPTY and TERMINATED phases it changes nothing. -/
def Obligations.PassingMarksWhatIsBehind : Prop :=
  (∀ (e : Env) (c : Coach), c.journey.phase = .empty ∨ c.journey.phase = .terminated → c.evaluate e = c)
  ∧ (∀ (e : Env) (c : Coach), c.journey.phase = .staged ∨ c.journey.phase = .inService → c.journey.atStop = none →
    (∀ i r, c.journey.nextCalling = some i → c.journey.list[i]? = some r →
      c.position.estimate ≤ (r.position + e.params.platformWin) * 65536000
      ∧ (c.position.motion = .standstill → c.position.estimate + e.params.platformWin * 65536000 < r.position * 65536000)) →
    c.evaluate e = c.evalPassing e)
  ∧ ∀ (e : Env) (c : Coach), ∃ d, d = c.evalPassing e
    ∧ d = { c with journey := { c.journey with list := d.journey.list } } ∧ d.journey.list.length = c.journey.list.length
    ∧ ∀ (i : Nat) (r : StopRec), c.journey.list[i]? = some r →
      ∃ behind, behind = (r.status = .ahead ∧ r.callsAt e.portion = false
          ∧ (r.position + e.params.platformWin) * 65536000 < c.position.estimate)
        ∧ (behind → d.journey.list[i]? = some { r with status := .passed })
        ∧ (¬ behind → d.journey.list[i]? = some r)

/-! ## Reservations and seats (chapters 5 and 7) -/

/-- R82: the checks of SEAT MAP in order; an accepted one replaces the table by one record for each description, in the order of seat
numbers (log entry 17), and every module of the old or the new table that is served waits in its line's SHOW queue. -/
def Obligations.SeatMapReplacesTheTable : Prop :=
  ∀ (s : State) (q : LinePort) (n : Nat) (ds : List SeatDesc), s.leads q → ∃ bad clash,
    bad = (96 < n ∨ n ≠ ds.length ∨ ∃ d ∈ ds, d.number = 0 ∨ 199 < d.number ∨ 3 < d.line ∨ 15 < d.module ∨ 1 < d.place)
    ∧ clash = ¬ ds.Pairwise (fun a b => a.number ≠ b.number ∧ ¬ (a.line = b.line ∧ a.module = b.module ∧ a.place = b.place))
    ∧ (s.coach.journey.phase ≠ .empty → exec (.seatMap (.line q) n ds) s = .next (State.answer (.line q) 7 .wrongPhase [] s.renewed))
    ∧ (s.coach.journey.phase = .empty → bad ∨ clash →
        exec (.seatMap (.line q) n ds) s = .next (State.answer (.line q) 7 .badField [] s.renewed))
    ∧ (s.coach.journey.phase = .empty → ¬ bad → ¬ clash → ∃ x,
        exec (.seatMap (.line q) n ds) s = .next (State.answer (.line q) 7 .accepted [] x)
        ∧ x = { s.renewed with coach := { s.coach with seats := x.coach.seats, lines := x.coach.lines } }
        ∧ x.coach.seats.Perm (ds.map seatRecord) ∧ x.coach.seats.Pairwise (fun a b => a.number < b.number)
        ∧ (∀ y ∈ s.coach.seats ++ x.coach.seats, y.module.val < (s.coach.lines.get y.line).moduleCount →
            y.module ∈ (x.coach.lines.get y.line).showQueue)
        ∧ ∀ i, ∃ g, x.coach.lines.get i = { s.coach.lines.get i with showQueue := (s.coach.lines.get i).showQueue ++ g })

/-- R88: the checks of RESERVE in order; steps 11 and 12 are judged after the RELEASED entries of the seat that the booking overlaps have
been freed, and the freeing stands: SEAT_FULL with 4 entries left on the seat, POOL_FULL with 256 left in the coach. A request refused
before them changes nothing. -/
def Obligations.ReserveIsJudgedInOrder : Prop :=
  ∀ (s : State) (q : LinePort) (n token b a : Nat), s.leads q → ∃ st rs x list left, ∃ overtaken : Entry → Bool,
    list = s.coach.journey.list
    ∧ (∀ y, overtaken y = (y.state == .released && Booking.overlapsEntry ⟨token, b, a⟩ list y))
    ∧ left = (s.coach.seats.map fun z =>
        if z.number = n then (z.entries.filter fun y => !overtaken y).length else z.entries.length).sum
    ∧ exec (.reserve (.line q) n token b a) s = .next (State.answer (.line q) 13 st rs x)
    ∧ (s.coach.journey.phase = .empty → st = .wrongPhase)
    ∧ (s.coach.journey.phase ≠ .empty → token = 0 ∨ b = 0 ∨ 65534 < b ∨ a = 0 ∨ 65534 < a → st = .badField)
    ∧ (s.coach.journey.phase ≠ .empty → token ≠ 0 → 1 ≤ b → b ≤ 65534 → 1 ≤ a → a ≤ 65534 →
        (s.coach.seat n = none → st = .unknownSeat)
        ∧ ∀ seat, s.coach.seat n = some seat →
          (seat.outOfUse = true → st = .outOfUse)
          ∧ (seat.outOfUse = false → (∃ z ∈ s.coach.seats, ∃ y ∈ z.entries, y.token = token) → st = .duplicateToken)
          ∧ (seat.outOfUse = false → (∀ z ∈ s.coach.seats, ∀ y ∈ z.entries, y.token ≠ token) →
            (findCode list b = none ∨ findCode list a = none → st = .unknownStop)
            ∧ ∀ i k r, findCode list b = some i → findCode list a = some k → list[i]? = some r →
              (k ≤ i ∨ effLeg list s.consist.portion b a = none → st = .badLeg)
              ∧ ∀ leg, i < k → effLeg list s.consist.portion b a = some leg →
                (r.status.past = true → st = .pastStop)
                ∧ (r.status.past = false → (∃ y ∈ seat.entries, y.state ≠ .released ∧ Booking.overlapsEntry ⟨token, b, a⟩ list y = true) →
                  st = .overlap)
                ∧ (r.status.past = false → (∀ y ∈ seat.entries, y.state ≠ .released → Booking.overlapsEntry ⟨token, b, a⟩ list y = false) →
                  (4 ≤ (seat.entries.filter fun y => !overtaken y).length → st = .seatFull)
                  ∧ ((seat.entries.filter fun y => !overtaken y).length < 4 → 256 ≤ left → st = .poolFull)
                  ∧ ((seat.entries.filter fun y => !overtaken y).length < 4 → left < 256 → st = .accepted))))
    ∧ (st ≠ .accepted → st ≠ .seatFull → st ≠ .poolFull → x = s.renewed ∧ rs = [])
    ∧ (st = .seatFull ∨ st = .poolFull → rs = [] ∧ x.coach.reportsA = s.coach.reportsA ∧ x.coach.reportsB = s.coach.reportsB
        ∧ x.coach.seats.map Seat.bare = s.coach.seats.map fun y =>
            if y.number = n then { y.bare with entries := y.entries.filter fun z => !overtaken z } else y.bare)

/-- R84, R88, R89, R94: an accepted RESERVE frees the RELEASED entries of the seat that the booking overlaps and puts one BOOKED entry into
the seat's list, before the entries that board further along and after the others; it is answered with the effective codes. While the
effective boarding stop is AHEAD the window is PENDING and no report is raised; where the coach stands there the window opens at once and
the seat is looked at, so that an occupied seat claims the booking with its report (log entry 16) and an unknown one marks it unverified;
where the coach has left that stop the window opens and its close test is taken too. No other seat changes but in its display. -/
def Obligations.ReserveBooksOneEntry : Prop :=
  ∀ (s : State) (q : LinePort) (n token b a i k : Nat) (seat : Seat) (leg : Nat × Nat) (bb rb ra : StopRec) (overtaken : Entry → Bool),
    s.leads q → s.coach.journey.phase ≠ .empty → token ≠ 0 → 1 ≤ b → b ≤ 65534 → 1 ≤ a → a ≤ 65534 →
    s.coach.seat n = some seat → seat.outOfUse = false →
    (∀ y, overtaken y = (y.state == .released && Booking.overlapsEntry ⟨token, b, a⟩ s.coach.journey.list y)) →
    (∀ z ∈ s.coach.seats, ∀ y ∈ z.entries, y.token ≠ token) →
    (∀ y ∈ seat.entries, y.state ≠ .released → Booking.overlapsEntry ⟨token, b, a⟩ s.coach.journey.list y = false) →
    (seat.entries.filter fun y => !overtaken y).length < 4 →
    (s.coach.seats.map fun z => if z.number = n then (z.entries.filter fun y => !overtaken y).length else z.entries.length).sum < 256 →
    findCode s.coach.journey.list b = some i → findCode s.coach.journey.list a = some k → i < k →
    s.coach.journey.list[i]? = some bb → bb.status.past = false →
    effLeg s.coach.journey.list s.consist.portion b a = some leg →
    s.coach.journey.list[leg.1]? = some rb → s.coach.journey.list[leg.2]? = some ra →
    ∃ x rs, ∃ fresh new : Entry, ∃ join : List Entry → List Entry, ∃ sensor,
      exec (.reserve (.line q) n token b a) s
        = .next (State.answer (.line q) 13 .accepted (leBytes 2 rb.code ++ leBytes 2 ra.code) x)
      ∧ x = { s.renewed with coach :=
          { Coach.raiseAll s.env rs s.coach with seats := x.coach.seats, lines := x.coach.lines } }
      ∧ x.coach.seats.map Seat.bare
        = s.coach.seats.map (fun y => if y.number = n then { y.bare with entries := join y.entries } else y.bare)
      ∧ (∀ y ∈ x.coach.seats, y.content = x.coach.contentOf s.env y)
      ∧ (∀ ys, ∃ pre post, ys.filter (fun y => !overtaken y) = pre ++ post ∧ join ys = pre ++ new :: post
          ∧ (∀ y ∈ pre, (y.leg s.coach.journey.list).1 ≤ bb.position)
          ∧ ∀ y, post.head? = some y → bb.position < (y.leg s.coach.journey.list).1)
      ∧ sensor = (s.coach.sensor seat.placeId).state ∧ fresh = ⟨token, b, a, .booked, false, leg.1, leg.2, .pending, none, false⟩
      ∧ (rb.status = .ahead → new = fresh ∧ rs = [])
      ∧ (rb.status = .current → sensor = .occupied ∨ sensor = .leaving →
          new = { fresh with state := .claimed, window := .opened, anchor := some (rb.code, rb.position) }
          ∧ rs = [⟨.seatClaimed, some rb.code, some seat.number, some token, s.coach.position.estimate / 65536000, .none, none⟩])
      ∧ (rb.status = .current → sensor = .unknown → rs = []
          ∧ new = { fresh with unverified := true, window := .opened, anchor := some (rb.code, rb.position) })
      ∧ (rb.status = .current → sensor = .settling ∨ sensor = .vacant ∨ sensor = .entering → rs = []
          ∧ new = { fresh with window := .opened, anchor := some (rb.code, rb.position) })
      ∧ (rb.status ≠ .ahead → rb.status ≠ .current → (new, rs) = openWindow (s.coach.entryCtx s.env seat) rb fresh)

/-- R90: CANCEL frees the entry of a token whatever its state, and answers with the seat number. R91: RELEASE makes a BOOKED entry RELEASED
with its window SPENT, leaves it in the seat's list, and refuses any other entry BAD_STATE. Neither raises a report, and the displayed
states are worked out again. -/
def Obligations.CancelAndReleaseActOnTheEntry : Prop :=
  ∀ (s : State) (q : LinePort) (token : Nat), s.takes (.line q) →
    (s.consist.lead ≠ some q → exec (.cancel (.line q) token) s = .next (State.answer (.line q) 14 .notLead [] s)
      ∧ exec (.release (.line q) token) s = .next (State.answer (.line q) 15 .notLead [] s))
    ∧ (s.consist.lead = some q → (∀ z ∈ s.coach.seats, ∀ y ∈ z.entries, y.token ≠ token) →
        exec (.cancel (.line q) token) s = .next (State.answer (.line q) 14 .notFound [] s.renewed)
        ∧ exec (.release (.line q) token) s = .next (State.answer (.line q) 15 .notFound [] s.renewed))
    ∧ (∀ seat y, s.consist.lead = some q → s.coach.entry token = some (seat, y) →
        (∃ x, exec (.cancel (.line q) token) s = .next (State.answer (.line q) 14 .accepted [BitVec.ofNat 8 seat.number] x)
          ∧ x = { s.renewed with coach := { s.coach with seats := x.coach.seats, lines := x.coach.lines } }
          ∧ x.coach.seats.map Seat.bare = s.coach.seats.map (fun z =>
              if z.number = seat.number then { z.bare with entries := z.entries.filter fun v => v.token != token } else z.bare)
          ∧ ∀ z ∈ x.coach.seats, z.content = x.coach.contentOf s.env z)
        ∧ (y.state ≠ .booked → exec (.release (.line q) token) s = .next (State.answer (.line q) 15 .badState [] s.renewed))
        ∧ (y.state = .booked → ∃ x,
          exec (.release (.line q) token) s = .next (State.answer (.line q) 15 .accepted [] x)
          ∧ x = { s.renewed with coach := { s.coach with seats := x.coach.seats, lines := x.coach.lines } }
          ∧ x.coach.seats.map Seat.bare = s.coach.seats.map (fun z =>
              if z.number = seat.number then { z.bare with entries := z.entries.map fun v =>
                if v.token = token then { v with state := .released, window := .spent } else v } else z.bare)
          ∧ ∀ z ∈ x.coach.seats, z.content = x.coach.contentOf s.env z))

/-- R86, R87: at a list change an entry of which a booked stop has left the list is dropped (at a commit), one that has become void is
freed, and any other takes its effective leg anew, with a report where a code of it has changed; a PENDING window whose boarding stop is
still AHEAD stays, one whose boarding stop is reached opens and takes its tests, and an OPEN one takes its close test, after a commit that
has removed its anchor stop with the anchor left (R94). At a commit the entries left are put in the order of their booked boarding and those
that overlap an earlier one that is kept are dropped, each with its report. The reports of every seat's entries are raised in their order,
those of the overlaps after the others. R93: entries that end at or below last departed are retired. R97: when the fix state becomes FIXED a
DEFERRED window is SPENT, and a verified booking is released with its report. -/
def Obligations.ListChangesReviewTheBookings : Prop :=
  (∀ (k : EntryCtx) (portion : Fin 4) (old : List StopRec) (commit : Bool) (x : Entry), ∃ metres, metres = k.position.estimate / 65536000
    ∧ (commit = true → findCode k.list x.boarding = none → entryAtListChange k portion old commit x
        = (none, [⟨.reservationDropped, some x.boarding, some k.seat, some x.token, metres, .none, none⟩]))
    ∧ (commit = true → findCode k.list x.boarding ≠ none → findCode k.list x.alighting = none → entryAtListChange k portion old commit x
        = (none, [⟨.reservationDropped, some x.alighting, some k.seat, some x.token, metres, .none, none⟩]))
    ∧ (commit = false ∨ (findCode k.list x.boarding ≠ none ∧ findCode k.list x.alighting ≠ none) →
        (effLeg k.list portion x.boarding x.alighting = none → entryAtListChange k portion old commit x
          = (none, [⟨.reservationAffected, some x.boarding, some k.seat, some x.token, metres, .void, none⟩]))
        ∧ ∀ b a rb ra, effLeg k.list portion x.boarding x.alighting = some (b, a) → k.list[b]? = some rb → k.list[a]? = some ra →
          ∃ y rs told, entryAtListChange k portion old commit x = (some y, told ++ rs)
            ∧ y.token = x.token ∧ y.boarding = x.boarding ∧ y.alighting = x.alighting ∧ y.effBoarding = b ∧ y.effAlighting = a
            ∧ told = (if codeAt old (some x.effBoarding) = some rb.code ∧ codeAt old (some x.effAlighting) = some ra.code then []
                else [⟨.reservationAffected, some rb.code, some k.seat, some x.token, metres, .none, some (ra.code : Int)⟩])
            ∧ (x.window = .spent ∨ x.window = .deferred ∨ (x.window = .pending ∧ rb.status = .ahead) →
                rs = [] ∧ y.state = x.state ∧ y.window = x.window ∧ y.unverified = x.unverified)
            ∧ (∀ z, x.window ≠ .pending → z = { x with effBoarding := b, effAlighting := a, anchorLeft := z.anchorLeft } →
                (z.anchorLeft = true ↔ x.anchorLeft = true
                  ∨ (commit = true ∧ ∃ code p, x.anchor = some (code, p) ∧ findCode k.list code = none)) →
                (y, rs) = closeTest k z)
            ∧ (x.window = .pending → rb.status ≠ .ahead → ∃ z v w,
                z = { x with
                  effBoarding := b, effAlighting := a, window := .opened
                  anchor := some (rb.code, rb.position), anchorLeft := decide (rb.status ≠ .current) }
                ∧ v = lookAtSeat k z ∧ w = closeTest k v.1 ∧ (y, rs) = (w.1, v.2 ++ w.2))))
  ∧ (∀ (k : EntryCtx) (xs : List Entry), ∃ ys, ys = (dropOverlaps k [] (sortEntries k.list xs)).1
    ∧ (∀ y ∈ ys, y ∈ xs) ∧ ys.Pairwise (fun x y => overlaps (x.leg k.list) (y.leg k.list) = false)
    ∧ ys.Pairwise (fun x y => (x.leg k.list).1 ≤ (y.leg k.list).1)
    ∧ (∀ x ∈ xs, x ∉ ys → ∃ y ∈ ys, overlaps (y.leg k.list) (x.leg k.list) = true)
    ∧ (dropOverlaps k [] (sortEntries k.list xs)).2.length + ys.length = xs.length
    ∧ (sortEntries k.list xs).Perm xs ∧ (sortEntries k.list xs).Pairwise (fun x y => (x.leg k.list).1 ≤ (y.leg k.list).1)
    ∧ dropOverlaps k [] [] = ([], [])
    ∧ ∀ pre x, ∃ earlier, earlier = dropOverlaps k [] pre ∧ dropOverlaps k [] (pre ++ [x])
        = if earlier.1.any fun y => overlaps (y.leg k.list) (x.leg k.list) then
            (earlier.1, earlier.2 ++ [⟨.reservationDropped, some x.boarding, some k.seat, some x.token, k.position.estimate / 65536000,
              .none, none⟩])
          else (earlier.1 ++ [x], earlier.2))
  ∧ (∀ (e : Env) (c : Coach) (old : List StopRec), ∃ kept : List Entry → List Entry, ∃ review : Seat → Bool → List Entry,
    (∀ xs, kept xs = xs.filter fun x => c.journey.lastDeparted.all fun i => i < x.effAlighting)
    ∧ (∀ z commit, review z commit = z.entries.filterMap fun x =>
        (entryAtListChange (c.entryCtx e z) e.portion (if commit then old else c.journey.list) commit x).1)
    ∧ (c.reserveAmend e).seats.map Seat.bare = c.seats.map (fun z => { z.bare with entries := kept (review z false) })
    ∧ (c.reserveCommit e old).seats.map Seat.bare = c.seats.map (fun z => { z.bare with
        entries := kept (dropOverlaps (c.entryCtx e z) [] (sortEntries c.journey.list (review z true))).1 })
    ∧ (∀ z ∈ (c.reserveAmend e).seats, z.content = (c.reserveAmend e).contentOf e z)
    ∧ (∀ z ∈ (c.reserveCommit e old).seats, z.content = (c.reserveCommit e old).contentOf e z)
    ∧ (c.reserveAmend e).journey = c.journey ∧ (c.reserveCommit e old).journey = c.journey
    ∧ ∃ told : Bool → List Report,
      (∀ commit, told commit = c.seats.flatMap fun z => z.entries.flatMap fun x =>
        (entryAtListChange (c.entryCtx e z) e.portion (if commit then old else c.journey.list) commit x).2)
      ∧ (∀ p, (c.reserveAmend e).reports p = (Coach.raiseAll e (told false) c).reports p)
      ∧ ∀ p, (c.reserveCommit e old).reports p = (Coach.raiseAll e (told true ++ c.seats.flatMap fun z =>
          (dropOverlaps (c.entryCtx e z) [] (sortEntries c.journey.list (review z true))).2) c).reports p)
  ∧ ∀ (k : EntryCtx) (x : Entry) (code p : Nat), x.anchor = some (code, p) →
    (x.window ≠ .deferred → entryAtFixed k x = (x, []))
    ∧ (x.window = .deferred → x.unverified = true → entryAtFixed k x = ({ x with window := .spent }, []))
    ∧ (x.window = .deferred → x.unverified = false → entryAtFixed k x = ({ x with state := .released, window := .spent },
        [⟨.seatReleased, some code, some k.seat, some x.token, k.position.estimate / 65536000, .none, none⟩]))

/-- R92, R138: SET OUT OF USE of the lead or the crew port writes the flag of the seat and leaves its entries; RESEED SEATS of the lead or
the crew port reseeds the places it names that are eligible, of one seat or of every module below its line's module count, in increasing line,
module id and place order, and answers with their number; each reseed is that of R136, with its hand-over (R139). -/
def Obligations.SeatsOutOfUseAndReseed : Prop :=
  ∀ (s : State) (p : Port) (n : Nat) (on : Bool), s.controls p →
    (s.coach.seat n = none → exec (.setOutOfUse p n on) s = .next (State.answer p 16 .unknownSeat [] (s.renew p))
      ∧ exec (.reseedSeats p (some n)) s = .next (State.answer p 18 .unknownSeat [] (s.renew p)))
    ∧ (∀ seat, s.coach.seat n = some seat →
        (∃ x, exec (.setOutOfUse p n on) s = .next (State.answer p 16 .accepted [] x)
          ∧ x = { s.renew p with coach := { s.coach with seats := x.coach.seats, lines := x.coach.lines } }
          ∧ x.coach.seats.map Seat.bare = s.coach.seats.map (fun z => if z.number = n then { z.bare with outOfUse := on } else z.bare)
          ∧ ∀ z ∈ x.coach.seats, z.content = x.coach.contentOf s.env z)
        ∧ (s.coach.eligible seat.placeId = false →
          exec (.reseedSeats p (some n)) s = .next (State.answer p 18 .accepted [0] (s.renew p)))
        ∧ (s.coach.eligible seat.placeId = true → s.coach.sensors.length = 128 → ∃ x,
          exec (.reseedSeats p (some n)) s = .next (State.answer p 18 .accepted [1] x)
          ∧ x.consist = (s.renew p).consist ∧ SameOutside s x
          ∧ x.coach = s.coach.reseedPlace s.env seat.placeId
          ∧ x.coach.sensor seat.placeId = ⟨.settling, false, none, none, 0, 0⟩
          ∧ (∀ k, k ≠ seat.placeId → x.coach.sensor k = s.coach.sensor k)
          ∧ x.coach.journey = s.coach.journey ∧ x.coach.position = s.coach.position ∧ x.coach.notices = s.coach.notices))
    ∧ (s.coach.sensors.length = 128 → ∃ x, ∃ named : PlaceId → Prop,
        (∀ k, named k = (k.module.val < (s.coach.lines.get k.line).moduleCount ∧ (s.coach.lines.get k.line).running = true
          ∧ ((s.coach.lines.get k.line).module k.module).health = .healthy
          ∧ (k.place = 0 ∨ ((s.coach.lines.get k.line).module k.module).places ≠ some 1)))
        ∧ exec (.reseedSeats p none) s
          = .next (State.answer p 18 .accepted [BitVec.ofNat 8 (s.coach.allPlaces.filter s.coach.eligible).length] x)
        ∧ x.consist = (s.renew p).consist ∧ SameOutside s x
        ∧ (∀ k, (named k → x.coach.sensor k = ⟨.settling, false, none, none, 0, 0⟩)
            ∧ (¬ named k → x.coach.sensor k = s.coach.sensor k) ∧ (k ∈ s.coach.allPlaces.filter s.coach.eligible ↔ named k))
        ∧ (s.coach.allPlaces.filter s.coach.eligible).Pairwise (fun a b => a.line < b.line
            ∨ (a.line = b.line ∧ (a.module < b.module ∨ (a.module = b.module ∧ a.place < b.place))))
        ∧ x.coach = (s.coach.allPlaces.filter s.coach.eligible).foldl (Coach.reseedPlace s.env) s.coach
        ∧ x.coach.journey = s.coach.journey ∧ x.coach.position = s.coach.position ∧ x.coach.notices = s.coach.notices)

/-- R95, R96: what a claim window does. At its close an unclaimed verified booking is released if the fix state is FIXED and deferred if
not, any other entry keeps its state; while it is OPEN or DEFERRED an occupied seat claims a booking and an unknown one marks it. R94, R96,
R98: an arrival or a run-through ends the window of an entry that alights there and opens a PENDING one of an entry that boards there; a
departure or a run-through leaves the anchor of the entries that have it there, and takes the close test. R93 to R98, R139: the reservation
unit takes an arrival, a departure, a run-through, a position change, a change of the fix state to FIXED and a change of a place's state on
every entry of every seat, in their order, raises their reports in that order, retires the past entries at a departure and a run-through, and
works out the displayed states again. -/
def Obligations.ClaimWindowClaimsAndReleases : Prop :=
  (∀ (k : EntryCtx) (x : Entry) (code p : Nat), x.window = .opened → x.anchorLeft = true → x.anchor = some (code, p) →
    (k.position.estimate < (p + k.releaseM) * 65536000 → closeTest k x = (x, []))
    ∧ ((p + k.releaseM) * 65536000 ≤ k.position.estimate →
        (x.state = .booked → x.unverified = false → k.position.fix = .fixed → closeTest k x
            = ({ x with state := .released, window := .spent },
                [⟨.seatReleased, some code, some k.seat, some x.token, k.position.estimate / 65536000, .none, none⟩]))
        ∧ (x.state = .booked → x.unverified = false → k.position.fix ≠ .fixed → closeTest k x = ({ x with window := .deferred }, []))
        ∧ (x.state ≠ .booked ∨ x.unverified = true → closeTest k x = ({ x with window := .spent }, []))))
  ∧ (∀ (k : EntryCtx) (x : Entry), x.window ≠ .opened ∨ x.anchorLeft = false → closeTest k x = (x, []))
  ∧ (∀ (k : EntryCtx) (x : Entry) (code p : Nat), x.anchor = some (code, p) →
    (x.window = .pending ∨ x.window = .spent → lookAtSeat k x = (x, []))
    ∧ (x.window = .opened ∨ x.window = .deferred →
        (k.sensor = .unknown → lookAtSeat k x = ({ x with unverified := true }, []))
        ∧ (k.sensor = .occupied ∨ k.sensor = .leaving → x.state = .booked → lookAtSeat k x
            = ({ x with state := .claimed, window := if x.window = .deferred then .spent else .opened },
                [⟨.seatClaimed, some code, some k.seat, some x.token, k.position.estimate / 65536000, .none, none⟩]))
        ∧ (k.sensor = .occupied ∨ k.sensor = .leaving → x.state ≠ .booked → lookAtSeat k x = (x, []))
        ∧ (k.sensor = .settling ∨ k.sensor = .vacant ∨ k.sensor = .entering → lookAtSeat k x = (x, []))))
  ∧ (∀ (k : EntryCtx) (i code : Nat) (x : Entry), ∃ ended : Entry, ∃ left : Entry → Entry, ∃ opened : StopRec → Bool → Entry,
    ended = (if x.effAlighting = i then { x with window := .spent } else x)
    ∧ (∀ y, left y = if y.anchor.map Prod.fst = some code then { y with anchorLeft := true } else y)
    ∧ (∀ r b, opened r b = { x with window := .opened, anchor := some (r.code, r.position), anchorLeft := b })
    ∧ (x.effBoarding ≠ i ∨ ended.window ≠ .pending → entryAtArrival k i x = (ended, [])
        ∧ entryAtRunThrough k i code x = closeTest k (left ended))
    ∧ (∀ r, x.effBoarding = i → ended.window = .pending → k.list[i]? = some r →
        (r.status = .current → entryAtArrival k i x = lookAtSeat k (opened r false))
        ∧ (r.status = .runThrough → ∃ y z, y = lookAtSeat k (opened r true) ∧ z = closeTest k y.1
            ∧ entryAtRunThrough k i code x = (z.1, y.2 ++ z.2)))
    ∧ entryAtDeparture k code x = closeTest k (left x))
  ∧ ∀ (e : Env) (c : Coach) (i code : Nat) (p : PlaceId), ∃ handed : (EntryCtx → Seat → Entry → Entry × List Report) → Bool → Coach → Prop,
    (∀ f retires d, handed f retires d = (d = { c with seats := d.seats, lines := d.lines, reportsA := d.reportsA, reportsB := d.reportsB }
      ∧ d.seats.map Seat.bare = c.seats.map (fun z => { z.bare with entries :=
          (z.entries.map fun x => (f (c.entryCtx e z) z x).1).filter fun x =>
            !retires || (c.journey.lastDeparted.all fun l => l < x.effAlighting) })
      ∧ (∀ z ∈ d.seats, z.content = d.contentOf e z)
      ∧ (∀ q, d.reports q = (Coach.raiseAll e (c.seats.flatMap fun z => z.entries.flatMap fun x => (f (c.entryCtx e z) z x).2) c).reports q)
      ∧ ∀ n, ∃ g, d.lines.get n = { c.lines.get n with showQueue := (c.lines.get n).showQueue ++ g }))
    ∧ handed (fun k _ => entryAtArrival k i) false (c.reserveArrival e i)
    ∧ handed (fun k _ => entryAtDeparture k code) true (c.reserveDeparture e code)
    ∧ handed (fun k _ => entryAtRunThrough k i code) true (c.reserveRunThrough e i code)
    ∧ handed (fun k _ => closeTest k) false (c.reservePosition e)
    ∧ handed (fun k _ => entryAtFixed k) false (c.reserveFixed e)
    ∧ handed (fun k z x => if z.placeId = p then lookAtSeat k x else (x, [])) false (c.reservePlace e p)

/-- R99 to R101: a seat shows RESERVED or ENDING only while a BOOKED or CLAIMED entry of it covers the current leg, with the stops of that
entry, and ENDING exactly where that entry alights at next calling while the NEXT_STOP or ARRIVING notice for that stop is ARMED or SHOWN;
NO_INFO exactly in the EMPTY phase; OUT_OF_USE exactly while the flag is set in another phase. With no such entry it shows FREE_UNTIL
the lowest later boarding stop of a BOOKED or CLAIMED entry; with none of those RELEASED_FREE while a RELEASED entry covers the leg, else
FREE. -/
def Obligations.DisplayedStateFollowsTheEntries : Prop :=
  ∀ (e : Env) (c : Coach) (s : Seat), ∃ v d, ∃ held covers later : Entry → Prop, v = c.contentOf e s ∧ d = v.shown
    ∧ (∀ x, held x = (x.state = .booked ∨ x.state = .claimed))
    ∧ (∀ x, covers x = ∃ i, c.legStart e = some i ∧ x.effBoarding ≤ i ∧ i < x.effAlighting)
    ∧ (∀ x, later x = ∃ i, c.legStart e = some i ∧ i < x.effBoarding)
    ∧ ((d = .reserved ∨ d = .ending) ↔ c.journey.phase ≠ .empty ∧ s.outOfUse = false ∧ ∃ x ∈ s.entries, held x ∧ covers x)
    ∧ (d = .noInfo ↔ c.journey.phase = .empty)
    ∧ (d = .outOfUse ↔ c.journey.phase ≠ .empty ∧ s.outOfUse = true)
    ∧ (d = .ending → ∃ x ∈ s.entries, some x.effAlighting = c.journey.nextCalling ∧ c.nextArmed = true)
    ∧ (∀ x ∈ s.entries, c.journey.phase ≠ .empty → s.outOfUse = false → held x → covers x →
        (∀ y ∈ s.entries, held y → covers y → y.effAlighting = x.effAlighting) →
        (d = .ending ↔ c.journey.nextCalling = some x.effAlighting ∧ ∃ n ∈ c.notices.queue, ∃ code, n.stop = some code
          ∧ codeAt c.journey.list c.journey.nextCalling = some code ∧ (n.kind = .nextStop ∨ n.kind = .arriving)
          ∧ (n.state = .armed ∨ n.state = .shown)))
    ∧ (d = .freeUntil ↔ c.journey.phase ≠ .empty ∧ s.outOfUse = false ∧ (∀ x ∈ s.entries, held x → ¬ covers x)
        ∧ ∃ x ∈ s.entries, held x ∧ later x)
    ∧ (d = .releasedFree ↔ c.journey.phase ≠ .empty ∧ s.outOfUse = false ∧ (∀ x ∈ s.entries, held x → ¬ covers x ∧ ¬ later x)
        ∧ ∃ x ∈ s.entries, x.state = .released ∧ covers x)
    ∧ (d = .free ↔ c.journey.phase ≠ .empty ∧ s.outOfUse = false ∧ (∀ x ∈ s.entries, held x → ¬ covers x ∧ ¬ later x)
        ∧ ∀ x ∈ s.entries, x.state = .released → ¬ covers x)
    ∧ (d = .reserved ∨ d = .ending → ∃ x ∈ s.entries, held x ∧ covers x
        ∧ v.stops = [stopShown c.journey.list x.effBoarding, stopShown c.journey.list x.effAlighting])
    ∧ (d = .freeUntil → ∃ x ∈ s.entries, held x ∧ later x ∧ v.stops = [stopShown c.journey.list x.effBoarding]
        ∧ ∀ y ∈ s.entries, held y → later y → x.effBoarding ≤ y.effBoarding)
    ∧ (d ≠ .reserved → d ≠ .ending → d ≠ .freeUntil → v.stops = [])

/-- R129 to R134, R136, R137, R139: the filter and the baseline move by a quotient rounded toward minus infinity, and the exit threshold is
a quotient rounded down. A place in SETTLING takes its first sample as it stands and filters the others, each sample making the baseline,
until the eighth after the first makes it VACANT. A place past settling filters every sample; a VACANT place with a large fall becomes
OCCUPIED after DEB_IN samples and an OCCUPIED one VACANT after DEB_OUT, counting through ENTERING and LEAVING; a place in UNKNOWN ignores
samples. A sample, a reseed and a hand-over of UNKNOWN write the place they name and no other; where the state of the place has changed, the
change is handed to the reservation unit, and where it has not, nothing is. -/
def Obligations.OccupancyFollowsTheFilteredCount : Prop :=
  (∀ (p : Params) (f c b : Nat), ∃ m n : Int, ∃ k : Nat,
    (filterStep p f c : Int) = f + m ∧ m * 2 ^ p.beta ≤ (c : Int) * 256 - f ∧ (c : Int) * 256 - f < (m + 1) * 2 ^ p.beta
    ∧ (approach b f p.ltaShift : Int) = b + n ∧ n * 2 ^ p.ltaShift ≤ (f : Int) - b ∧ (f : Int) - b < (n + 1) * 2 ^ p.ltaShift
    ∧ exitThreshold p = (k : Int) ∧ k * 256 ≤ p.occThreshold * (256 - p.hyst) ∧ p.occThreshold * (256 - p.hyst) < (k + 1) * 256)
  ∧ (∀ (e : Env) (c : Coach) (p : PlaceId) (count : Nat), c.sensors.length = 128 → ∃ handed : Sensor → Coach → Prop,
    (∀ y d, handed y d = ∃ u : Coach, u = { c with sensors := u.sensors } ∧ u.sensors.length = 128 ∧ u.sensor p = y
        ∧ (∀ k, k ≠ p → u.sensor k = c.sensor k)
        ∧ (y.state = (c.sensor p).state → d = u) ∧ (y.state ≠ (c.sensor p).state → d = u.reservePlace e p))
    ∧ handed ((c.sensor p).sample e.params count) (c.samplePlace e count p)
    ∧ handed ⟨.settling, false, none, none, 0, 0⟩ (c.reseedPlace e p)
    ∧ handed ⟨.unknown, false, none, none, 0, 0⟩ (c.losePlace e p))
  ∧ ∀ (p : Params) (count f b g : Nat) (delta : Int) (x : Sensor),
    (x.state = .unknown → x.sample p count = x)
    ∧ (x.state = .settling → x.seeded = false → x.sample p count
        = { x with seeded := true, filtered := some (count * 256), baseline := some (count * 256), settle := 0 })
    ∧ (x.state = .settling → x.seeded = true → x.filtered = some f → g = filterStep p f count →
        (x.settle + 1 < 8 → x.sample p count = { x with filtered := some g, baseline := some g, settle := x.settle + 1 })
        ∧ (8 ≤ x.settle + 1 → x.sample p count
            = { x with state := .vacant, filtered := some g, baseline := some g, settle := 0, debounce := 0 }))
    ∧ (x.filtered = some f → x.baseline = some b → g = filterStep p f count → delta = (b / 256 : Nat) - (g / 256 : Nat) →
        (x.state = .vacant → delta < 0 → (p.occThreshold : Int) < -delta →
            x.sample p count = { x with filtered := some g, baseline := some g })
        ∧ (x.state = .vacant → (p.occThreshold : Int) < delta → p.debIn ≤ 1 →
            x.sample p count = { x with filtered := some g, state := .occupied })
        ∧ (x.state = .vacant → (p.occThreshold : Int) < delta → 1 < p.debIn →
            x.sample p count = { x with filtered := some g, state := .entering, debounce := 1 })
        ∧ (x.state = .vacant → -(p.occThreshold : Int) ≤ delta → delta ≤ p.occThreshold →
            x.sample p count = { x with filtered := some g, baseline := some (approach b g p.ltaShift) })
        ∧ (x.state = .entering → (p.occThreshold : Int) < delta → x.debounce + 1 < p.debIn →
            x.sample p count = { x with filtered := some g, debounce := x.debounce + 1 })
        ∧ (x.state = .entering → (p.occThreshold : Int) < delta → p.debIn ≤ x.debounce + 1 →
            x.sample p count = { x with filtered := some g, state := .occupied, debounce := 0 })
        ∧ (x.state = .entering → delta ≤ p.occThreshold →
            x.sample p count = { x with filtered := some g, state := .vacant, debounce := 0 })
        ∧ (x.state = .occupied → exitThreshold p ≤ delta → x.sample p count = { x with filtered := some g })
        ∧ (x.state = .occupied → delta < exitThreshold p → p.debOut ≤ 1 →
            x.sample p count = { x with filtered := some g, state := .vacant })
        ∧ (x.state = .occupied → delta < exitThreshold p → 1 < p.debOut →
            x.sample p count = { x with filtered := some g, state := .leaving, debounce := 1 })
        ∧ (x.state = .leaving → delta < exitThreshold p → x.debounce + 1 < p.debOut →
            x.sample p count = { x with filtered := some g, debounce := x.debounce + 1 })
        ∧ (x.state = .leaving → delta < exitThreshold p → p.debOut ≤ x.debounce + 1 →
            x.sample p count = { x with filtered := some g, state := .vacant, debounce := 0 })
        ∧ (x.state = .leaving → exitThreshold p ≤ delta →
            x.sample p count = { x with filtered := some g, state := .occupied, debounce := 0 }))

/-! ## Seat lines (chapter 6) -/

/-- R106, R108: the checks of SEAT LINE CONTROL in order; a value outside its range is clamped and the answer ADJUSTED. OFF, SETUP and KEEP
leave a line that is at rest in that state with the values given; RUN takes a line in SETUP to IDLE with every module below the count
WAKING, and its first slot is a module slot (log entry 18). RUN and KEEP without values change nothing of a line that runs or is STUCK, nor
does KEEP without values of any line. -/
def Obligations.SeatLineControlIsJudgedAndTaken : Prop :=
  ∀ (s : State) (p : Port) (r : LineControl) (i : Fin 4) (l : SeatLine), s.controls p → i = Fin.ofNat 4 r.line → l = s.coach.lines.get i →
    (3 < r.line ∨ 3 < r.action ∨ (∃ b, r.bitRate = some b ∧ b ≠ 9600 ∧ b ≠ 19200) →
      exec (.seatLineControl p r) s = .next (State.answer p 19 .badField [] (s.renew p)))
    ∧ (r.line ≤ 3 → r.action ≤ 3 → (∀ b, r.bitRate = some b → b = 9600 ∨ b = 19200) →
        (LineControl.hasValues r = true → l.activity ≠ .off → l.activity ≠ .setup →
          exec (.seatLineControl p r) s = .next (State.answer p 19 .wrongPhase [] (s.renew p)))
        ∧ (r.action = 2 → l.activity = .off → exec (.seatLineControl p r) s = .next (State.answer p 19 .wrongPhase [] (s.renew p)))
        ∧ (l.activity = .setup ∨ (l.activity = .off ∧ r.action ≠ 2) → ∃ st x y,
            exec (.seatLineControl p r) s = .next (State.answer p 19 st (y.paramChars s.now) x)
            ∧ x = { s.renew p with coach := { s.coach with lines := s.coach.lines.set i y } }
            ∧ SeatLine.Took r l y ∧ (st = .adjusted ∨ st = .accepted)
            ∧ (st = .adjusted ↔ (∃ v, r.moduleCount = some v ∧ 16 < v) ∨ (∃ v, r.breakBits = some v ∧ (v < 13 ∨ 24 < v))
                ∨ (∃ v, r.rtFactor = some v ∧ (v < 11 ∨ 20 < v)) ∨ (∃ v, r.faultCount = some v ∧ (v < 2 ∨ 8 < v))
                ∨ (∃ v, r.labelLevel = some v ∧ 255 < v))
            ∧ (r.action = 0 → y.activity = .off) ∧ (r.action = 1 → y.activity = .setup) ∧ (r.action = 3 → y.activity = l.activity)
            ∧ (r.action ≠ 2 → y.round = l.round ∧ y.serviceNext = l.serviceNext ∧ y.dominantSince = l.dominantSince
                ∧ y.recessiveSince = l.recessiveSince
                ∧ (r.moduleCount = none → y.modules = l.modules)
                ∧ (r.moduleCount ≠ none → l.modules.length = 16 → ∀ m : Fin 16,
                    (y.module m).health = (if y.moduleCount ≤ m.val then .unused else if l.moduleCount ≤ m.val then .waking
                      else (l.module m).health)
                    ∧ (y.module m).levelPending = ((l.module m).levelPending && !(y.moduleCount ≤ m.val && m.val < l.moduleCount))
                    ∧ y.module m = { l.module m with health := (y.module m).health, levelPending := (y.module m).levelPending }))
            ∧ (r.action = 2 → y.activity = .idle ∧ y.round = 0 ∧ y.serviceNext = false ∧ y.recessiveSince = s.now
                ∧ y.dominantSince = (if s.levels.get i = .dominant then some s.now else none)
                ∧ (l.modules.length = 16 → ∀ m : Fin 16, m.val < y.moduleCount →
                    (y.module m).health = .waking ∧ (y.module m).failures = 0 ∧ (y.module m).identPending = true)))
        ∧ (r = ⟨r.line, r.action, none, none, none, none, none, none⟩ → r.action = 3 ∨ (r.action = 2 ∧ l.activity ≠ .off ∧ l.activity ≠ .setup) →
            exec (.seatLineControl p r) s = .next (State.answer p 19 .accepted (l.paramChars s.now) (s.renew p))))

/-- R107, R118: a line that leaves a running state or STUCK by OFF or SETUP is in that state at once (log entry 32), its dominant run is 0, the
item of a frame in progress is put back, and every place of it is handed UNKNOWN in module id and place order, with the hand-overs of R139; no
other place changes. A line that leaves STUCK clears
SEAT_LINE_FAULT when no other line is STUCK. -/
def Obligations.LeavingARunLosesThePlaces : Prop :=
  ∀ (s : State) (p : Port) (i : Fin 4) (l : SeatLine) (action : Nat), s.controls p → l = s.coach.lines.get i → s.coach.sensors.length = 128 →
    l.modules.length = 16 → l.running = true ∨ l.activity = .stuck → action = 0 ∨ action = 1 → ∃ x,
      exec (.seatLineControl p ⟨i.val, action, none, none, none, none, none, none⟩) s
        = .next (State.answer p 19 .accepted ((x.coach.lines.get i).paramChars s.now) x)
      ∧ SameOutside s x ∧ x.consist = (s.renew p).consist
      ∧ (x.coach.lines.get i).activity = (if action = 0 then .off else .setup) ∧ (x.coach.lines.get i).dominantRun s.now = 0
      ∧ (x.coach.lines.get i).moduleCount = l.moduleCount ∧ (x.coach.lines.get i).round = l.round
      ∧ (∃ d : Coach, d = ((List.finRange 16).flatMap fun m => [(⟨i, m, 0⟩ : PlaceId), ⟨i, m, 1⟩]).foldl (Coach.losePlace s.env) s.coach
          ∧ x.coach.seats = d.seats ∧ x.coach.sensors = d.sensors)
      ∧ (∀ m pl, (x.coach.sensor ⟨i, m, pl⟩) = ⟨.unknown, false, none, none, 0, 0⟩)
      ∧ (∀ k m pl, k ≠ i → x.coach.sensor ⟨k, m, pl⟩ = s.coach.sensor ⟨k, m, pl⟩)
      ∧ (∀ f, l.activity = .frame f →
          (f.cmd = .names → f.block < 16 → (x.coach.lines.get i).stale.getLsbD f.block = true)
          ∧ (f.cmd = .showContent → f.module ∈ (x.coach.lines.get i).showQueue)
          ∧ (f.cmd = .level → ((x.coach.lines.get i).module f.module).levelPending = true)
          ∧ (f.cmd ≠ .level → (x.coach.lines.get i).modules = l.modules) ∧ (f.cmd ≠ .names → (x.coach.lines.get i).stale = l.stale))
      ∧ (l.activity = .stuck → (∀ k, k ≠ i → (s.coach.lines.get k).activity ≠ .stuck) →
          x.coach.reportsA = { s.coach.reportsA with flags := { s.coach.reportsA.flags with seatLineFault := false } }
          ∧ x.coach.reportsB = { s.coach.reportsB with flags := { s.coach.reportsB.flags with seatLineFault := false } })
      ∧ (l.running = true ∨ (∃ k, k ≠ i ∧ (s.coach.lines.get k).activity = .stuck) →
          x.coach.reportsA = s.coach.reportsA ∧ x.coach.reportsB = s.coach.reportsB)
      ∧ x.coach.journey = s.coach.journey ∧ x.coach.position = s.coach.position ∧ x.coach.notices = s.coach.notices

/-- R115: a line in IDLE begins its next frame once it has been recessive for 4 bit times, the clock standing at that moment or later (log
entries 3 and 40), and a start that cannot occur changes nothing (log entry 3). A service slot sends a stale name block before the oldest
SHOW and that before a LEVEL, and the item leaves its place then: the block's mark, the head of the queue or the LEVEL pending mark. A
module slot is an IDENT while that is pending, else a POLL. Nothing else of the line changes: a module slot leaves the SHOW queue, the stale
name blocks and the module records as they are. -/
def Obligations.FrameStartFollowsTheSchedule : Prop :=
  ∀ (s : State) (i : Fin 4) (l : SeatLine), s.inReset = false → l = s.coach.lines.get i → l.modules.length = 16 →
    (l.activity ≠ .idle ∨ s.levels.get i = .dominant ∨ l.moduleCount = 0 → exec (.seatFrameStart i) s = .next s)
    ∧ (l.activity = .idle → s.levels.get i = .recessive → l.moduleCount ≠ 0 → ∃ t f y,
        exec (.seatFrameStart i) s = .next t ∧ t = { s with now := t.now, coach := { s.coach with lines := s.coach.lines.set i y } }
        ∧ t.now = max s.now (l.recessiveSince + 4 * l.bitRate.period) ∧ y.activity = .frame f ∧ f.start = t.now ∧ f.begun = []
        ∧ y.round = l.round ∧ y.dominantSince = none
        ∧ (l.serviceNext = false → f.module = Fin.ofNat 16 l.round ∧ f.data = [] ∧ y.serviceNext = true
            ∧ y = { l with activity := .frame f, serviceNext := true, dominantSince := none }
            ∧ f.cmd = if (l.module (Fin.ofNat 16 l.round)).identPending then .ident else .poll)
        ∧ (l.serviceNext = true → l.stale ≠ 0 → f.cmd = .names ∧ f.data = s.coach.namesData f.block ∧ f.block < 16
            ∧ l.stale.getLsbD f.block = true ∧ y.stale.getLsbD f.block = false ∧ (∀ k, k < f.block → l.stale.getLsbD k = false)
            ∧ (∀ k, k < 16 → k ≠ f.block → y.stale.getLsbD k = l.stale.getLsbD k)
            ∧ y = { l with activity := .frame f, stale := y.stale, serviceNext := false, dominantSince := none })
        ∧ (∀ m ms, l.serviceNext = true → l.stale = 0 → l.showQueue = m :: ms →
            f.cmd = .showContent ∧ f.module = m ∧ f.data = s.coach.showData i m
            ∧ y = { l with activity := .frame f, showQueue := ms, serviceNext := false, dominantSince := none })
        ∧ (∀ m, l.serviceNext = true → l.stale = 0 → l.showQueue = [] → (l.module m).levelPending = true →
            (∀ k : Fin 16, k < m → (l.module k).levelPending = false) →
            f.cmd = .level ∧ f.module = m ∧ f.data = [BitVec.ofNat 8 l.labelLevel]
            ∧ y = { l with activity := .frame f, modules := y.modules, serviceNext := false, dominantSince := none }
            ∧ y.module m = { l.module m with levelPending := false } ∧ ∀ k, k ≠ m → y.module k = l.module k)
        ∧ (l.serviceNext = true → l.stale = 0 → l.showQueue = [] → (∀ m, (l.module m).levelPending = false) →
            f.module = Fin.ofNat 16 l.round ∧ f.data = []
            ∧ f.cmd = (if (l.module (Fin.ofNat 16 l.round)).identPending then .ident else .poll)
            ∧ y = { l with activity := .frame f, serviceNext := true, dominantSince := none }))

/-- R109 to R111: a frame carries the sync character 0xA5, an address character of module and command with an odd number of ones, and in SHOW,
LEVEL and NAMES its data and the check character that brings their sum to 255; each character takes a dominant start bit, its bits from bit
0, and a recessive stop bit. R105: the line state follows the bit times since the break began, and while a module answers the characters
that have arrived, CHECK standing for its check character (log entry 20). R113: a character begins at a level change while none is being
received, and has arrived in the middle of its stop bit. R114: the dominant run counts what others drive, and without that the dominant bits
that the part itself sends in a row, in whole periods (log entries 20 and 40); on a STUCK line what it reads is the model's choice (log entry
47). -/
def Obligations.FramesCarryTheirCharacters : Prop :=
  ∀ (l : SeatLine) (f : SeatFrame) (now : Nat), ∃ address rest n, address = addressChar f.module f.cmd
    ∧ n = (now - f.start) / l.bitRate.period ∧ f.chars = 0xA5#8 :: address :: rest
    ∧ (∀ k, k < 4 → address.getLsbD k = f.module.val.testBit k) ∧ (∀ k, k < 3 → address.getLsbD (4 + k) = f.cmd.number.testBit k)
    ∧ ((List.range 8).filter fun k => address.getLsbD k).length % 2 = 1
    ∧ (f.cmd = .poll ∨ f.cmd = .ident → rest = [])
    ∧ (f.cmd ≠ .poll → f.cmd ≠ .ident → ∃ check, rest = f.data ++ [check] ∧ (address :: rest).foldl checkAdd 0 = 255)
    ∧ (∀ bit, l.drives f bit = true ↔ ∃ c m, bit = l.breakBits + 1 + m ∧ f.chars[m / 10]? = some c
        ∧ (m % 10 = 0 ∨ ∃ k, k < 8 ∧ m % 10 = k + 1 ∧ c.getLsbD k = false))
    ∧ (l.activity = .frame f →
        (n < l.breakBits → l.state now = .break') ∧ (n = l.breakBits → l.state now = .delimiter)
        ∧ (l.breakBits + 1 ≤ n → n < l.breakBits + 11 → l.state now = .sync)
        ∧ (l.breakBits + 11 ≤ n → n < l.breakBits + 21 → l.state now = .address)
        ∧ (l.breakBits + 21 ≤ n → f.cmd ≠ .poll → f.cmd ≠ .ident → l.state now
            = if n < l.breakBits + 21 + 10 * f.data.length then .dataOut else .check)
        ∧ (∀ k, (f.cmd = .poll ∧ k = 4) ∨ (f.cmd = .ident ∧ k = 2) → l.breakBits + 21 ≤ n → l.state now
            = if (f.begun.filter fun t => t + 19 * l.bitRate.period / 2 ≤ now).length < k then .dataIn else .check)
        ∧ (∀ first, l.dominantSince = none → first ≤ n → (∀ k, first ≤ k → k ≤ n → l.drives f k = true) →
            (∀ k, first = k + 1 → l.drives f k = false) →
            l.dominantRun now = min 30 ((now - (f.start + first * l.bitRate.period)) / l.bitRate.period))
        ∧ (l.dominantSince = none → l.drives f n = false → now ≠ f.start + n * l.bitRate.period → l.dominantRun now = 0))
    ∧ (∀ t, l.dominantSince = some t → l.dominantRun now = min 30 ((now - t) / l.bitRate.period))
    ∧ (∀ k, (f.cmd = .poll ∧ k = 4) ∨ (f.cmd = .ident ∧ k = 2) → l.breakBits + 21 ≤ n → f.begun.length ≤ k →
        (∀ t ∈ f.begun, t + 19 * l.bitRate.period / 2 ≤ now) → l.hear now f = { f with begun := f.begun ++ [now] })
    ∧ ((f.cmd ≠ .poll ∧ f.cmd ≠ .ident) ∨ n < l.breakBits + 21 ∨ (∃ t ∈ f.begun, now < t + 19 * l.bitRate.period / 2) →
        l.hear now f = f)

/-- R113, R120 to R123: a response that ends with a right check character is a success and takes the line to IDLE. After a POLL or an IDENT
the module has no failures, and after a POLL a place past settling takes its sample; after an IDENT the kind and place count are recorded, 0
taken as 1 and above 2 as 2, and the IDENT pending mark is cleared. A WAKING or FAULTY module recovers by either: its places present are
reseeded, it becomes HEALTHY with the LEVEL pending mark and, after a POLL, the IDENT pending mark set, it joins the SHOW queue once if it
is served, and the name blocks of the active list become stale. A FAULTY module that recovers raises MODULE_RECOVERED with its lowest seat
number and its line and module, a WAKING one no report. A wrong check character fails the transfer with CHECK_MISMATCH. The module slot's
round position advances by one, from count - 1 back to 0. R139: the coach side is as the recovery, the reseeds of a changed kind or place
count, the UNKNOWN of a place that is not there and the samples leave it, in that order and in place order, each with its hand-over. The
model's choice (log entry 45): a response commanded while the part still sends the opening of the frame is taken too. -/
def Obligations.ResponsesAreTakenOrFail : Prop :=
  ∀ (s : State) (i : Fin 4) (l : SeatLine) (f : SeatFrame) (check : Byte), s.inReset = false → l = s.coach.lines.get i →
    l.activity = .frame f → l.modules.length = 16 → s.coach.sensors.length = 128 → ∃ seat : Option Nat, ∃ told : State → Prop,
    ∃ present : Option Nat → List PlaceId, ∃ reseeded back recovered : Coach, ∃ y : SeatLine, ∃ mod x : Module, ∃ recovers : Prop,
    ∃ left : Coach → Module → State → Prop,
    (∀ n, seat = some n ↔ (∃ z ∈ s.coach.seats, z.line = i ∧ z.module = f.module ∧ z.number = n)
        ∧ ∀ z ∈ s.coach.seats, z.line = i → z.module = f.module → n ≤ z.number)
    ∧ (∀ n, present n = if n = some 1 then [⟨i, f.module, 0⟩] else [⟨i, f.module, 0⟩, ⟨i, f.module, 1⟩])
    ∧ mod = l.module f.module ∧ recovers = (mod.health = .waking ∨ mod.health = .faulty)
    ∧ (recovers → reseeded = (present mod.places).foldl (Coach.reseedPlace s.env) s.coach
        ∧ x = { mod with health := .healthy, failures := 0, levelPending := true, identPending := x.identPending }
        ∧ (f.cmd = .poll → x.identPending = true) ∧ (f.cmd = .ident → x.identPending = mod.identPending)
        ∧ (∀ b, b < 16 → (y.stale.getLsbD b = true ↔ l.stale.getLsbD b = true ∨ 4 * b < s.coach.journey.list.length))
        ∧ (l.moduleCount ≤ f.module.val ∨ f.module ∈ (reseeded.lines.get i).showQueue → y.showQueue = (reseeded.lines.get i).showQueue)
        ∧ (f.module.val < l.moduleCount → f.module ∉ (reseeded.lines.get i).showQueue →
            y.showQueue = (reseeded.lines.get i).showQueue ++ [f.module]))
    ∧ (¬ recovers → reseeded = s.coach ∧ x = { mod with failures := 0 } ∧ y.stale = l.stale ∧ y.showQueue = l.showQueue)
    ∧ y = { reseeded.lines.get i with modules := l.modules.set f.module.val x, stale := y.stale, showQueue := y.showQueue }
    ∧ back = { reseeded with lines := reseeded.lines.set i y }
    ∧ recovered = (if mod.health = .faulty then back.raise s.env
        ⟨.moduleRecovered, none, seat, none, s.coach.position.estimate / 65536000, .none, some (i.val * 16 + f.module.val : Nat)⟩ else back)
    ∧ (∀ d z t, left d z t = (t = { s with coach := { d with lines := d.lines.set i { d.lines.get i with
        activity := .idle, recessiveSince := s.now, round := if l.round + 1 < l.moduleCount then l.round + 1 else 0
        modules := l.modules.set f.module.val z } } }))
    ∧ (∀ (c0 c1 : BitVec 16) t, f.cmd = .poll → check = checkChar (pollChars f c0 c1) → exec (.pollResponse i c0 c1 check) s = .next t →
        left (((present mod.places).zip [c0, c1]).foldl (fun d y => d.samplePlace s.env y.2.toNat y.1) recovered) x t)
    ∧ (∀ (kind places : Byte) t n again d, f.cmd = .ident → check = checkChar [addressChar f.module f.cmd, kind, places] →
        exec (.identResponse i kind places check) s = .next t → n = max 1 (min 2 places.toNat) →
        ((again = present (some n) ∧ (∃ k, (l.module f.module).kind = some k
            ∧ ((l.module f.module).kind ≠ some kind ∨ (l.module f.module).places ≠ some n)))
          ∨ (again = [] ∧ ((l.module f.module).kind = none
            ∨ ((l.module f.module).kind = some kind ∧ (l.module f.module).places = some n)))) →
        d = again.foldl (Coach.reseedPlace s.env) recovered → left (if n = 1 then d.losePlace s.env ⟨i, f.module, 1⟩ else d)
          { x with kind := some kind, places := some n, identPending := false } t
        ∧ (recovers → (t.coach.lines.get i).module f.module
            = { mod with health := .healthy, failures := 0, kind := some kind, places := some n, identPending := false, levelPending := true })
        ∧ (¬ recovers → (t.coach.lines.get i).module f.module
            = { mod with failures := 0, kind := some kind, places := some n, identPending := false }))
    ∧ (∀ t : State, (∃ c0 c1, f.cmd = .poll ∧ check = checkChar (pollChars f c0 c1) ∧ exec (.pollResponse i c0 c1 check) s = .next t)
          ∨ (∃ kind places, f.cmd = .ident ∧ check = checkChar [addressChar f.module f.cmd, kind, places]
            ∧ exec (.identResponse i kind places check) s = .next t) →
        (∀ m, m ≠ f.module → (t.coach.lines.get i).module m = l.module m)
        ∧ (recovers → f.module.val < l.moduleCount → f.module ∈ (t.coach.lines.get i).showQueue)
        ∧ (∀ b, b < 16 → ((t.coach.lines.get i).stale.getLsbD b = true
            ↔ l.stale.getLsbD b = true ∨ (recovers ∧ 4 * b < s.coach.journey.list.length))))
    ∧ (∀ t, told t = ∀ p, t.coach.reports p = (if (l.module f.module).health = .faulty then s.coach.raise s.env
        ⟨.moduleRecovered, none, seat, none, s.coach.position.estimate / 65536000, .none, some (i.val * 16 + f.module.val : Nat)⟩
        else s.coach).reports p)
    ∧ (∀ c0 c1 : BitVec 16, f.cmd = .poll → check = checkChar (pollChars f c0 c1) → (l.module f.module).health = .healthy → ∃ t,
      exec (.pollResponse i c0 c1 check) s = .next t ∧ SameOutside s t ∧ t.consist = s.consist
      ∧ (t.coach.lines.get i).activity = .idle ∧ (t.coach.lines.get i).recessiveSince = s.now
      ∧ ((t.coach.lines.get i).module f.module) = { l.module f.module with failures := 0 }
      ∧ t.coach.sensor ⟨i, f.module, 0⟩ = (s.coach.sensor ⟨i, f.module, 0⟩).sample s.params c0.toNat
      ∧ ((l.module f.module).places ≠ some 1 →
          t.coach.sensor ⟨i, f.module, 1⟩ = (s.coach.sensor ⟨i, f.module, 1⟩).sample s.params c1.toNat)
      ∧ ((l.module f.module).places = some 1 → t.coach.sensor ⟨i, f.module, 1⟩ = s.coach.sensor ⟨i, f.module, 1⟩)
      ∧ t.coach.journey = s.coach.journey ∧ t.coach.position = s.coach.position)
    ∧ (∀ c0 c1 : BitVec 16, f.cmd = .poll → check = checkChar (pollChars f c0 c1) →
        (l.module f.module).health = .waking ∨ (l.module f.module).health = .faulty → ∃ t,
      exec (.pollResponse i c0 c1 check) s = .next t ∧ SameOutside s t ∧ t.consist = s.consist
      ∧ (t.coach.lines.get i).activity = .idle ∧ t.coach.journey = s.coach.journey ∧ t.coach.position = s.coach.position
      ∧ ((t.coach.lines.get i).module f.module).health = .healthy ∧ ((t.coach.lines.get i).module f.module).failures = 0
      ∧ ((t.coach.lines.get i).module f.module).levelPending = true ∧ ((t.coach.lines.get i).module f.module).identPending = true ∧ told t
      ∧ t.coach.sensor ⟨i, f.module, 0⟩ = ⟨.settling, true, some (c0.toNat * 256), some (c0.toNat * 256), 0, 0⟩)
    ∧ (∀ c0 c1 : BitVec 16, f.cmd = .poll → check ≠ checkChar (pollChars f c0 c1) → exec (.pollResponse i c0 c1 check) s
        = .next (s.onCoach fun e c => c.failTransfer e i f .checkMismatch))
    ∧ (∀ kind places : Byte, f.cmd = .ident → check = checkChar [addressChar f.module f.cmd, kind, places] → ∃ t,
      exec (.identResponse i kind places check) s = .next t ∧ SameOutside s t ∧ t.consist = s.consist
      ∧ (t.coach.lines.get i).activity = .idle
      ∧ ((t.coach.lines.get i).module f.module).kind = some kind
      ∧ ((t.coach.lines.get i).module f.module).places = some (max 1 (min 2 places.toNat))
      ∧ ((t.coach.lines.get i).module f.module).identPending = false ∧ ((t.coach.lines.get i).module f.module).failures = 0 ∧ told t
      ∧ (places.toNat ≤ 1 → t.coach.sensor ⟨i, f.module, 1⟩ = ⟨.unknown, false, none, none, 0, 0⟩)
      ∧ t.coach.journey = s.coach.journey ∧ t.coach.position = s.coach.position)
    ∧ (∀ kind places : Byte, f.cmd = .ident → check ≠ checkChar [addressChar f.module f.cmd, kind, places] →
        exec (.identResponse i kind places check) s = .next (s.onCoach fun e c => c.failTransfer e i f .checkMismatch))

/-- R109, R112, R113, R120: a SHOW, LEVEL or NAMES frame sent to its end takes the line to IDLE and changes nothing else of it. A transfer that
fails ends with its error: an allowed time that runs out with no character or with too few, a bad stop bit of a module's character, a level
read back that differs from the level sent. The model's choices: the events of a frame that is not in progress have no effect (log entry 3),
FRAMING in the opening of a frame is taken (log entry 45), and an ECHO_MISMATCH is found by its command alone (log entry 49). -/
def Obligations.TransfersEndSentOrWithTheirError : Prop :=
  ∀ (s : State) (i : Fin 4) (l : SeatLine) (f : SeatFrame) (n : Nat), s.inReset = false → l = s.coach.lines.get i → l.activity = .frame f →
    (∃ t : State, t.now = max s.now (f.start + (l.breakBits + 21 + 10 * (f.data.length + 1)) * l.bitRate.period)
      ∧ t = { s with now := t.now, coach := { s.coach with
          lines := s.coach.lines.set i { l with activity := .idle, recessiveSince := t.now } } }
      ∧ (f.cmd = .showContent → exec (.showSent i) s = .next t ∧ exec (.levelSent i) s = .next s ∧ exec (.namesSent i) s = .next s)
      ∧ (f.cmd = .level → exec (.levelSent i) s = .next t ∧ exec (.showSent i) s = .next s ∧ exec (.namesSent i) s = .next s)
      ∧ (f.cmd = .names → exec (.namesSent i) s = .next t ∧ exec (.showSent i) s = .next s ∧ exec (.levelSent i) s = .next s))
    ∧ (∀ k : Nat, (f.cmd = .poll ∧ k = 4) ∨ (f.cmd = .ident ∧ k = 2) → n ≤ k → ∃ u : State,
      u = { s with now := max s.now (f.start + (l.breakBits + 21 + l.rtFactor * (k + 1)) * l.bitRate.period) }
      ∧ exec (.responseTimeout i n) s
        = .next (u.onCoach fun e c => c.failTransfer e i f (if n = 0 then .noResponse else .shortResponse)))
    ∧ (f.cmd = .poll ∨ f.cmd = .ident → exec (.framing i) s = .next (s.onCoach fun e c => c.failTransfer e i f .framing))
    ∧ (f.cmd ≠ .poll → f.cmd ≠ .ident → exec (.framing i) s = .next s ∧ exec (.responseTimeout i n) s = .next s)
    ∧ ((f.cmd ≠ .poll ∧ f.cmd ≠ .ident) ∨ (s.now - f.start) / l.bitRate.period < l.breakBits + 21 → ∃ u : State,
      u = { s with now := max s.now (f.start + ((s.now - f.start) / l.bitRate.period + 1) * l.bitRate.period) }
      ∧ exec (.echoMismatch i) s = .next (u.onCoach fun e c => c.failTransfer e i f .echoMismatch))

/-- R115, R118, R120: a failed transfer takes the line to IDLE, puts back the item of a service frame, advances the round position after a
POLL or an IDENT, and counts one failure against its module, holding at FAULT_COUNT; a WAKING or HEALTHY module that reaches it becomes
FAULTY, its places are handed UNKNOWN in place order (R139), and it raises MODULE_FAULT with its lowest seat number and its line and module;
no other failure raises a report. NAMES counts against none. The other modules of the line keep their records, and the other lines
everything but their SHOW queues, which take the modules whose display content the lost places change. -/
def Obligations.AFailedTransferCountsAgainstItsModule : Prop :=
  ∀ (e : Env) (c d : Coach) (i : Fin 4) (l : SeatLine) (f : SeatFrame) (err : LineError), l = c.lines.get i → l.modules.length = 16 →
    c.sensors.length = 128 → d = c.failTransfer e i f err → ∃ seat : Option Nat, ∃ falls : Prop, ∃ counted lost : Coach, ∃ x : Module, ∃ y : SeatLine,
    (∀ n, seat = some n ↔ (∃ z ∈ c.seats, z.line = i ∧ z.module = f.module ∧ z.number = n)
        ∧ ∀ z ∈ c.seats, z.line = i → z.module = f.module → n ≤ z.number)
    ∧ falls = (f.cmd ≠ .names ∧ l.faultCount ≤ (l.module f.module).failures + 1
        ∧ ((l.module f.module).health = .waking ∨ (l.module f.module).health = .healthy))
    ∧ x = { l.module f.module with failures := min l.faultCount ((l.module f.module).failures + 1), lastError := err, health := x.health }
    ∧ (falls → x.health = .faulty) ∧ (¬ falls → x.health = (l.module f.module).health)
    ∧ (f.cmd = .names → counted = c)
    ∧ (f.cmd ≠ .names → counted = { c with lines := c.lines.set i { l with modules := l.modules.set f.module.val x } })
    ∧ (¬ falls → lost = counted)
    ∧ (falls → lost = Coach.raise e ⟨.moduleFault, none, seat, none, c.position.estimate / 65536000, .none, some (i.val * 16 + f.module.val : Nat)⟩
        ((counted.losePlace e ⟨i, f.module, 0⟩).losePlace e ⟨i, f.module, 1⟩))
    ∧ d = { lost with lines := lost.lines.set i y }
    ∧ y = { lost.lines.get i with
        activity := .idle, recessiveSince := e.now, round := y.round, stale := y.stale, showQueue := y.showQueue, modules := y.modules }
    ∧ (f.cmd = .poll ∨ f.cmd = .ident → y.round = if l.round + 1 < l.moduleCount then l.round + 1 else 0)
    ∧ (f.cmd ≠ .poll → f.cmd ≠ .ident → y.round = l.round)
    ∧ (∀ b, b < 16 → (y.stale.getLsbD b = true ↔ l.stale.getLsbD b = true ∨ (f.cmd = .names ∧ b = f.block)))
    ∧ (f.cmd = .showContent → f.module ∉ (lost.lines.get i).showQueue → y.showQueue = (lost.lines.get i).showQueue ++ [f.module])
    ∧ (f.cmd ≠ .showContent ∨ f.module ∈ (lost.lines.get i).showQueue → y.showQueue = (lost.lines.get i).showQueue)
    ∧ (f.cmd = .names → y.modules = l.modules)
    ∧ (f.cmd ≠ .names → y.modules = l.modules.set f.module.val { x with levelPending := x.levelPending || f.cmd == .level })
    ∧ (∀ m, m ≠ f.module → (d.lines.get i).module m = l.module m)
    ∧ (∀ j, j ≠ i → ∃ more, d.lines.get j = { c.lines.get j with showQueue := (c.lines.get j).showQueue ++ more } ∧ (¬ falls → more = []))
    ∧ (d.lines.get i).activity = .idle ∧ (d.lines.get i).recessiveSince = e.now
    ∧ (f.cmd = .names → (d.lines.get i).modules = l.modules ∧ d.sensors = c.sensors ∧ d.reportsA = c.reportsA ∧ d.reportsB = c.reportsB
        ∧ (f.block < 16 → (d.lines.get i).stale.getLsbD f.block = true))
    ∧ (f.cmd ≠ .names → ((d.lines.get i).module f.module).failures = min l.faultCount ((l.module f.module).failures + 1)
        ∧ ((d.lines.get i).module f.module).lastError = err)
    ∧ (f.cmd = .showContent → f.module ∈ (d.lines.get i).showQueue)
    ∧ (f.cmd = .level → ((d.lines.get i).module f.module).levelPending = true)
    ∧ (f.cmd ≠ .names → (l.module f.module).failures + 1 < l.faultCount ∨ (l.module f.module).health = .faulty →
        ((d.lines.get i).module f.module).health = (l.module f.module).health ∧ d.sensors = c.sensors ∧ d.seats = c.seats ∧ d.reportsA = c.reportsA
          ∧ d.reportsB = c.reportsB)
    ∧ (f.cmd ≠ .names → l.faultCount ≤ (l.module f.module).failures + 1 →
        (l.module f.module).health = .waking ∨ (l.module f.module).health = .healthy →
        ((d.lines.get i).module f.module).health = .faulty
          ∧ (∃ u : Coach, u = (c.losePlace e ⟨i, f.module, 0⟩).losePlace e ⟨i, f.module, 1⟩ ∧ d.seats = u.seats ∧ d.sensors = u.sensors)
          ∧ (∀ p, d.sensor ⟨i, f.module, p⟩ = ⟨.unknown, false, none, none, 0, 0⟩)
          ∧ ∀ p, d.reports p = (c.raise e ⟨.moduleFault, none, seat, none, c.position.estimate / 65536000, .none,
              some (i.val * 16 + f.module.val : Nat)⟩).reports p)
    ∧ d.journey = c.journey ∧ d.position = c.position ∧ d.notices = c.notices ∧ d.map = c.map

/-- R114, R115: LINE_STUCK on a running line fails the transfer in progress with the error LINE_STUCK, makes the line STUCK, its HEALTHY
modules WAKING with failure count 0 and IDENT pending, hands UNKNOWN to its places in module id and place order (R139), and sets
SEAT_LINE_FAULT on both line ports, at the end of 30 bit times of dominant level or later; after 100 ms of recessive level the line is in
IDLE, and SEAT_LINE_FAULT is clear when no other line is STUCK. A change of a line's level starts its recessive count or, on a running line,
its dominant run: from now, in a break from the end of the break, and in a frame from the start of the dominant bits that the part sends
just then; in an answer it may begin a character. It changes nothing else. The model's choices: the levels as inputs (log entry 19), the run
and the characters of an answer (log entry 20), whole bit times (log entry 40), the dominant run of a STUCK line, 30 until the next
recessive level and then 0 (log entry 47), the clock at these events, and events that cannot occur (log entry 3). -/
def Obligations.StuckWatchAndLevels : Prop :=
  ∀ (s : State) (i : Fin 4) (l : SeatLine), s.inReset = false → l = s.coach.lines.get i → s.coach.sensors.length = 128 → l.modules.length = 16 →
    (l.activity = .off ∨ l.activity = .setup ∨ l.activity = .stuck → exec (.lineStuck i) s = .next s)
    ∧ (l.activity = .idle ∨ (∃ f, l.activity = .frame f) → ∃ t, exec (.lineStuck i) s = .next t
        ∧ t.consist = s.consist ∧ t.portA = s.portA ∧ t.portB = s.portB ∧ t.crew = s.crew ∧ t.params = s.params
        ∧ t.levels = s.levels.set i .dominant ∧ (t.coach.lines.get i).activity = .stuck
        ∧ (∀ d, l.dominantSince = some d → t.now = max s.now (d + 30 * l.bitRate.period))
        ∧ (l.dominantSince = none → l.activity = .idle → t.now = s.now + 30 * l.bitRate.period)
        ∧ (∃ c : Coach, (l.activity = .idle → c = s.coach) ∧ (∀ f, l.activity = .frame f → c = s.coach.failTransfer t.env i f .lineStuck)
            ∧ (∀ m x, x = (c.lines.get i).module m →
                (x.health = .healthy → (t.coach.lines.get i).module m = { x with health := .waking, failures := 0, identPending := true })
                ∧ (x.health ≠ .healthy → (t.coach.lines.get i).module m = x))
            ∧ (∃ d : Coach, d = ((List.finRange 16).flatMap fun m => [(⟨i, m, 0⟩ : PlaceId), ⟨i, m, 1⟩]).foldl (Coach.losePlace t.env) c
                ∧ t.coach.seats = d.seats ∧ t.coach.sensors = d.sensors)
            ∧ ∀ p, t.coach.reports p = { c.reports p with flags := { (c.reports p).flags with seatLineFault := true } })
        ∧ (t.coach.lines.get i).dominantRun t.now = 30
        ∧ (∀ m, ((t.coach.lines.get i).module m).health ≠ .healthy)
        ∧ (∀ m p, t.coach.sensor ⟨i, m, p⟩ = ⟨.unknown, false, none, none, 0, 0⟩)
        ∧ t.coach.reportsA.flags.seatLineFault = true ∧ t.coach.reportsB.flags.seatLineFault = true
        ∧ t.coach.journey = s.coach.journey ∧ t.coach.position = s.coach.position)
    ∧ (l.activity ≠ .stuck → exec (.stuckRelease i) s = .next s)
    ∧ (l.activity = .stuck → ∃ t, exec (.stuckRelease i) s = .next t
        ∧ t.now = max s.now ((if s.levels.get i = .recessive then l.recessiveSince else s.now) + 2400000)
        ∧ t.coach.lines = s.coach.lines.set i { l with activity := .idle, recessiveSince := t.now, round := 0, dominantSince := none }
        ∧ t.coach.sensors = s.coach.sensors ∧ t.coach.seats = s.coach.seats ∧ t.coach.journey = s.coach.journey
        ∧ ((∀ k, k ≠ i → (s.coach.lines.get k).activity ≠ .stuck) →
            t.coach.reportsA.flags.seatLineFault = false ∧ t.coach.reportsB.flags.seatLineFault = false)
        ∧ ((∃ k, k ≠ i ∧ (s.coach.lines.get k).activity = .stuck) → t.coach.reportsA = s.coach.reportsA ∧ t.coach.reportsB = s.coach.reportsB))
    ∧ (s.levels.get i = .dominant → exec (.seatLineLevelChange i .recessive) s = .next { s with
        levels := s.levels.set i .recessive
        coach := { s.coach with lines := s.coach.lines.set i { l with dominantSince := none, recessiveSince := s.now } } })
    ∧ (∀ g since, s.levels.get i = .recessive →
        (l.activity = .idle ∧ g = .idle ∧ since = some s.now)
        ∨ (l.running = false ∧ g = l.activity ∧ since = none)
        ∨ (∃ f, l.activity = .frame f ∧ (s.now - f.start) / l.bitRate.period < l.breakBits ∧ g = .frame f
            ∧ since = some (f.start + l.breakBits * l.bitRate.period))
        ∨ (∃ f, l.activity = .frame f ∧ f.start ≤ s.now ∧ l.breakBits ≤ (s.now - f.start) / l.bitRate.period ∧ g = .frame (l.hear s.now f)
            ∧ since = some ((l.drivenSince f s.now).getD s.now)) →
        exec (.seatLineLevelChange i .dominant) s = .next { s with
          levels := s.levels.set i .dominant
          coach := { s.coach with lines := s.coach.lines.set i { l with activity := g, dominantSince := since } } })
    ∧ exec (.seatLineLevelChange i (s.levels.get i)) s = .next s

/-! ## Axle and position (chapters 3 and 4) -/

/-- R74 to R76: POSITION FIX of the lead is judged in order; an ESTIMATE fix while FIXED is ignored; every other fix sets the estimate to
its position, held to 4,000,000 m, drops the window contribution, keeps the motion state and makes the fix state FIXED, with
POSITION_DEGRADED clear; a discrepancy above FIX_TOL raises FIX_JUMP before anything else is raised. The axle unit, with its odometer, is
untouched. R73, R97: a fix state that becomes FIXED is handed to the reservation unit and to the notice unit. R76: a change of the estimate
is handed to the reservation unit, the notice unit and the map unit, in that order, then the arrival of a STATION fix is taken, and after a
change of the estimate progress is evaluated. R19: a STATION fix for next calling at standstill, with no stop and the journey running, is an
arrival there, whatever the distance. The order of the results, the IGNORED flag, discrepancy, fix state and estimate, is the model's (log
entry 11). -/
def Obligations.PositionFixSetsTheEstimate : Prop :=
  ∀ (s : State) (q : LinePort) (m kind : Nat) (stop : Option Nat), s.leads q → ∃ st d at',
    st = (if 4000000 < m then Status.adjusted else .accepted) ∧ at' = min 4000000 m
    ∧ d = ((at' : Nat) : Int) - (s.coach.position.estimate / 65536000 : Nat)
    ∧ (2 < kind ∨ stop = some 0 ∨ stop = some 65535 →
        exec (.positionFix (.line q) m kind stop) s = .next (State.answer (.line q) 20 .badField [] s.renewed))
    ∧ (kind ≤ 2 → stop ≠ some 0 → stop ≠ some 65535 →
        (kind = 2 → s.coach.position.fix = .fixed → exec (.positionFix (.line q) m kind stop) s
            = .next (State.answer (.line q) 20 st
                (1#8 :: intBytes 4 d ++ [1#8] ++ leBytes 4 (s.coach.position.estimate / 65536000)) s.renewed))
        ∧ (kind ≠ 2 ∨ s.coach.position.fix ≠ .fixed → ∃ x, exec (.positionFix (.line q) m kind stop) s
            = .next (State.answer (.line q) 20 st (0#8 :: intBytes 4 d ++ [1#8] ++ leBytes 4 at') x)
          ∧ SameOutside s x ∧ x.consist = s.renewed.consist ∧ x.coach.axle = s.coach.axle ∧ x.coach.sensors = s.coach.sensors
          ∧ x.coach.position.estimate = at' * 65536000 ∧ x.coach.position.contribution = 0 ∧ x.coach.position.fix = .fixed
          ∧ x.coach.position.accepted = s.coach.position.accepted ∧ x.coach.position.motion.stopped = s.coach.position.motion.stopped
          ∧ (∀ k, s.coach.position.motion = .coasting k → x.coach.position.motion = .coasting { k with windows := 0, limit := false })
          ∧ (∃ c fixed c2 c3 c4 : Coach, ∃ flagged : PortReports → PortReports, ∃ named : Nat → StopRec → Prop,
              c = Coach.raiseAll s.env (if s.params.fixTol < d.natAbs then [⟨.fixJump, stop, none, none, at', .none, some d⟩] else []) s.coach
              ∧ (∀ y, flagged y = { y with flags := { y.flags with positionDegraded := false } })
              ∧ fixed = { c with position := { s.coach.position with
                  estimate := at' * 65536000, contribution := 0, motion := x.coach.position.motion, fix := .fixed } }
              ∧ (s.coach.position.fix = .fixed → c2 = fixed)
              ∧ (s.coach.position.fix ≠ .fixed → c2 = Coach.notice s.env .other (Coach.reserveFixed s.env
                  { fixed with reportsA := flagged c.reportsA, reportsB := flagged c.reportsB }))
              ∧ (at' * 65536000 = s.coach.position.estimate → c3 = c2)
              ∧ (at' * 65536000 ≠ s.coach.position.estimate →
                  c3 = ((c2.reservePosition s.env).notice s.env .position).mapTarget s.env)
              ∧ (∀ i r, named i r = (kind = 1 ∧ stop = some r.code ∧ s.coach.position.motion = .standstill
                  ∧ (s.coach.journey.phase = .staged ∨ s.coach.journey.phase = .inService) ∧ s.coach.journey.atStop = none
                  ∧ s.coach.journey.nextCalling = some i ∧ s.coach.journey.list[i]? = some r))
              ∧ (∀ i r, named i r → c4 = c3.arrive s.env i r (max r.position at' + s.params.platformWin))
              ∧ ((∀ i r, ¬ named i r) → c4 = c3)
              ∧ (at' * 65536000 = s.coach.position.estimate → x.coach = c4)
              ∧ (at' * 65536000 ≠ s.coach.position.estimate → x.coach = c4.evaluate s.env))
          ∧ (s.coach.position.motion = .standstill ∨ s.coach.position.motion = .moving →
              x.coach.position.motion = s.coach.position.motion)
          ∧ (∃ jump rs : List Report, ∃ raised : Coach, (s.coach.journey.phase = .empty → s.coach.seats = [] → rs = [])
              ∧ jump = (if s.params.fixTol < d.natAbs then [⟨.fixJump, stop, none, none, at', .none, some d⟩] else [])
              ∧ raised = Coach.raiseAll s.env (jump ++ rs) s.coach
              ∧ ∀ p, x.coach.reports p = { raised.reports p with flags := { (raised.reports p).flags with
                  positionDegraded := (s.coach.position.fix == .fixed) && (raised.reports p).flags.positionDegraded } })
          ∧ (s.coach.journey.phase = .empty → x.coach.journey = s.coach.journey)
          ∧ (∀ code i r, kind = 1 → stop = some code → s.coach.position.motion = .standstill →
              s.coach.journey.phase = .staged ∨ s.coach.journey.phase = .inService → s.coach.journey.atStop = none →
              s.coach.journey.nextCalling = some i → s.coach.journey.list[i]? = some r → r.code = code →
              x.coach.journey.atStop = some i ∧ x.coach.journey.nextCalling = some i
              ∧ x.coach.journey.departurePoint = some (max r.position at' + s.params.platformWin)
              ∧ x.coach.journey.list[i]? = some { r with status := .current }
              ∧ x.coach.journey.lastDeparted = s.coach.journey.lastDeparted
              ∧ x.coach.journey.orientation = (if r.reverse then
                  (if s.coach.journey.orientation = .bForward then .aForward else .bForward) else s.coach.journey.orientation)
              ∧ x.coach.journey.phase = (if nextCall s.coach.journey.list s.consist.portion (i + 1) = none then .terminated
                  else s.coach.journey.phase))))

/-- R43, R44, R46, R47, R50 to R53, R59, R62, R63: an edge is decoded from the change of one channel. While AXLE_FAULT is set only the
sample is taken. An edge in the confirmed direction is applied: odometer, window edge count, FIFO and, unless COASTING, the estimate and the
motion state MOVING. One in another direction is held until REV_EDGES in a row have been seen; that direction is then confirmed and every
held edge applied in order, each on what the one before has left, FIFO, handed-over changes and learnt orientation included. An illegal
transition takes the sample, counts up to 255, and at the eighth of a window sets AXLE_FAULT, discards the held edges, empties the FIFO and
marks the window faulted; it moves no odometer and no estimate. The clock stands at the moment of the stamp (log entry 4); position change
and motion state of an edge are handed on as one (log entry 14), after the orientation that the first edge in STAGED teaches; an edge counts
as the last added also where the estimate is held at an end of its range (log entry 15). -/
def Obligations.AxleEdgesAreFilteredAndApplied : Prop :=
  (∀ (s : State) (ch : AxleChannel) (stamp : Stamp) (pair : Bool × Bool) (d : EdgeDir), s.inReset = false →
    s.coach.axle.pair = some pair → decodeSample pair (toggled ch pair) = .edge d → ∃ t o q fwd, ∃ step : Int, ∃ applied : List Stamp → Prop,
      ∃ push : List Stamp × Bool → Stamp → List Stamp × Bool,
      exec (.axleEdge ch stamp) s = .next t ∧ t.now = momentOf s.now stamp ∧ t.coach.axle.pair = some (toggled ch pair)
      ∧ t = { s with now := t.now, coach := t.coach } ∧ t.coach.sensors = s.coach.sensors
      ∧ o = (if s.coach.journey.phase = .staged ∧ s.coach.journey.orientation = .unset
              then (if d = .towardA then Orientation.aForward else .bForward) else s.coach.journey.orientation)
      ∧ q = s.params.wheelCirc * 65536 / (4 * s.params.axlePpr)
      ∧ fwd = (if o = .bForward then d == .towardB else d == .towardA) ∧ step = (if fwd then (q : Int) else -q)
      ∧ (∀ b x, push ([], b) x = ([x], false)) ∧ (∀ y b x, push ([y], b) x = ([y, x], false))
      ∧ (∀ y z zs b x, push (y :: z :: zs, b) x = ([z, x], true))
      ∧ (∀ ts, applied ts = (t.coach.axle.confirmed = some d
          ∧ t.coach = ts.foldl (fun c x => c.applyEdge t.env d x) { s.coach with axle :=
              { s.coach.axle with pair := some (toggled ch pair), held := [], runDir := none, confirmed := some d } }
          ∧ t.coach.axle.odometer = ts.foldl (fun x _ => saturate64 (x + step)) s.coach.axle.odometer
          ∧ t.coach.axle.edges = min 65535 (s.coach.axle.edges + ts.length)
          ∧ (t.coach.axle.fifo, t.coach.axle.overrun) = ts.foldl push (s.coach.axle.fifo, s.coach.axle.overrun)
          ∧ t.coach.axle.held = [] ∧ t.coach.axle.runDir = none
          ∧ t.coach.position.contribution
            = s.coach.position.contribution + ((t.coach.position.estimate : Int) - s.coach.position.estimate)
          ∧ t.coach.position.accepted = s.coach.position.accepted ∧ t.coach.position.fix = s.coach.position.fix
          ∧ (s.coach.position.motion = .standstill ∨ s.coach.position.motion = .moving →
              t.coach.position.estimate = ts.foldl (fun x _ => moveEstimate x step) s.coach.position.estimate
              ∧ t.coach.position.motion = .moving ∧ t.coach.position.lastForward = some fwd
              ∧ t.coach.axle.stillCount = if s.coach.position.motion = .standstill then 0 else s.coach.axle.stillCount)
          ∧ (∀ k, s.coach.position.motion = .coasting k → t.coach.position = s.coach.position)))
      ∧ (s.coach.axle.fault = true → t.coach = { s.coach with axle := { s.coach.axle with pair := some (toggled ch pair) } })
      ∧ (s.coach.axle.fault = false → s.coach.axle.confirmed = some d → applied [stamp] ∧ ∃ c : Coach,
          (o = s.coach.journey.orientation → c = s.coach)
          ∧ (o ≠ s.coach.journey.orientation →
              c = Coach.notice t.env .other { s.coach with journey := { s.coach.journey with orientation := o } })
          ∧ t.coach = Coach.handPosition t.env s.coach.position { c with position := t.coach.position, axle := t.coach.axle })
      ∧ (s.coach.axle.fault = false → s.coach.axle.confirmed ≠ some d → s.coach.axle.runDir ≠ some d →
          (2 ≤ s.params.revEdges → t.coach = { s.coach with axle :=
            { s.coach.axle with pair := some (toggled ch pair), held := [stamp], runDir := some d } })
          ∧ (s.params.revEdges ≤ 1 → applied [stamp]))
      ∧ (s.coach.axle.fault = false → s.coach.axle.confirmed ≠ some d → s.coach.axle.runDir = some d →
          (s.coach.axle.held.length + 1 < s.params.revEdges → t.coach = { s.coach with axle :=
            { s.coach.axle with pair := some (toggled ch pair), held := s.coach.axle.held ++ [stamp] } })
          ∧ (s.params.revEdges ≤ s.coach.axle.held.length + 1 → applied (s.coach.axle.held ++ [stamp]))))
  ∧ (∀ (e : Env) (c : Coach) (d : EdgeDir) (stamp : Stamp), ∃ c1 : Coach, ∃ o q fwd, ∃ step : Int, ∃ n : Nat, ∃ x : Axle, ∃ p : Position,
      o = (if c.journey.phase = .staged ∧ c.journey.orientation = .unset
            then (if d = .towardA then Orientation.aForward else .bForward) else c.journey.orientation)
      ∧ (o = c.journey.orientation → c1 = c)
      ∧ (o ≠ c.journey.orientation → c1 = Coach.notice e .other { c with journey := { c.journey with orientation := o } })
      ∧ q = e.params.wheelCirc * 65536 / (4 * e.params.axlePpr)
      ∧ fwd = (if o = .bForward then d == .towardB else d == .towardA) ∧ step = (if fwd then (q : Int) else -q)
      ∧ (n : Int) = max 0 (min (4000000000 * 65536) (c.position.estimate + step))
      ∧ c.applyEdge e d stamp = Coach.handPosition e c.position { c1 with position := p, axle := x }
      ∧ x = { c.axle with
          fifo := x.fifo, overrun := x.overrun
          odometer := max (-2 ^ 63) (min (2 ^ 63 - 1) (c.axle.odometer + step)), edges := min 65535 (c.axle.edges + 1)
          stillCount := if c.position.motion = .standstill then 0 else c.axle.stillCount }
      ∧ (c.axle.fifo = [] → x.fifo = [stamp] ∧ x.overrun = false)
      ∧ (∀ y, c.axle.fifo = [y] → x.fifo = [y, stamp] ∧ x.overrun = false)
      ∧ (∀ y z zs, c.axle.fifo = y :: z :: zs → x.fifo = [z, stamp] ∧ x.overrun = true)
      ∧ (∀ k, c.position.motion = .coasting k → p = c.position)
      ∧ (c.position.motion = .standstill ∨ c.position.motion = .moving → p = { c.position with
          estimate := n, contribution := c.position.contribution + ((n : Int) - c.position.estimate), lastForward := some fwd, motion := .moving }))
  ∧ ∀ (s : State) (n : Nat) (x : Axle), s.inReset = false → n = min 255 (s.coach.axle.illegal + 1) →
    x = { s.coach.axle with illegal := n, pair := s.coach.axle.pair.map fun p => (!p.1, !p.2) } →
    (n ≠ 8 → exec .illegalTransition s = .next { s with coach := { s.coach with axle := x } })
    ∧ (n = 8 → exec .illegalTransition s = .next { s with coach := { s.coach with axle :=
        { x with held := [], runDir := none, fifo := [], overrun := false, fault := true, faulted := true } } })

/-- R54 to R58, R62: a window close forms the record of the window, starts the next window with nothing counted, and times it 100 ms on. The
position unit takes the record, the window contribution becomes 0, and what has changed of position and motion state is handed on. The clock
stands at the end of the window, or later (log entry 3). -/
def Obligations.WindowCloseFormsTheRecord : Prop :=
  ∀ (s : State) (d : Nat), s.inReset = false → s.coach.axle.windowAt = some d → ∃ t x q,
    exec .windowClose s = .next t ∧ t = { s with now := max s.now d, coach := t.coach } ∧ x = s.coach.axle
    ∧ q = s.params.wheelCirc * 65536 / (4 * s.params.axlePpr)
    ∧ t.coach.axle.windowAt = some (d + 2400000) ∧ t.coach.axle.edges = 0 ∧ t.coach.axle.illegal = 0 ∧ t.coach.axle.odometer = x.odometer
    ∧ t.coach.axle.fault = (x.fault && x.illegal != 0) ∧ t.coach.axle.faulted = t.coach.axle.fault
    ∧ t.coach.position.contribution = 0 ∧ t.coach.axle.last.edges = x.edges
    ∧ (∃ c h : Coach, c = ({ s.coach with axle := x.close s.params } : Coach).takeRecord t.env (x.close s.params).last
        ∧ h = Coach.handPosition t.env s.coach.position { c with position := { c.position with contribution := 0 } }
        ∧ t.coach = { h with axle := { h.axle with windowAt := some (d + 2400000) } })
    ∧ t.coach.axle.last.still = (t.coach.axle.stillCount == s.params.stillWindows)
    ∧ (x.faulted = true → t.coach.axle.last.method = .none ∧ t.coach.axle.last.speed = none ∧ t.coach.axle.stillCount = 0)
    ∧ (x.faulted = false → 4 ≤ x.edges → t.coach.axle.last.method = .count
        ∧ t.coach.axle.last.speed = some (min 100000 (x.edges * q * 10 / 65536)) ∧ t.coach.axle.stillCount = 0)
    ∧ (∀ a b, x.faulted = false → x.edges < 4 → x.fifo = [a, b] → t.coach.axle.last.method = .period
        ∧ t.coach.axle.last.speed = some (min 100000 (q * 1000000 / (max 1 (b - a).toNat * 65536))))
    ∧ (x.faulted = false → x.edges = 0 → x.fifo.length < 2 → t.coach.axle.last.method = .zero ∧ t.coach.axle.last.speed = some 0
        ∧ t.coach.axle.stillCount = min s.params.stillWindows (x.stillCount + 1))
    ∧ (x.faulted = false → 1 ≤ x.edges → x.edges < 4 → x.fifo.length < 2 → t.coach.axle.last.method = .count
        ∧ t.coach.axle.last.speed = some (min 100000 (x.edges * q * 10 / 65536)))

/-- R58, R63 to R68: what a record does to the motion state. STANDSTILL stays and takes the speed; MOVING becomes STANDSTILL on a still
record, COASTING on a record without speed or on a speed more than SLIDE_LIMIT from an accepted speed of 2000 mm/s or more, and else accepts
the speed. A coast begins at the accepted speed in the direction of the last edge added, the first direction being forward where no edge
was, with the window's contribution taken back, a COAST_BEGIN report with the rejected speed or the note FAULT, and its first coasting window
at once, in which no agreement is taken, and which ends the coast with a COAST_END report where it brings the coast estimate to 0. -/
def Obligations.RecordsMoveTheMotionState : Prop :=
  ∀ (e : Env) (r : WindowRecord) (c : Coach), ∃ d a w fwd back step, d = c.takeRecord e r ∧ a = c.position.accepted
    ∧ w = a - coastDecrement e.params a ∧ fwd = c.position.lastForward.getD true
    ∧ back = moveEstimate c.position.estimate (-c.position.contribution) ∧ step = (w * 65536 / 10 : Nat)
    ∧ (c.position.motion = .standstill → d = { c with position := { c.position with accepted := r.speed.getD 0 } })
    ∧ (c.position.motion = .moving → r.still = true →
        d = { c with position := { c.position with motion := .standstill, accepted := 0 }, axle := { c.axle with fifo := [], overrun := false } })
    ∧ (∀ v, c.position.motion = .moving → r.still = false → r.speed = some v →
        a < 2000 ∨ (v ≤ a + e.params.slideLimit ∧ a ≤ v + e.params.slideLimit) →
        d = { c with position := { c.position with accepted := v } })
    ∧ (c.position.motion = .moving → r.still = false →
        r.speed = none ∨ (∃ v, r.speed = some v ∧ 2000 ≤ a ∧ (a + e.params.slideLimit < v ∨ v + e.params.slideLimit < a)) →
        d.position.contribution = 0 ∧ d.position.estimate = moveEstimate back (if fwd then (step : Int) else -step)
        ∧ (w = 0 → d.position.motion = .standstill ∧ d.position.fix = .degraded)
        ∧ (w ≠ 0 → ∃ l, d.position.motion = .coasting ⟨w, fwd, 0, 1, l⟩
            ∧ d.position.fix = if e.params.coastLimit ≤ 1 then .degraded else c.position.fix)
        ∧ (∃ begins ends : Report, ∃ raised : Coach,
            begins = ⟨.coastBegin, none, none, none, back / 65536000, if r.speed = none then .fault else .none, r.speed.map Int.ofNat⟩
            ∧ ends = ⟨.coastEnd, none, none, none, d.position.estimate / 65536000, .zero, none⟩
            ∧ raised = Coach.raiseAll e (begins :: if w = 0 then [ends] else []) c
            ∧ ∀ p, d.reports p = if (w = 0 ∨ e.params.coastLimit ≤ 1) ∧ c.position.fix ≠ .degraded then
                { raised.reports p with flags := { (raised.reports p).flags with positionDegraded := true } } else raised.reports p))
    ∧ (∀ k, c.position.motion = .coasting k → d = c.coastClose e r false k)
    ∧ (∀ k, c.position.motion = .coasting k → d.position.motion ≠ .standstill → d.position.motion ≠ .moving →
        ∃ k', d.position.motion = .coasting k' ∧ k'.speed ≤ k.speed ∧ 0 < k'.speed ∧ k'.forward = k.forward)
    ∧ d.journey = c.journey ∧ d.sensors = c.sensors

/-- R67 to R73: a coasting window close lowers the coast estimate by at least 1 mm/s until it is 0, advances the estimate by a tenth of it, and
ends the coast at 0 with a DEGRADED fix state or at the third agreement in a row with the coast estimate accepted, each with a COAST_END
report of its note at the estimate as it then stands; a coast that goes on raises none. At the first window of the limit the fix state
becomes DEGRADED. A fix state that becomes DEGRADED sets POSITION_DEGRADED on both ports. -/
def Obligations.CoastingFallsToItsEnd : Prop :=
  ∀ (e : Env) (r : WindowRecord) (began : Bool) (k : Coast) (c : Coach), c.position.motion = .coasting k → ∃ v d step, ∃ limit : Bool,
    ∃ ended : ReportNote → Coach, ∃ flagged : Coach → LinePort → PortReports,
    v = k.speed - coastDecrement e.params k.speed ∧ d = c.coastClose e r began k
    ∧ (0 < k.speed → v < k.speed)
    ∧ step = (v * 65536 / 10 : Nat)
    ∧ d.position.estimate = moveEstimate c.position.estimate (if k.forward then (step : Int) else -step)
    ∧ (limit = true ↔ e.params.coastLimit ≤ min 65535 (k.windows + 1))
    ∧ (∀ note, ended note = c.raise e ⟨.coastEnd, none, none, none, d.position.estimate / 65536000, note, none⟩)
    ∧ (∀ x p, flagged x p = if c.position.fix = .degraded then x.reports p
        else { x.reports p with flags := { (x.reports p).flags with positionDegraded := true } })
    ∧ (v = 0 → d.position.motion = .standstill ∧ d.position.fix = .degraded ∧ d.axle.fifo = []
        ∧ ∀ p, d.reports p = flagged (ended .zero) p)
    ∧ (v ≠ 0 → agrees e.params r began v = true → 2 ≤ k.agree →
        d.position.motion = .moving ∧ d.position.accepted = v ∧ d.position.fix = c.position.fix ∧ ∀ p, d.reports p = (ended .agreed).reports p)
    ∧ (∀ n, v ≠ 0 → (agrees e.params r began v = true ∧ k.agree < 2 ∧ n = k.agree + 1) ∨ (agrees e.params r began v = false ∧ n = 0) →
        d.position.motion = .coasting ⟨v, k.forward, n, min 65535 (k.windows + 1), k.limit || limit⟩
        ∧ (limit = true → k.limit = false → d.position.fix = .degraded ∧ ∀ p, d.reports p = flagged c p)
        ∧ (limit = false ∨ k.limit = true → d.position.fix = c.position.fix ∧ ∀ p, d.reports p = c.reports p))
    ∧ d.journey = c.journey ∧ d.sensors = c.sensors

/-! ## Notices, panels and the map strip (chapters 8 and 9) -/

/-- R146, R147, R149: the checks of POST NOTICE and CANCEL NOTICE in order. A posted notice, with or without a stop, is in the queue under a
fresh id, with the conditions it carries, WAITING where its arm condition does not hold and else ARMED or SHOWN; the answer carries its id
and state. A posted entry takes the first id from the counter on that no entry holds, the counter going past it, and the notice unit takes
the posting and the cancelling as it takes every change. A cancelled one has left the queue; NOTICE_ENDED with cause CANCELLED is reported
for an entry of the lead and for no other. R150: an arrival at the stop of an AT_ARRIVAL entry ends it, a departure or a run-through of the
stop of an ON_DEPARTURE entry ends it with cause DEPARTED. R148: a list change ends a posted entry whose stop is not in the list or not
calling for this coach (STOP_REMOVED), an ON_DEPARTURE one whose stop is left behind (DEPARTED), and a WAITING one whose arm condition names
a stop left behind (UNARMABLE); a run-through ends a WAITING AT_STOP entry of its stop (UNARMABLE). R143: what ends leaves the queue, with
its hold where it is SHOWN, and each entry of the lead raises NOTICE_ENDED with its cause and id, in queue order (the model's choice, log
entry 42). R145: the end tests come first, then the list tests, then regeneration; the EMPTY change empties the queue without a report. -/
def Obligations.NoticesArePostedAndCancelled : Prop :=
  (∀ (e : Env) (c : Coach) (g : NoticeChange), ∃ ended : (Notice → Option Nat) → Coach → Coach → Prop, ∃ regenerates : Prop,
    ∃ calls : Nat → StopRec → Prop,
    (∀ cause b d, ended cause b d = (d = { b with reportsA := d.reportsA, reportsB := d.reportsB, notices := { b.notices with
          queue := b.notices.queue.filter fun n => cause n = none
          hold := if b.notices.shown.any fun n => cause n ≠ none then none else b.notices.hold } }
        ∧ ∀ p, d.reports p = (Coach.raiseAll e (b.notices.queue.filterMap fun n => if n.source = .lead then (cause n).map fun k =>
            ⟨.noticeEnded, n.stop, none, none, b.position.estimate / 65536000, .none, some (k * 256 + n.id : Nat)⟩ else none) b).reports p))
    ∧ regenerates = ((∃ code, g = .departure code ∨ g = .runThrough code) ∨ g = .commit true ∨ g = .commit false ∨ g = .amendment)
    ∧ (g = .cleared → c.noticeQueueStep e g = { c with notices := { c.notices with queue := [], hold := none } })
    ∧ (g ≠ .cleared → ∃ c1 c2 : Coach, ended (endCause g) c c1 ∧ ended (listCause e c1 g) c1 c2
        ∧ (regenerates → c.noticeQueueStep e g = c2.regenerate e g) ∧ (¬ regenerates → c.noticeQueueStep e g = c2))
    ∧ (∀ n, (endCause g n ≠ none ↔ (∃ code, g = .arrival code ∧ n.ends = .atArrival ∧ n.stop = some code)
          ∨ (∃ code, (g = .departure code ∨ g = .runThrough code) ∧ n.ends = .onDeparture ∧ n.stop = some code)
          ∨ ∃ k, g = .ended n.id k)
        ∧ (∀ code, g = .departure code ∨ g = .runThrough code → endCause g n ≠ none → endCause g n = some 3)
        ∧ ∀ k, g = .ended n.id k → endCause g n = some k)
    ∧ (∀ code r, calls code r = ∃ i, findCode c.journey.list code = some i ∧ c.journey.list[i]? = some r ∧ r.callsAt e.portion = true)
    ∧ (∀ n, n.source = .auto ∨ n.stop = none → listCause e c g n = none)
    ∧ (∀ n code, n.source ≠ .auto → n.stop = some code →
        (g = .commit true ∨ g = .commit false ∨ g = .amendment →
          ((∀ r, ¬ calls code r) → listCause e c g n = some 4)
          ∧ ∀ r, calls code r →
            (r.status ≠ .departed → r.status ≠ .runThrough → listCause e c g n = none)
            ∧ (r.status = .departed ∨ r.status = .runThrough →
              (n.ends = .onDeparture → listCause e c g n = some 3)
              ∧ (n.ends ≠ .onDeparture → n.state = .waiting → n.arm ≠ .atOnce → listCause e c g n = some 5)
              ∧ (n.ends ≠ .onDeparture → n.state ≠ .waiting ∨ n.arm = .atOnce → listCause e c g n = none)))
        ∧ (∀ k, g = .runThrough k → (k = code → n.state = .waiting → n.arm = .atStop → listCause e c g n = some 5)
            ∧ (k ≠ code ∨ n.state ≠ .waiting ∨ n.arm ≠ .atStop → listCause e c g n = none))
        ∧ ((∀ k, g ≠ .runThrough k) → g ≠ .commit true → g ≠ .commit false → g ≠ .amendment → listCause e c g n = none)))
  ∧ ∀ (s : State) (p : Port) (r : NoticeReq) (id : Nat), s.controls p → ∃ known past holds : Prop,
    known = (∀ k, r.stop = some k → ∃ i x, findCode s.coach.journey.list k = some i ∧ s.coach.journey.list[i]? = some x
      ∧ x.callsAt s.consist.portion = true)
    ∧ past = (∃ k i x, r.stop = some k ∧ findCode s.coach.journey.list k = some i ∧ s.coach.journey.list[i]? = some x
      ∧ (x.status = .departed ∨ x.status = .passed ∨ x.status = .runThrough))
    ∧ holds = (r.arm = 0 ∨ ∃ k i x, r.stop = some k ∧ findCode s.coach.journey.list k = some i ∧ s.coach.journey.list[i]? = some x
      ∧ (x.status = .current ∨ (r.arm = 1 ∧ codeAt s.coach.journey.list s.coach.journey.nextCalling = some k
        ∧ ((x.position : Int) - r.distance) * 65536000 ≤ s.coach.position.estimate)))
    ∧ (noticeOutside r = true ∨ noticeStopMissing r = true → exec (.postNotice p r) s = .next (State.answer p 21 .badField [] (s.renew p)))
    ∧ (noticeOutside r = false → noticeStopMissing r = false →
        (¬ known → exec (.postNotice p r) s = .next (State.answer p 21 .unknownStop [] (s.renew p)))
        ∧ (known → past → exec (.postNotice p r) s = .next (State.answer p 21 .pastStop [] (s.renew p)))
        ∧ (known → ¬ past → 20 ≤ s.coach.notices.posted → exec (.postNotice p r) s = .next (State.answer p 21 .queueFull [] (s.renew p)))
        ∧ (known → ¬ past → s.coach.notices.posted < 20 → s.coach.notices.queue.length < 256 → ∃ st x n,
          exec (.postNotice p r) s
            = .next (State.answer p 21 st [BitVec.ofNat 8 s.coach.notices.freshId, BitVec.ofNat 8 n.state.code] x)
          ∧ (st = .adjusted ↔ r.ends = 1 ∧ (r.duration = 0 ∨ 3600 < r.duration)) ∧ (st = .adjusted ∨ st = .accepted)
          ∧ (∀ m ∈ s.coach.notices.queue, m.id ≠ s.coach.notices.freshId)
          ∧ (∃ k, k < 256 ∧ s.coach.notices.freshId = (s.coach.notices.nextId + k) % 256
            ∧ ∀ j, j < k → ∃ m ∈ s.coach.notices.queue, m.id = (s.coach.notices.nextId + j) % 256)
          ∧ (∃ m, m = ⟨s.coach.notices.freshId, n.kind, n.source, r.priority, r.stop, r.text, n.arm, n.ends, .waiting, none, none, none⟩
            ∧ x.coach = Coach.notice s.env .posted { s.coach with notices := { s.coach.notices with
                queue := s.coach.notices.queue ++ [m], nextId := (s.coach.notices.freshId + 1) % 256 } })
          ∧ SameOutside s x ∧ x.consist = (s.renew p).consist ∧ x.coach.journey = s.coach.journey ∧ x.coach.position = s.coach.position
          ∧ x.coach.seats.map Seat.bare = s.coach.seats.map Seat.bare ∧ x.coach.reportsA = s.coach.reportsA ∧ x.coach.reportsB = s.coach.reportsB
          ∧ x.coach.notices.queue.map Notice.id = s.coach.notices.queue.map Notice.id ++ [s.coach.notices.freshId]
          ∧ x.coach.notices.queue.getLast? = some n ∧ n.id = s.coach.notices.freshId ∧ n.priority = r.priority ∧ n.text = r.text
          ∧ n.stop = r.stop ∧ n.source = (if p = .crew then .crew else .lead) ∧ n.kind = (if p = .crew then .crewText else .lineText)
          ∧ n.arm = (if r.arm = 0 then .atOnce else if r.arm = 1 then .beforeStop r.distance else .atStop)
          ∧ n.ends = (if r.ends = 0 then .onDeparture else if r.ends = 1 then .afterSeconds (max 1 (min 3600 r.duration)) else .untilCancelled)
          ∧ (holds → n.state = .armed ∨ n.state = .shown) ∧ (¬ holds → n.state = .waiting)))
    ∧ ((∀ n ∈ s.coach.notices.queue, n.id ≠ id) →
        exec (.cancelNotice p id) s = .next (State.answer p 22 .notFound [] (s.renew p)))
    ∧ (∀ n, (s.coach.notices.queue.find? fun n => n.id = id) = some n →
        (n.source = .auto ∨ (n.source = .lead ∧ p = .crew) →
          exec (.cancelNotice p id) s = .next (State.answer p 22 .notOwner [] (s.renew p)))
        ∧ (n.source = .crew ∨ (n.source = .lead ∧ p ≠ .crew) → ∃ x,
          exec (.cancelNotice p id) s = .next (State.answer p 22 .accepted [] x) ∧ x.coach = s.coach.notice s.env (.ended id 1)
          ∧ (∀ m ∈ x.coach.notices.queue, m.id ≠ id) ∧ SameOutside s x ∧ x.consist = (s.renew p).consist
          ∧ x.coach.journey = s.coach.journey ∧ x.coach.position = s.coach.position
          ∧ x.coach.seats.map Seat.bare = s.coach.seats.map Seat.bare
          ∧ ((s.coach.notices.queue.filter fun m => m.id = id) = [n] →
              (n.source = .crew → x.coach.reportsA = s.coach.reportsA ∧ x.coach.reportsB = s.coach.reportsB)
              ∧ (∀ q, n.source = .lead → p = .line q → x.coach.reports q.other = s.coach.reports q.other
                  ∧ x.coach.reports q = (s.coach.reports q).push 
                      ⟨.noticeEnded, n.stop, none, none, s.coach.position.estimate / 65536000, .none, some (256 + id : Nat)⟩))))

/-- R144, R145: regeneration takes away the automatic entries that are no longer for next calling, or all of them when a new journey begins,
keeps the others and the posted ones, and creates at the end of the queue, in the order of R144 (log entry 43), each kind that next calling
wants and that has no entry, so that a kind is never there twice by it; each takes the first id from the counter on that no entry holds, the
counter going past it, and the hold is abandoned when the SHOWN entry is among those taken away. After a change that regenerates, every
NEXT_STOP, ARRIVING and SPLIT_ADVICE entry is for next calling. R149: the arm test makes a WAITING entry ARMED exactly when its condition
holds. R100, R145: seats whose content was right before a change of the notice unit have the right content after it. -/
def Obligations.AutomaticNoticesAreRegenerated : Prop :=
  (∀ (e : Env) (c : Coach) (g : NoticeChange), ∃ d created, ∃ leaves : Notice → Bool, d = c.regenerate e g
    ∧ d = { c with notices := { c.notices with queue := d.notices.queue, nextId := d.notices.nextId, hold := d.notices.hold } }
    ∧ d.notices.queue = (c.notices.queue.filter fun n => !leaves n) ++ created
    ∧ (∀ n ∈ created, ∀ m ∈ c.notices.queue, leaves m = false → m.kind ≠ n.kind)
    ∧ d.notices = created.foldl NoticeUnit.create { c.notices with
        queue := c.notices.queue.filter fun n => !leaves n, hold := d.notices.hold }
    ∧ (∀ n, c.notices.shown = some n → leaves n = true → d.notices.hold = none)
    ∧ ((∀ n, c.notices.shown = some n → leaves n = false) → d.notices.hold = c.notices.hold)
    ∧ (∀ n, leaves n = true ↔ n.source = .auto ∧ (g = .commit true
        ∨ ((n.kind = .nextStop ∨ n.kind = .arriving ∨ n.kind = .splitAdvice) ∧ n.stop ≠ codeAt c.journey.list c.journey.nextCalling)
        ∨ (n.kind = .splitAdvice ∧ ¬ ∃ i r, c.journey.nextCalling = some i ∧ c.journey.list[i]? = some r ∧ r.split = true)
        ∨ (n.kind = .terminus ∧ (g = .commit false ∨ g = .amendment)
            ∧ n.stop ≠ codeAt c.journey.list (lastCallIndex c.journey.list e.portion))))
    ∧ (created.map Notice.kind).Sublist [.nextStop, .arriving, .splitAdvice, .terminus]
    ∧ (∀ n ∈ created, ∃ i r, c.journey.nextCalling = some i ∧ c.journey.list[i]? = some r
        ∧ n.source = .auto ∧ n.stop = some r.code ∧ n.text = none ∧ n.state = .waiting ∧ n.armedAt = none ∧ n.lastShown = none ∧ n.firstShown = none
        ∧ ((n.kind = .nextStop ∧ n.priority = 1 ∧ n.arm = .beforeStop e.params.approachM ∧ n.ends = .atArrival)
          ∨ (n.kind = .arriving ∧ n.priority = 2 ∧ n.arm = .beforeStop e.params.arriveM ∧ n.ends = .onDeparture)
          ∨ (n.kind = .splitAdvice ∧ n.priority = 2 ∧ n.arm = .beforeStop e.params.approachM ∧ n.ends = .onDeparture ∧ r.split = true)
          ∨ (n.kind = .terminus ∧ n.priority = 2 ∧ n.arm = .beforeStop e.params.approachM ∧ n.ends = .untilCancelled
              ∧ nextCall c.journey.list e.portion (i + 1) = none)))
    ∧ (∀ i r, c.journey.nextCalling = some i → c.journey.list[i]? = some r →
        (∃ n ∈ d.notices.queue, n.kind = .nextStop) ∧ (∃ n ∈ d.notices.queue, n.kind = .arriving)
        ∧ (r.split = true → ∃ n ∈ d.notices.queue, n.kind = .splitAdvice)
        ∧ (nextCall c.journey.list e.portion (i + 1) = none → ∃ n ∈ d.notices.queue, n.kind = .terminus))
    ∧ ((∃ code, g = .departure code ∨ g = .runThrough code) ∨ g = .commit true ∨ g = .commit false ∨ g = .amendment →
        ∀ n ∈ (c.notice e g).notices.queue, n.source = .auto → n.kind = .nextStop ∨ n.kind = .arriving ∨ n.kind = .splitAdvice →
          n.stop = codeAt c.journey.list c.journey.nextCalling))
  ∧ (∀ (u : NoticeUnit) (n : Notice), ∃ id, u.create n = { u with queue := u.queue ++ [{ n with id }], nextId := (id + 1) % 256 }
    ∧ (u.queue.length < 256 → (∀ m ∈ u.queue, m.id ≠ id)
      ∧ ∃ k, k < 256 ∧ id = (u.nextId + k) % 256 ∧ ∀ j, j < k → ∃ m ∈ u.queue, m.id = (u.nextId + j) % 256))
  ∧ (∀ (e : Env) (c : Coach) (g : NoticeChange), ∃ d, ∃ holds : Notice → Prop, d = c.armNotices e g
    ∧ d = { c with notices := { c.notices with queue := d.notices.queue } } ∧ d.notices.queue.length = c.notices.queue.length
    ∧ (∀ n, holds n = (n.arm = .atOnce
        ∨ (n.arm ≠ .atOnce ∧ ∃ k i r, n.stop = some k ∧ findCode c.journey.list k = some i ∧ c.journey.list[i]? = some r ∧ r.status = .current)
        ∨ ∃ m, n.arm = .beforeStop m ∧ ((∃ code, g = .runThrough code ∧ n.stop = some code)
          ∨ ∃ k i r, n.stop = some k ∧ codeAt c.journey.list c.journey.nextCalling = some k ∧ findCode c.journey.list k = some i
            ∧ c.journey.list[i]? = some r ∧ ((r.position : Int) - m) * 65536000 ≤ c.position.estimate)))
    ∧ ∀ (k : Nat) (n : Notice), c.notices.queue[k]? = some n →
        (n.state = .waiting → holds n → d.notices.queue[k]? = some { n with state := .armed, armedAt := some (e.now / 24000) })
        ∧ (n.state ≠ .waiting ∨ ¬ holds n → d.notices.queue[k]? = some n))
  ∧ ∀ (e : Env) (c : Coach) (g : NoticeChange), (c.notice e g).journey = c.journey
    ∧ ((∀ y ∈ c.seats, y.content = c.contentOf e y) → ∀ y ∈ (c.notice e g).seats, y.content = (c.notice e g).contentOf e y)

/-- R151: the selection shows the best ARMED entry when none is SHOWN or a higher priority is ARMED, and one of the same priority once the
hold is over; the best has the highest priority, then the earliest showing with none first, then the earliest arming, then the place in the
queue. R152, R159: the entry shown before returns to ARMED, the hold runs from now, and an ARRIVING entry or one of priority 3 sounds the
chime of 300 ms. R157, R158: the door-side output of a side is lit by the at-stop record and by the stop of a SHOWN ARRIVING entry while the
fix state is not DEGRADED, when the platform lies on that side under the orientation, mirrored for a CURRENT stop that carries REVERSE.
R145: a change is taken by the end and list tests and regeneration, then the arm test, where it is one that R149 names, then the selection,
the door-side outputs and the page, each on the state the steps before it have left; last, where the NEXT_STOP and ARRIVING entries or their
states have changed, the reservation unit works out the displayed states again. R155, R156: a page falls due where a selection is made,
where a field of the page differs from the one last compared (the model's record, log entry 23), at SET CLOCK, and at SET TEXT of the text
that the SHOWN entry names; its fields are those of the SHOWN entry and its stop, or of the idle page. -/
def Obligations.NoticeSelectionAndDoors : Prop :=
  (∀ (e : Env) (c : Coach) (g : NoticeChange), ∃ c1 c2 c3 c4 c5 : Coach, ∃ arms : Prop,
    ∃ handed : Coach → List (Nat × NoticeKind × Option Nat × NoticeState),
    arms = (g = .position ∨ (∃ code, g = .arrival code ∨ g = .departure code ∨ g = .runThrough code) ∨ g = .commit true ∨ g = .commit false
      ∨ g = .amendment ∨ g = .posted)
    ∧ c1 = c.noticeQueueStep e g ∧ (arms → c2 = c1.armNotices e g) ∧ (¬ arms → c2 = c1) ∧ c3 = c2.selectNotice e ∧ c4 = c3.evalDoors
    ∧ c4.notices.fields = c.notices.fields
    ∧ c5 = { c4 with notices := { c4.notices with fields := c4.pageFields e, pageDue := c5.notices.pageDue } }
    ∧ (c5.notices.pageDue = true ↔ c.notices.pageDue = true ∨ c2.notices.selected ≠ none ∨ c4.pageFields e ≠ c.notices.fields
        ∨ g = .clockSet ∨ ∃ k n, g = .textSet k ∧ c4.notices.shown = some n ∧ n.text = some k)
    ∧ (∀ d, handed d = (d.notices.queue.filter fun n => n.kind = .nextStop || n.kind = .arriving).map fun n => (n.id, n.kind, n.stop, n.state))
    ∧ (handed c5 = handed c → c.notice e g = c5) ∧ (handed c5 ≠ handed c → c.notice e g = c5.refresh e))
  ∧ (∀ (e : Env) (c : Coach), ∃ f destination, ∃ plain : StopRec → Prop, f = c.pageFields e
    ∧ (c.journey.phase = .empty → destination = none)
    ∧ (c.journey.phase ≠ .empty → destination = (recordAt c.journey.list (lastCallIndex c.journey.list e.portion)).map StopRec.name)
    ∧ (∀ r, plain r = ((r.status = .current ∧ r.reverse = true) ↔ c.journey.orientation = .bForward))
    ∧ (c.notices.shown = none → f = ⟨none, none, none, none, none, .none, none, [], destination, e.coachNumber⟩)
    ∧ ∀ n r, c.notices.shown = some n → r = c.stopOf n.stop →
      f = ⟨some n.id, some n.kind, r.map StopRec.name, r.bind StopRec.platform, r.bind StopRec.arrival, f.door, n.text, f.text, destination,
        e.coachNumber⟩
      ∧ (n.text = none → f.text = []) ∧ (∀ k t, n.text = some k → c.notices.texts[k]? = some t → f.text = t)
      ∧ (r = none → f.door = .none)
      ∧ (∀ y, r = some y → y.status ≠ .current → c.position.fix = .degraded → f.door = .none)
      ∧ ∀ y, r = some y → y.status = .current ∨ c.position.fix ≠ .degraded →
        (f.door = .none ↔ y.side = .none) ∧ (f.door = .both ↔ y.side = .both)
        ∧ (f.door = .side1 ↔ (y.side = .left ∧ plain y) ∨ (y.side = .right ∧ ¬ plain y))
        ∧ (f.door = .side2 ↔ (y.side = .right ∧ plain y) ∨ (y.side = .left ∧ ¬ plain y)))
  ∧ (∀ u : NoticeUnit, ∃ armed, ∃ before : Notice → Notice → Prop, ∃ best : List Notice → Notice → Prop,
    armed = u.queue.filter (fun n => n.state = .armed)
    ∧ (∀ x y, before x y = (y.priority < x.priority ∨ (x.priority = y.priority
        ∧ ((x.lastShown = none ∧ y.lastShown ≠ none) ∨ (∃ t v, x.lastShown = some t ∧ y.lastShown = some v ∧ t < v)
          ∨ (x.lastShown = y.lastShown ∧ x.armedAt.getD 0 < y.armedAt.getD 0)))))
    ∧ (∀ l x, best l x = ∃ pre post, l = pre ++ x :: post ∧ (∀ y ∈ pre, before x y) ∧ ∀ y ∈ post, ¬ before y x)
    ∧ (u.shown = none → (armed = [] → u.selected = none) ∧ (armed ≠ [] → ∃ x, u.selected = some x ∧ best armed x))
    ∧ (∀ z, u.shown = some z →
        ((∃ n ∈ armed, z.priority < n.priority) → ∃ x, u.selected = some x ∧ best armed x)
        ∧ ((∀ n ∈ armed, n.priority ≤ z.priority) →
          (u.hold ≠ none → u.selected = none)
          ∧ (u.hold = none → (∀ n ∈ armed, n.priority ≠ z.priority) → u.selected = none)
          ∧ (u.hold = none → (∃ n ∈ armed, n.priority = z.priority) →
              ∃ x, u.selected = some x ∧ best (armed.filter fun n => n.priority = z.priority) x))))
  ∧ (∀ (e : Env) (c : Coach), (c.notices.selected = none → c.selectNotice e = c)
    ∧ ∀ x, c.notices.selected = some x → ∃ d, d = c.selectNotice e
      ∧ d = { c with notices := { c.notices with
          queue := d.notices.queue
          hold := some ((e.now / 24000 + e.params.showMin * 1000) * 24000)
          chimeUntil := if x.kind = .arriving ∨ x.priority = 3 then some (e.now + 7200000) else c.notices.chimeUntil } }
      ∧ d.notices.queue.length = c.notices.queue.length
      ∧ ∀ (k : Nat) (n : Notice), c.notices.queue[k]? = some n →
        (n.id = x.id → d.notices.queue[k]? = some { n with
          state := .shown, lastShown := some (e.now / 24000), firstShown := some (n.firstShown.getD (e.now / 24000)) })
        ∧ (n.id ≠ x.id → n.state = .shown → d.notices.queue[k]? = some { n with state := .armed })
        ∧ (n.id ≠ x.id → n.state ≠ .shown → d.notices.queue[k]? = some n))
  ∧ ∀ c : Coach, ∃ d, ∃ shows : StopRec → Prop, ∃ plain : StopRec → Prop, d = c.evalDoors
    ∧ d = { c with notices := { c.notices with door1 := d.notices.door1, door2 := d.notices.door2 } }
    ∧ (∀ r, shows r = (recordAt c.journey.list c.journey.atStop = some r
        ∨ ∃ n ∈ c.notices.queue, n.kind = .arriving ∧ n.state = .shown ∧ c.position.fix ≠ .degraded ∧ c.stopOf n.stop = some r))
    ∧ (∀ r, plain r = ((r.status = .current ∧ r.reverse = true) ↔ c.journey.orientation = .bForward))
    ∧ (d.notices.door1 = true ↔ ∃ r, shows r ∧ (r.side = .both ∨ (r.side = .left ∧ plain r) ∨ (r.side = .right ∧ ¬ plain r)))
    ∧ (d.notices.door2 = true ↔ ∃ r, shows r ∧ (r.side = .both ∨ (r.side = .right ∧ plain r) ∨ (r.side = .left ∧ ¬ plain r)))

/-- R153, R154: SET TEXT of the lead replaces one text of the table, a page falling due when the SHOWN entry names it, and SET CLOCK sets the
clock, which is then valid, its seconds timed from now (log entry 22); each refuses what is out of its range BAD_FIELD. Neither changes
journey, position, seats, sensors or reports. -/
def Obligations.TextsAndClockAreSet : Prop :=
  ∀ (s : State) (q : LinePort) (n minute second : Nat) (text : List Byte), s.leads q →
    (31 < n ∨ 64 < text.length ∨ (∃ c ∈ text, c.toNat < 32 ∨ 126 < c.toNat) →
      exec (.setText (.line q) n text) s = .next (State.answer (.line q) 23 .badField [] s.renewed))
    ∧ (n ≤ 31 → text.length ≤ 64 → (∀ c ∈ text, 32 ≤ c.toNat ∧ c.toNat ≤ 126) → ∃ x,
        exec (.setText (.line q) n text) s = .next (State.answer (.line q) 23 .accepted [] x)
        ∧ x.coach.notices.texts = s.coach.notices.texts.set n text ∧ x.coach.notices.clock = s.coach.notices.clock
        ∧ (∀ m, s.coach.notices.shown = some m → m.text = some n → x.coach.notices.pageDue = true)
        ∧ SameOutside s x ∧ x.consist = s.renewed.consist ∧ x.coach.journey = s.coach.journey ∧ x.coach.position = s.coach.position
        ∧ x.coach.axle = s.coach.axle ∧ x.coach.sensors = s.coach.sensors ∧ x.coach.map = s.coach.map
        ∧ x.coach.seats.map Seat.bare = s.coach.seats.map Seat.bare
        ∧ x.coach.reportsA = s.coach.reportsA ∧ x.coach.reportsB = s.coach.reportsB)
    ∧ (1439 < minute ∨ 59 < second →
      exec (.setClock (.line q) minute second) s = .next (State.answer (.line q) 24 .badField [] s.renewed))
    ∧ (minute ≤ 1439 → second ≤ 59 → ∃ x,
        exec (.setClock (.line q) minute second) s = .next (State.answer (.line q) 24 .accepted [] x)
        ∧ x.coach.notices.clock = some ⟨minute, second⟩ ∧ x.coach.notices.secondAt = some (s.now + 24000000)
        ∧ x.coach.notices.texts = s.coach.notices.texts
        ∧ x.coach.notices.pageDue = true ∧ SameOutside s x ∧ x.consist = s.renewed.consist ∧ x.coach.journey = s.coach.journey
        ∧ x.coach.position = s.coach.position ∧ x.coach.axle = s.coach.axle ∧ x.coach.sensors = s.coach.sensors ∧ x.coach.map = s.coach.map
        ∧ x.coach.seats.map Seat.bare = s.coach.seats.map Seat.bare
        ∧ x.coach.reportsA = s.coach.reportsA ∧ x.coach.reportsB = s.coach.reportsB)

/-- R150, R152, R154 to R156, R159, R196: a hold that runs out is over or begun anew by a selection; an AFTER_SECONDS entry that runs out
leaves the queue, with NOTICE_ENDED and cause EXPIRED for an entry of the lead and no report for another; the notice unit takes both as it
takes every change, with the selection, the door-side outputs and the page after them; the chime ends; a valid clock advances one second and
passes from 1439:59 to 0:0. A page that is due begins when none is being sent, with its fields as they then stand, takes ten bit times a
character and starts the 10 s refresh; a page that falls due while one is being sent waits. The model's choices: the clock at each of these
events (log entry 3) and the fields of the page last compared, which a page that begins takes anew (log entry 23). -/
def Obligations.NoticeTimersAndPages : Prop :=
  ∀ s : State, s.inReset = false →
    (∀ d, s.coach.notices.hold = some d → ∃ t, exec .showMinExpiry s = .next t
      ∧ t = { s with now := max s.now d, coach := t.coach } ∧ t.coach.journey = s.coach.journey ∧ t.coach.position = s.coach.position
      ∧ t.coach = Coach.notice t.env .other { s.coach with notices := { s.coach.notices with hold := none } }
      ∧ t.coach.reportsA = s.coach.reportsA ∧ t.coach.reportsB = s.coach.reportsB
      ∧ t.coach.notices.queue.map Notice.id = s.coach.notices.queue.map Notice.id
      ∧ (t.coach.notices.hold = none ∨ t.coach.notices.hold = some ((t.now / 24000 + s.params.showMin * 1000) * 24000)))
    ∧ (∀ n k f, (s.coach.notices.queue.find? fun m => m.id = n.id) = some n → n.ends = .afterSeconds k → n.firstShown = some f → ∃ t,
        exec (.afterSecondsExpiry n.id) s = .next t ∧ t = { s with now := max s.now ((f + k * 1000) * 24000), coach := t.coach }
        ∧ t.coach = s.coach.notice t.env (.ended n.id 2)
        ∧ (∀ m ∈ t.coach.notices.queue, m.id ≠ n.id) ∧ t.coach.journey = s.coach.journey ∧ t.coach.position = s.coach.position
        ∧ t.coach.seats.map Seat.bare = s.coach.seats.map Seat.bare
        ∧ ((s.coach.notices.queue.filter fun m => m.id = n.id) = [n] → ∀ p, t.coach.reports p = (if n.source = .lead then s.coach.raise s.env
            ⟨.noticeEnded, n.stop, none, none, s.coach.position.estimate / 65536000, .none, some (512 + n.id : Nat)⟩
            else s.coach).reports p))
    ∧ (∀ d, s.coach.notices.chimeUntil = some d → exec .chimeEnd s
        = .next { s with now := max s.now d, coach := { s.coach with notices := { s.coach.notices with chimeUntil := none } } })
    ∧ (∀ k d, s.coach.notices.clock = some k → s.coach.notices.secondAt = some d → ∃ k',
        exec .clockSecond s = .next { s with now := max s.now d, coach := { s.coach with notices :=
          { s.coach.notices with clock := some k', secondAt := some (d + 24000000) } } }
        ∧ (k.second < 59 → k' = ⟨k.minute, k.second + 1⟩)
        ∧ (k.second = 59 → k.minute < 1439 → k' = ⟨k.minute + 1, 0⟩)
        ∧ (k.second = 59 → k.minute = 1439 → k' = ⟨0, 0⟩))
    ∧ (s.coach.notices.clock = none → exec .clockSecond s = .next s)
    ∧ (s.coach.notices.pageDue = true → s.coach.notices.sending = none → ∃ t page, exec .pageStart s = .next t
      ∧ page = ((s.coach.pageFields s.env).page s.coach.notices.clock)
      ∧ t = { s with coach := { s.coach with notices := { s.coach.notices with
          fields := s.coach.pageFields s.env, pageDue := false, sending := some ⟨page, s.now + page.length * 12500⟩
          refreshAt := some (s.now + 240000000) } } })
    ∧ (s.coach.notices.pageDue = false ∨ s.coach.notices.sending ≠ none → exec .pageStart s = .next s)
    ∧ (∀ x, s.coach.notices.sending = some x → exec .pageEnd s
        = .next { s with now := max s.now x.endsAt, coach := { s.coach with notices := { s.coach.notices with sending := none } } })
    ∧ (∀ d, s.coach.notices.refreshAt = some d → exec .pageRefresh s
        = .next { s with now := max s.now d, coach := { s.coach with notices :=
            { s.coach.notices with pageDue := true, refreshAt := none } } })

/-- R163 to R165, R167, R170, R171: the window starts at last departed or at the lowest calling record and holds the calling records after it
up to its capacity; each takes a STOP dot, the dots between take TRACK, the others are UNUSED. The target follows the six rows of R165, in
the last of them by the share of the segment covered. Rendering gives each dot the first row of R167 that applies. A window change jumps to
the new target; a target worked out otherwise is paced: a jump beyond JUMP_LIMIT, a step where the step timer is idle, else nothing. R62,
R63, R168: a change of the estimate is handed to the reservation unit, the notice unit and the map unit, a change between STANDSTILL and the
other motion states renders the strip, or with STEP_DISCARD ON at a change to STANDSTILL works the target out and jumps to it, and progress
is evaluated; nothing changed hands nothing on. The model's choices: the record before next calling with last departed none in TERMINATED
(log entry 46), the order of pacing and jump at STANDSTILL (log entry 26), and two changes of one event handed on together (log entry 12). -/
def Obligations.MapLayoutTargetAndRendering : Prop :=
  (∀ (e : Env) (j : Journey) (m : MapUnit), ∃ d stops t, d = m.relayout e j ∧ t = e.params.trackDots + 1
    ∧ d = { m with base := d.base, count := stops.length, layout := d.layout } ∧ d.layout.length = 48
    ∧ (j.phase = .empty → d.base = none)
    ∧ (j.phase ≠ .empty → d.base = if j.lastDeparted = none then nextCall j.list e.portion 0 else j.lastDeparted)
    ∧ (d.base = none → stops = [])
    ∧ (∀ b, d.base = some b → stops.head? = some b ∧ stops.length ≤ 47 / t + 1 ∧ stops.Pairwise (· < ·)
        ∧ (∀ i ∈ stops, i ≠ b → ∃ r, j.list[i]? = some r ∧ r.callsAt e.portion = true)
        ∧ (∀ i r, b < i → j.list[i]? = some r → r.callsAt e.portion = true →
            i ∈ stops ∨ (stops.length = 47 / t + 1 ∧ ∀ y ∈ stops, y < i)))
    ∧ (∀ n i, stops[n]? = some i → d.layout[n * t]? = some (.stop i))
    ∧ (∀ n k, n + 1 < stops.length → 1 ≤ k → k < t → d.layout[n * t + k]? = some .track)
    ∧ (∀ k, k < 48 → stops = [] ∨ (stops.length - 1) * t < k → d.layout[k]? = some .unused))
  ∧ (∀ (e : Env) (j : Journey) (p : Position) (m : MapUnit), ∃ x metres t, x = m.targetOf e j p ∧ metres = p.estimate / 65536000
    ∧ t = e.params.trackDots + 1
    ∧ (j.phase = .empty ∨ m.base = none → x = 0)
    ∧ ∀ b, j.phase ≠ .empty → m.base = some b →
        (∀ i, j.atStop = some i → x = (m.stopDot i).getD 47)
        ∧ (j.atStop = none → j.nextCalling = none → x = (m.stopDot b).getD 0)
        ∧ (∀ n, j.atStop = none → j.nextCalling = some n →
            (m.stopDot n = none → x = 47) ∧ (m.stopDot n ≠ none → n = b → x = 0)
            ∧ ∀ a z, m.stopDot n ≠ none → n ≠ b → j.list[j.lastDeparted.getD b]? = some a → j.list[n]? = some z →
                a.position < z.position → ∃ k, x = (m.stopDot (j.lastDeparted.getD b)).getD 0 + k
                ∧ (metres ≤ a.position → k = 0) ∧ (z.position ≤ metres → k + 1 = t)
                ∧ (a.position < metres → metres < z.position → k < t
                    ∧ k * (z.position - a.position) ≤ (metres - a.position) * t
                    ∧ (metres - a.position) * t < (k + 1) * (z.position - a.position))))
  ∧ (∀ (e : Env) (j : Journey) (p : Position) (m : MapUnit), ∃ d, d = m.render e j p ∧ d = { m with shadow := d.shadow } ∧ d.shadow.length = 48
    ∧ ∀ k, k < 48 → ∃ mode, d.shadow[k]? = some mode
      ∧ (j.phase = .empty → mode = .forcedOff)
      ∧ (j.phase ≠ .empty → k = m.marker → mode = if p.motion = .standstill then .forcedOn else .blink)
      ∧ (j.phase ≠ .empty → k ≠ m.marker →
          (m.layout[k]? = some .unused → mode = .forcedOff)
          ∧ (m.layout[k]? = some .track → mode = if k < m.marker then .duty e.params.dimDuty else .forcedOff)
          ∧ (∀ i r, m.layout[k]? = some (.stop i) → j.list[i]? = some r →
              mode = if r.split then .dutyInv e.params.dimDuty else if k < m.marker then .duty e.params.dimDuty else .forcedOn)))
  ∧ (∀ (e : Env) (c : Coach), ∃ m, m = (c.map.relayout e c.journey).retarget e c.journey c.position
    ∧ c.mapWindow e = { c with map := MapUnit.render e c.journey c.position { m with marker := m.target } }
    ∧ ∃ n far, n = c.map.retarget e c.journey c.position
      ∧ far = (n.marker + e.params.jumpLimit < n.target ∨ n.target + e.params.jumpLimit < n.marker)
      ∧ (far → c.mapTarget e = { c with map := MapUnit.render e c.journey c.position { n with marker := n.target } })
      ∧ (¬ far → n.target = n.marker ∨ n.stepAt ≠ none → c.mapTarget e = { c with map := n })
      ∧ (¬ far → n.target ≠ n.marker → n.stepAt = none → ∃ y, c.mapTarget e = { c with map := MapUnit.render e c.journey c.position y }
          ∧ y = { n with
              marker := if n.marker < n.target then n.marker + 1 else n.marker - 1
              stepAt := some (e.now + e.params.stepInterval * 24000) }))
  ∧ ∀ (e : Env) (b : Position) (c : Coach), ∃ moved turned : Prop, ∃ x y : Coach, moved = (c.position.estimate ≠ b.estimate)
    ∧ turned = ¬ (c.position.motion = .standstill ↔ b.motion = .standstill)
    ∧ (moved → x = (c.reservePosition e).notice e .position ∧ y = x.mapTarget e) ∧ (¬ moved → x = c ∧ y = c)
    ∧ (¬ moved → ¬ turned → c.handPosition e b = c)
    ∧ (moved → ¬ turned → c.handPosition e b = y.evaluate e)
    ∧ (turned → c.position.motion = .standstill → e.params.stepDiscard = true → ∃ z : Coach, z = x.mapTarget e
        ∧ c.handPosition e b
          = Coach.evaluate e { z with map := MapUnit.render e z.journey z.position { z.map with marker := z.map.target } })
    ∧ (turned → c.position.motion ≠ .standstill ∨ e.params.stepDiscard = false →
        c.handPosition e b = Coach.evaluate e { y with map := MapUnit.render e y.journey y.position y.map })

/-- R166, R169, R170, R172: at a frame boundary the active table is the shadow table and each dot is driven from it, mirrored under
B_FORWARD; a step timer that runs out steps the marker one dot toward the target, or stops. The clock stands at
the moment of the boundary or the expiry, or later (log entry 3). -/
def Obligations.StripFramesAndSteps : Prop :=
  ∀ (s : State) (d : Nat), s.inReset = false →
    (s.coach.map.frameAt = some d → ∃ t, exec .driveFrameBoundary s = .next t
      ∧ t = { s with now := max s.now d, coach := { s.coach with map := { s.coach.map with
          active := s.coach.map.shadow, driven := t.coach.map.driven, frameNumber := (s.coach.map.frameNumber + 1) % 200
          frameAt := some (d + 120000) } } }
      ∧ ∀ k, k < 48 → t.coach.map.driven[k]?
          = some (s.coach.map.shadow.getD (if s.coach.journey.orientation = .bForward then 47 - k else k) .forcedOff))
    ∧ (s.coach.map.stepAt = some d → ∃ t, exec .stepTimerExpiry s = .next t
      ∧ t = { s with now := max s.now d, coach := { s.coach with map := t.coach.map } } ∧ t.coach.map.target = s.coach.map.target
      ∧ (s.coach.journey.phase = .empty ∨ s.coach.map.target = s.coach.map.marker →
          t.coach.map = { s.coach.map with stepAt := none })
      ∧ (s.coach.journey.phase ≠ .empty → s.coach.map.marker < s.coach.map.target →
          t.coach.map.marker = s.coach.map.marker + 1 ∧ t.coach.map.stepAt = some (t.now + s.params.stepInterval * 24000))
      ∧ (s.coach.journey.phase ≠ .empty → s.coach.map.target < s.coach.map.marker →
          t.coach.map.marker = s.coach.map.marker - 1 ∧ t.coach.map.stepAt = some (t.now + s.params.stepInterval * 24000)))

/-! ## The report unit, parameters and restart (chapter 10) -/

/-- R187: a report joins the lead port's queue, or with no lead the queue of each port whose link is UP; a full queue drops its oldest and
sets REPORT_OVERRUN. R188: FETCH REPORT removes the oldest report of its port's queue and returns its 18 characters and the number left; with
an empty queue it returns a count of 0 alone (log entry 11). R189, R190: ACK CONDITIONS clears the marked flags of its own port, a level flag
being set again while its cause lasts; SET ATTENTION MASK replaces the port's own mask. Each answers with what then stands; the other port is
untouched. The attention output of a port is asserted while its queue holds a report or a flag is set with its enable on. -/
def Obligations.ReportsAreRoutedAndBounded : Prop :=
  (∀ (e : Env) (r : Report) (c : Coach) (p : LinePort) (x : PortReports), x = c.reports p →
    (e.lead = some p ∨ (e.lead = none ∧ (if p = .a then e.upA else e.upB) = true) →
      (x.queue.length < 16 → (c.raise e r).reports p = { x with queue := x.queue ++ [r] })
      ∧ (x.queue.length = 16 → (c.raise e r).reports p
          = { x with queue := x.queue.drop 1 ++ [r], flags := { x.flags with reportOverrun := true } }))
    ∧ (e.lead = some p.other ∨ (e.lead = none ∧ (if p = .a then e.upA else e.upB) = false) → (c.raise e r).reports p = x)
    ∧ c.raise e r = { c with reportsA := (c.raise e r).reportsA, reportsB := (c.raise e r).reportsB })
  ∧ (∀ (s : State) (q : LinePort), s.takes (.line q) →
    ((s.coach.reports q).queue = [] → exec (.fetchReport (.line q)) s = .next (State.answer (.line q) 27 .accepted [0] (s.renew (.line q))))
    ∧ (∀ r rest, (s.coach.reports q).queue = r :: rest → ∃ x,
        exec (.fetchReport (.line q)) s
          = .next (State.answer (.line q) 27 .accepted (r.chars ++ [BitVec.ofNat 8 rest.length]) x)
        ∧ x = { s.renew (.line q) with coach := s.coach.setReports q { s.coach.reports q with queue := rest } }
        ∧ x.coach.reports q.other = s.coach.reports q.other ∧ r.chars.length = 18))
  ∧ (∀ (s : State) (q : LinePort) (m : Byte) (f : Conditions), s.takes (.line q) → f = (s.coach.reports q).flags →
    (∃ g x, g = ⟨f.restarted && !m.getLsbD 0, f.leadLost && !m.getLsbD 1, f.leadChanged && !m.getLsbD 2,
          (f.positionDegraded && !m.getLsbD 3) || s.coach.position.fix == .degraded,
          (f.seatLineFault && !m.getLsbD 4) || !s.coach.noneStuck, f.reportOverrun && !m.getLsbD 5⟩
      ∧ exec (.ackConditions (.line q) m) s = .next (State.answer (.line q) 28 .accepted [g.toByte, BitVec.ofNat 8 g.top] x)
      ∧ x = { s.renew (.line q) with coach := s.coach.setReports q { s.coach.reports q with flags := g } })
    ∧ (∃ k x, k = ⟨m.getLsbD 0, m.getLsbD 1, m.getLsbD 2, m.getLsbD 3, m.getLsbD 4, m.getLsbD 5⟩
      ∧ exec (.setAttentionMask (.line q) m) s = .next (State.answer (.line q) 29 .accepted [k.toByte] x)
      ∧ x = { s.renew (.line q) with coach := s.coach.setReports q { s.coach.reports q with mask := k } }))
  ∧ ∀ x : PortReports, x.attention = true ↔ x.queue ≠ [] ∨ ∃ k, x.flags.get k = true ∧ x.mask.get k = true

/-- R26, R80, R104, R162, R175, R185: RESTART COACH of the lead empties the journey, the bookings, the notice queue, the map's window and the
reports, and sets RESTARTED on both ports; the door-side outputs go dark. The consist record, the parameters, the accepted speed, the seat
table, the sensors, the seat lines but for what joins their SHOW queues, the texts, the clock, the next-id counter, the chime and the frames
of the map strip are kept. -/
def Obligations.RestartCoachEmptiesTheJourney : Prop :=
  ∀ (s : State) (q : LinePort), s.leads q → ∃ x, exec (.restartCoach (.line q)) s = .next (State.answer (.line q) 30 .accepted [] x)
    ∧ SameOutside s x ∧ x.consist = { s.renewed.consist with stagingOwner := none }
    ∧ x.coach.journey = ⟨.empty, [], [], none, none, none, none, s.coach.journey.orientation⟩
    ∧ x.coach.position.estimate = 0 ∧ x.coach.position.contribution = 0 ∧ x.coach.position.fix = .unfixed
    ∧ x.coach.position.accepted = s.coach.position.accepted ∧ x.coach.position.lastForward = none
    ∧ (s.coach.position.motion = .standstill → x.coach.position.motion = .standstill)
    ∧ (s.coach.position.motion ≠ .standstill → x.coach.position.motion = .moving)
    ∧ x.coach.axle = s.coach.axle ∧ x.coach.sensors = s.coach.sensors
    ∧ x.coach.seats.map Seat.bare = s.coach.seats.map (fun y => { y.bare with entries := [] })
    ∧ (∀ y ∈ x.coach.seats, y.content = ⟨.noInfo, []⟩)
    ∧ (∀ i, ∃ g, x.coach.lines.get i = { s.coach.lines.get i with showQueue := (s.coach.lines.get i).showQueue ++ g })
    ∧ x.coach.notices = { s.coach.notices with
        queue := [], hold := none, door1 := false, door2 := false
        fields := x.coach.notices.fields, pageDue := x.coach.notices.pageDue }
    ∧ (s.coach.notices.shown ≠ none → s.coach.notices.fields = s.coach.pageFields s.env → x.coach.notices.pageDue = true)
    ∧ x.coach.map = { s.coach.map with
        layout := List.replicate 48 .unused, base := none, count := 0, target := 0, marker := 0, shadow := List.replicate 48 .forcedOff }
    ∧ ∀ p, (x.coach.reports p).queue = [] ∧ (x.coach.reports p).mask = (s.coach.reports p).mask
      ∧ (x.coach.reports p).flags = { (s.coach.reports p).flags with
          restarted := true, positionDegraded := false
          reportOverrun := (s.coach.reports p).flags.reportOverrun || !(s.coach.reports p).queue.isEmpty }

/-- R184: CONFIGURE of the lead is refused WRONG_PHASE outside the EMPTY phase and BAD_FIELD for an id that is not in the table; otherwise the
value is held to the range of its parameter, no other parameter changes, and the answer carries the id and the value now in force. The lease
restarted by a CONFIGURE of LEAD_LEASE is that of the value before (log entry 9). -/
def Obligations.ConfigureClampsAndWrites : Prop :=
  (∀ (s : State) (q : LinePort) (id v : Nat), s.leads q →
    (s.coach.journey.phase ≠ .empty → exec (.configure (.line q) id v) s = .next (State.answer (.line q) 6 .wrongPhase [] s.renewed))
    ∧ (s.coach.journey.phase = .empty → id = 0 ∨ 28 < id →
        exec (.configure (.line q) id v) s = .next (State.answer (.line q) 6 .badField [] s.renewed))
    ∧ (s.coach.journey.phase = .empty → 1 ≤ id → id ≤ 28 → ∃ x lo hi st, paramRange id = some (lo, hi)
        ∧ exec (.configure (.line q) id v) s
          = .next (State.answer (.line q) 6 st (BitVec.ofNat 8 id :: leBytes 4 (max lo (min hi v))) x)
        ∧ (lo ≤ v → v ≤ hi → st = .accepted) ∧ (v < lo ∨ hi < v → st = .adjusted)
        ∧ x.params.read id = max lo (min hi v) ∧ (∀ k, k ≠ id → x.params.read k = s.params.read k)
        ∧ x = { s.renewed with params := x.params, coach := { s.coach with axle := x.coach.axle } }
        ∧ (id ≠ 3 → id ≠ 6 → x.coach.axle = s.coach.axle)))
  ∧ (List.range 30).map paramRange = [none, some (20, 500), some (500, 10000), some (4, 255), some (2000, 3500), some (20, 250), some (2, 50),
      some (50, 2000), some (50, 2000), some (0, 65535), some (0, 65535), some (1, 255), some (10, 600), some (5, 1000), some (500, 20000),
      some (0, 7), some (4, 12), some (10, 4000), some (0, 200), some (0, 15), some (0, 15), some (500, 10000), some (100, 2000), some (1, 20),
      some (0, 4), some (0, 255), some (20, 1000), some (1, 47), some (0, 1), none]

/-! ## Invariants of every step -/

/-- R27, R33, R179 to R182: every step keeps the lead on a port whose link is UP, the lease running exactly while there is a lead, and the
buffers of the ports within their bounds. -/
def Obligations.EveryStepKeepsLeadAndBuffers : Prop :=
  ∀ s t : State, step s = .next t → (LeadHasLink s → LeadHasLink t) ∧ (BuffersBounded s → BuffersBounded t)

/-- R73, R114, R187: every step keeps the report queues within 16 reports and the level conditions of both ports equal to their causes. -/
def Obligations.EveryStepKeepsReportsAndLevelFlags : Prop :=
  ∀ s t : State, step s = .next t → (ReportsBounded s → ReportsBounded t) ∧ (LevelFlagsTrue s → LevelFlagsTrue t)

/-- R62, R119, R127, R153: every step keeps the estimate within 0 to 4,000,000,000 mm and the tables of places, modules and texts whole. -/
def Obligations.EveryStepKeepsTheRanges : Prop :=
  ∀ s t : State, step s = .next t → RangesKept s → RangesKept t

/-- The state after device reset satisfies every invariant. -/
def Obligations.ResetSatisfiesTheInvariants : Prop :=
  LeadHasLink State.reset ∧ BuffersBounded State.reset ∧ ReportsBounded State.reset ∧ LevelFlagsTrue State.reset ∧ RangesKept State.reset
end

