-- ==== Sys2Proof/Laws/State.lean ====
section
/-! SUPPORT. One lemma per field for each update of the state: what an update leaves as it was, and what it writes. -/

namespace Sys2Proof.Machine

/-! ## Coach, time, levels -/

@[simp] theorem State.onCoach_pending (f : Env → Coach → Coach) (s : State) : (s.onCoach f).pending = s.pending := rfl
@[simp] theorem State.onCoach_choices (f : Env → Coach → Coach) (s : State) : (s.onCoach f).choices = s.choices := rfl
@[simp] theorem State.onCoach_inReset (f : Env → Coach → Coach) (s : State) : (s.onCoach f).inReset = s.inReset := rfl
@[simp] theorem State.onCoach_now (f : Env → Coach → Coach) (s : State) : (s.onCoach f).now = s.now := rfl
@[simp] theorem State.onCoach_levels (f : Env → Coach → Coach) (s : State) : (s.onCoach f).levels = s.levels := rfl
@[simp] theorem State.onCoach_params (f : Env → Coach → Coach) (s : State) : (s.onCoach f).params = s.params := rfl
@[simp] theorem State.onCoach_portA (f : Env → Coach → Coach) (s : State) : (s.onCoach f).portA = s.portA := rfl
@[simp] theorem State.onCoach_portB (f : Env → Coach → Coach) (s : State) : (s.onCoach f).portB = s.portB := rfl
@[simp] theorem State.onCoach_crew (f : Env → Coach → Coach) (s : State) : (s.onCoach f).crew = s.crew := rfl
@[simp] theorem State.onCoach_consist (f : Env → Coach → Coach) (s : State) : (s.onCoach f).consist = s.consist := rfl
@[simp] theorem State.onCoach_coach (f : Env → Coach → Coach) (s : State) : (s.onCoach f).coach = f s.env s.coach := rfl
@[simp] theorem State.runTo_pending (d : Nat) (s : State) : (s.runTo d).pending = s.pending := rfl
@[simp] theorem State.runTo_choices (d : Nat) (s : State) : (s.runTo d).choices = s.choices := rfl
@[simp] theorem State.runTo_inReset (d : Nat) (s : State) : (s.runTo d).inReset = s.inReset := rfl
@[simp] theorem State.runTo_levels (d : Nat) (s : State) : (s.runTo d).levels = s.levels := rfl
@[simp] theorem State.runTo_params (d : Nat) (s : State) : (s.runTo d).params = s.params := rfl
@[simp] theorem State.runTo_portA (d : Nat) (s : State) : (s.runTo d).portA = s.portA := rfl
@[simp] theorem State.runTo_portB (d : Nat) (s : State) : (s.runTo d).portB = s.portB := rfl
@[simp] theorem State.runTo_crew (d : Nat) (s : State) : (s.runTo d).crew = s.crew := rfl
@[simp] theorem State.runTo_consist (d : Nat) (s : State) : (s.runTo d).consist = s.consist := rfl
@[simp] theorem State.runTo_coach (d : Nat) (s : State) : (s.runTo d).coach = s.coach := rfl
@[simp] theorem State.runTo_now (d : Nat) (s : State) : (s.runTo d).now = max s.now d := rfl
@[simp] theorem State.setLevel_pending (i : Fin 4) (v : Level) (s : State) : (s.setLevel i v).pending = s.pending := rfl
@[simp] theorem State.setLevel_choices (i : Fin 4) (v : Level) (s : State) : (s.setLevel i v).choices = s.choices := rfl
@[simp] theorem State.setLevel_inReset (i : Fin 4) (v : Level) (s : State) : (s.setLevel i v).inReset = s.inReset := rfl
@[simp] theorem State.setLevel_now (i : Fin 4) (v : Level) (s : State) : (s.setLevel i v).now = s.now := rfl
@[simp] theorem State.setLevel_params (i : Fin 4) (v : Level) (s : State) : (s.setLevel i v).params = s.params := rfl
@[simp] theorem State.setLevel_portA (i : Fin 4) (v : Level) (s : State) : (s.setLevel i v).portA = s.portA := rfl
@[simp] theorem State.setLevel_portB (i : Fin 4) (v : Level) (s : State) : (s.setLevel i v).portB = s.portB := rfl
@[simp] theorem State.setLevel_crew (i : Fin 4) (v : Level) (s : State) : (s.setLevel i v).crew = s.crew := rfl
@[simp] theorem State.setLevel_consist (i : Fin 4) (v : Level) (s : State) : (s.setLevel i v).consist = s.consist := rfl
@[simp] theorem State.setLevel_coach (i : Fin 4) (v : Level) (s : State) : (s.setLevel i v).coach = s.coach := rfl
@[simp] theorem State.setLevel_levels (i : Fin 4) (v : Level) (s : State) : (s.setLevel i v).levels = s.levels.set i v := rfl

/-! ## Ports -/

@[simp] theorem State.setPort_pending (p : LinePort) (x : PortState) (s : State) : (s.setPort p x).pending = s.pending := by cases p <;> rfl
@[simp] theorem State.setPort_choices (p : LinePort) (x : PortState) (s : State) : (s.setPort p x).choices = s.choices := by cases p <;> rfl
@[simp] theorem State.setPort_inReset (p : LinePort) (x : PortState) (s : State) : (s.setPort p x).inReset = s.inReset := by cases p <;> rfl
@[simp] theorem State.setPort_now (p : LinePort) (x : PortState) (s : State) : (s.setPort p x).now = s.now := by cases p <;> rfl
@[simp] theorem State.setPort_levels (p : LinePort) (x : PortState) (s : State) : (s.setPort p x).levels = s.levels := by cases p <;> rfl
@[simp] theorem State.setPort_params (p : LinePort) (x : PortState) (s : State) : (s.setPort p x).params = s.params := by cases p <;> rfl
@[simp] theorem State.setPort_crew (p : LinePort) (x : PortState) (s : State) : (s.setPort p x).crew = s.crew := by cases p <;> rfl
@[simp] theorem State.setPort_consist (p : LinePort) (x : PortState) (s : State) : (s.setPort p x).consist = s.consist := by cases p <;> rfl
@[simp] theorem State.setPort_coach (p : LinePort) (x : PortState) (s : State) : (s.setPort p x).coach = s.coach := by cases p <;> rfl
@[simp] theorem State.setPort_port (p : LinePort) (x : PortState) (s : State) : (s.setPort p x).port p = x := by cases p <;> rfl
@[simp] theorem State.setPort_port_other (p : LinePort) (x : PortState) (s : State) : (s.setPort p x).port p.other = s.port p.other := by cases p <;> rfl
@[simp] theorem State.port_a (s : State) : s.port .a = s.portA := rfl
@[simp] theorem State.port_b (s : State) : s.port .b = s.portB := rfl
@[simp] theorem State.onCoach_port (f : Env → Coach → Coach) (p : LinePort) (s : State) : (s.onCoach f).port p = s.port p := by cases p <;> rfl
@[simp] theorem State.runTo_port (d : Nat) (p : LinePort) (s : State) : (s.runTo d).port p = s.port p := by cases p <;> rfl
@[simp] theorem State.forwardOut_pending (q : LinePort) (f : Frame) (s : State) : (s.forwardOut q f).pending = s.pending := by unfold State.forwardOut; dsimp only; split <;> simp
@[simp] theorem State.forwardOut_choices (q : LinePort) (f : Frame) (s : State) : (s.forwardOut q f).choices = s.choices := by unfold State.forwardOut; dsimp only; split <;> simp
@[simp] theorem State.forwardOut_inReset (q : LinePort) (f : Frame) (s : State) : (s.forwardOut q f).inReset = s.inReset := by unfold State.forwardOut; dsimp only; split <;> simp
@[simp] theorem State.forwardOut_now (q : LinePort) (f : Frame) (s : State) : (s.forwardOut q f).now = s.now := by unfold State.forwardOut; dsimp only; split <;> simp
@[simp] theorem State.forwardOut_levels (q : LinePort) (f : Frame) (s : State) : (s.forwardOut q f).levels = s.levels := by unfold State.forwardOut; dsimp only; split <;> simp
@[simp] theorem State.forwardOut_params (q : LinePort) (f : Frame) (s : State) : (s.forwardOut q f).params = s.params := by unfold State.forwardOut; dsimp only; split <;> simp
@[simp] theorem State.forwardOut_crew (q : LinePort) (f : Frame) (s : State) : (s.forwardOut q f).crew = s.crew := by unfold State.forwardOut; dsimp only; split <;> simp
@[simp] theorem State.forwardOut_consist (q : LinePort) (f : Frame) (s : State) : (s.forwardOut q f).consist = s.consist := by unfold State.forwardOut; dsimp only; split <;> simp
@[simp] theorem State.forwardOut_coach (q : LinePort) (f : Frame) (s : State) : (s.forwardOut q f).coach = s.coach := by unfold State.forwardOut; dsimp only; split <;> simp
@[simp] theorem State.joinRequests_pending (q : LinePort) (w : Waiting) (s : State) : (s.joinRequests q w).pending = s.pending := by unfold State.joinRequests; dsimp only; split <;> simp
@[simp] theorem State.joinRequests_choices (q : LinePort) (w : Waiting) (s : State) : (s.joinRequests q w).choices = s.choices := by unfold State.joinRequests; dsimp only; split <;> simp
@[simp] theorem State.joinRequests_inReset (q : LinePort) (w : Waiting) (s : State) : (s.joinRequests q w).inReset = s.inReset := by unfold State.joinRequests; dsimp only; split <;> simp
@[simp] theorem State.joinRequests_now (q : LinePort) (w : Waiting) (s : State) : (s.joinRequests q w).now = s.now := by unfold State.joinRequests; dsimp only; split <;> simp
@[simp] theorem State.joinRequests_levels (q : LinePort) (w : Waiting) (s : State) : (s.joinRequests q w).levels = s.levels := by unfold State.joinRequests; dsimp only; split <;> simp
@[simp] theorem State.joinRequests_params (q : LinePort) (w : Waiting) (s : State) : (s.joinRequests q w).params = s.params := by unfold State.joinRequests; dsimp only; split <;> simp
@[simp] theorem State.joinRequests_crew (q : LinePort) (w : Waiting) (s : State) : (s.joinRequests q w).crew = s.crew := by unfold State.joinRequests; dsimp only; split <;> simp
@[simp] theorem State.joinRequests_consist (q : LinePort) (w : Waiting) (s : State) : (s.joinRequests q w).consist = s.consist := by unfold State.joinRequests; dsimp only; split <;> simp
@[simp] theorem State.joinRequests_coach (q : LinePort) (w : Waiting) (s : State) : (s.joinRequests q w).coach = s.coach := by unfold State.joinRequests; dsimp only; split <;> simp
@[simp] theorem State.joinCrew_pending (w : Waiting) (s : State) : (s.joinCrew w).pending = s.pending := by unfold State.joinCrew; split <;> rfl
@[simp] theorem State.joinCrew_choices (w : Waiting) (s : State) : (s.joinCrew w).choices = s.choices := by unfold State.joinCrew; split <;> rfl
@[simp] theorem State.joinCrew_inReset (w : Waiting) (s : State) : (s.joinCrew w).inReset = s.inReset := by unfold State.joinCrew; split <;> rfl
@[simp] theorem State.joinCrew_now (w : Waiting) (s : State) : (s.joinCrew w).now = s.now := by unfold State.joinCrew; split <;> rfl
@[simp] theorem State.joinCrew_levels (w : Waiting) (s : State) : (s.joinCrew w).levels = s.levels := by unfold State.joinCrew; split <;> rfl
@[simp] theorem State.joinCrew_params (w : Waiting) (s : State) : (s.joinCrew w).params = s.params := by unfold State.joinCrew; split <;> rfl
@[simp] theorem State.joinCrew_portA (w : Waiting) (s : State) : (s.joinCrew w).portA = s.portA := by unfold State.joinCrew; split <;> rfl
@[simp] theorem State.joinCrew_portB (w : Waiting) (s : State) : (s.joinCrew w).portB = s.portB := by unfold State.joinCrew; split <;> rfl
@[simp] theorem State.joinCrew_consist (w : Waiting) (s : State) : (s.joinCrew w).consist = s.consist := by unfold State.joinCrew; split <;> rfl
@[simp] theorem State.joinCrew_coach (w : Waiting) (s : State) : (s.joinCrew w).coach = s.coach := by unfold State.joinCrew; split <;> rfl
@[simp] theorem State.freeTransmitter_pending (p : Port) (x : Sending) (s : State) : (s.freeTransmitter p x).pending = s.pending := by cases p <;> simp [State.freeTransmitter]
@[simp] theorem State.freeTransmitter_choices (p : Port) (x : Sending) (s : State) : (s.freeTransmitter p x).choices = s.choices := by cases p <;> simp [State.freeTransmitter]
@[simp] theorem State.freeTransmitter_inReset (p : Port) (x : Sending) (s : State) : (s.freeTransmitter p x).inReset = s.inReset := by cases p <;> simp [State.freeTransmitter]
@[simp] theorem State.freeTransmitter_now (p : Port) (x : Sending) (s : State) : (s.freeTransmitter p x).now = s.now := by cases p <;> simp [State.freeTransmitter]
@[simp] theorem State.freeTransmitter_levels (p : Port) (x : Sending) (s : State) : (s.freeTransmitter p x).levels = s.levels := by cases p <;> simp [State.freeTransmitter]
@[simp] theorem State.freeTransmitter_params (p : Port) (x : Sending) (s : State) : (s.freeTransmitter p x).params = s.params := by cases p <;> simp [State.freeTransmitter]
@[simp] theorem State.freeTransmitter_consist (p : Port) (x : Sending) (s : State) : (s.freeTransmitter p x).consist = s.consist := by cases p <;> simp [State.freeTransmitter]
@[simp] theorem State.freeTransmitter_coach (p : Port) (x : Sending) (s : State) : (s.freeTransmitter p x).coach = s.coach := by cases p <;> simp [State.freeTransmitter]
@[simp] theorem State.freeTransmitter_port (q : LinePort) (x : Sending) (s : State) : (s.freeTransmitter (.line q) x).port q
    = { s.port q with sending := none, lastEnd := x.endsAt, lastSent := (x.frame.wire true).getLast? } := by simp [State.freeTransmitter]
@[simp] theorem State.freeTransmitter_port_other (q : LinePort) (x : Sending) (s : State) : (s.freeTransmitter (.line q) x).port q.other = s.port q.other := by
  simp [State.freeTransmitter]
@[simp] theorem State.popRequest_pending (p : Port) (s : State) : (s.popRequest p).pending = s.pending := by cases p <;> simp [State.popRequest]
@[simp] theorem State.popRequest_choices (p : Port) (s : State) : (s.popRequest p).choices = s.choices := by cases p <;> simp [State.popRequest]
@[simp] theorem State.popRequest_inReset (p : Port) (s : State) : (s.popRequest p).inReset = s.inReset := by cases p <;> simp [State.popRequest]
@[simp] theorem State.popRequest_now (p : Port) (s : State) : (s.popRequest p).now = s.now := by cases p <;> simp [State.popRequest]
@[simp] theorem State.popRequest_levels (p : Port) (s : State) : (s.popRequest p).levels = s.levels := by cases p <;> simp [State.popRequest]
@[simp] theorem State.popRequest_params (p : Port) (s : State) : (s.popRequest p).params = s.params := by cases p <;> simp [State.popRequest]
@[simp] theorem State.popRequest_consist (p : Port) (s : State) : (s.popRequest p).consist = s.consist := by cases p <;> simp [State.popRequest]
@[simp] theorem State.popRequest_coach (p : Port) (s : State) : (s.popRequest p).coach = s.coach := by cases p <;> simp [State.popRequest]

/-! ## Requests and responses -/

@[simp] theorem State.renew_pending (p : Port) (s : State) : (s.renew p).pending = s.pending := by unfold State.renew; split <;> rfl
@[simp] theorem State.renew_choices (p : Port) (s : State) : (s.renew p).choices = s.choices := by unfold State.renew; split <;> rfl
@[simp] theorem State.renew_inReset (p : Port) (s : State) : (s.renew p).inReset = s.inReset := by unfold State.renew; split <;> rfl
@[simp] theorem State.renew_now (p : Port) (s : State) : (s.renew p).now = s.now := by unfold State.renew; split <;> rfl
@[simp] theorem State.renew_levels (p : Port) (s : State) : (s.renew p).levels = s.levels := by unfold State.renew; split <;> rfl
@[simp] theorem State.renew_params (p : Port) (s : State) : (s.renew p).params = s.params := by unfold State.renew; split <;> rfl
@[simp] theorem State.renew_portA (p : Port) (s : State) : (s.renew p).portA = s.portA := by unfold State.renew; split <;> rfl
@[simp] theorem State.renew_portB (p : Port) (s : State) : (s.renew p).portB = s.portB := by unfold State.renew; split <;> rfl
@[simp] theorem State.renew_crew (p : Port) (s : State) : (s.renew p).crew = s.crew := by unfold State.renew; split <;> rfl
@[simp] theorem State.renew_coach (p : Port) (s : State) : (s.renew p).coach = s.coach := by unfold State.renew; split <;> rfl
@[simp] theorem State.renew_port (p : Port) (q : LinePort) (s : State) : (s.renew p).port q = s.port q := by cases q <;> simp
@[simp] theorem State.renew_consist_generation (p : Port) (s : State) : (s.renew p).consist.generation = s.consist.generation := by unfold State.renew; split <;> rfl
@[simp] theorem State.renew_consist_coachNumber (p : Port) (s : State) : (s.renew p).consist.coachNumber = s.consist.coachNumber := by unfold State.renew; split <;> rfl
@[simp] theorem State.renew_consist_portion (p : Port) (s : State) : (s.renew p).consist.portion = s.consist.portion := by unfold State.renew; split <;> rfl
@[simp] theorem State.renew_consist_lead (p : Port) (s : State) : (s.renew p).consist.lead = s.consist.lead := by unfold State.renew; split <;> rfl
@[simp] theorem State.renew_consist_leadUnit (p : Port) (s : State) : (s.renew p).consist.leadUnit = s.consist.leadUnit := by unfold State.renew; split <;> rfl
@[simp] theorem State.renew_consist_stagingOwner (p : Port) (s : State) : (s.renew p).consist.stagingOwner = s.consist.stagingOwner := by unfold State.renew; split <;> rfl
@[simp] theorem State.renew_crewPort (s : State) : s.renew .crew = s := rfl
@[simp] theorem State.respond_pending (p : Port) (f : Frame) (s : State) : (s.respond p f).pending = s.pending := by
  cases p with
  | crew => rfl
  | line q => simp only [State.respond]; split <;> simp
@[simp] theorem State.respond_choices (p : Port) (f : Frame) (s : State) : (s.respond p f).choices = s.choices := by
  cases p with
  | crew => rfl
  | line q => simp only [State.respond]; split <;> simp
@[simp] theorem State.respond_inReset (p : Port) (f : Frame) (s : State) : (s.respond p f).inReset = s.inReset := by
  cases p with
  | crew => rfl
  | line q => simp only [State.respond]; split <;> simp
@[simp] theorem State.respond_now (p : Port) (f : Frame) (s : State) : (s.respond p f).now = s.now := by
  cases p with
  | crew => rfl
  | line q => simp only [State.respond]; split <;> simp
@[simp] theorem State.respond_levels (p : Port) (f : Frame) (s : State) : (s.respond p f).levels = s.levels := by
  cases p with
  | crew => rfl
  | line q => simp only [State.respond]; split <;> simp
@[simp] theorem State.respond_params (p : Port) (f : Frame) (s : State) : (s.respond p f).params = s.params := by
  cases p with
  | crew => rfl
  | line q => simp only [State.respond]; split <;> simp
@[simp] theorem State.respond_consist (p : Port) (f : Frame) (s : State) : (s.respond p f).consist = s.consist := by
  cases p with
  | crew => rfl
  | line q => simp only [State.respond]; split <;> simp
@[simp] theorem State.respond_coach (p : Port) (f : Frame) (s : State) : (s.respond p f).coach = s.coach := by
  cases p with
  | crew => rfl
  | line q => simp only [State.respond]; split <;> simp

/-! ## The lead -/

@[simp] theorem State.clearLead_pending (s : State) : (s.clearLead).pending = s.pending := rfl
@[simp] theorem State.clearLead_choices (s : State) : (s.clearLead).choices = s.choices := rfl
@[simp] theorem State.clearLead_inReset (s : State) : (s.clearLead).inReset = s.inReset := rfl
@[simp] theorem State.clearLead_now (s : State) : (s.clearLead).now = s.now := rfl
@[simp] theorem State.clearLead_levels (s : State) : (s.clearLead).levels = s.levels := rfl
@[simp] theorem State.clearLead_params (s : State) : (s.clearLead).params = s.params := rfl
@[simp] theorem State.clearLead_portA (s : State) : (s.clearLead).portA = s.portA := rfl
@[simp] theorem State.clearLead_portB (s : State) : (s.clearLead).portB = s.portB := rfl
@[simp] theorem State.clearLead_crew (s : State) : (s.clearLead).crew = s.crew := rfl
@[simp] theorem State.clearLead_coach (s : State) : (s.clearLead).coach = s.coach := rfl
@[simp] theorem State.flagPort_pending (p : LinePort) (k : Condition) (s : State) : (s.flagPort p k).pending = s.pending := rfl
@[simp] theorem State.flagPort_choices (p : LinePort) (k : Condition) (s : State) : (s.flagPort p k).choices = s.choices := rfl
@[simp] theorem State.flagPort_inReset (p : LinePort) (k : Condition) (s : State) : (s.flagPort p k).inReset = s.inReset := rfl
@[simp] theorem State.flagPort_now (p : LinePort) (k : Condition) (s : State) : (s.flagPort p k).now = s.now := rfl
@[simp] theorem State.flagPort_levels (p : LinePort) (k : Condition) (s : State) : (s.flagPort p k).levels = s.levels := rfl
@[simp] theorem State.flagPort_params (p : LinePort) (k : Condition) (s : State) : (s.flagPort p k).params = s.params := rfl
@[simp] theorem State.flagPort_portA (p : LinePort) (k : Condition) (s : State) : (s.flagPort p k).portA = s.portA := rfl
@[simp] theorem State.flagPort_portB (p : LinePort) (k : Condition) (s : State) : (s.flagPort p k).portB = s.portB := rfl
@[simp] theorem State.flagPort_crew (p : LinePort) (k : Condition) (s : State) : (s.flagPort p k).crew = s.crew := rfl
@[simp] theorem State.flagPort_consist (p : LinePort) (k : Condition) (s : State) : (s.flagPort p k).consist = s.consist := rfl
@[simp] theorem State.discardStaging_pending (s : State) : (s.discardStaging).pending = s.pending := rfl
@[simp] theorem State.discardStaging_choices (s : State) : (s.discardStaging).choices = s.choices := rfl
@[simp] theorem State.discardStaging_inReset (s : State) : (s.discardStaging).inReset = s.inReset := rfl
@[simp] theorem State.discardStaging_now (s : State) : (s.discardStaging).now = s.now := rfl
@[simp] theorem State.discardStaging_levels (s : State) : (s.discardStaging).levels = s.levels := rfl
@[simp] theorem State.discardStaging_params (s : State) : (s.discardStaging).params = s.params := rfl
@[simp] theorem State.discardStaging_portA (s : State) : (s.discardStaging).portA = s.portA := rfl
@[simp] theorem State.discardStaging_portB (s : State) : (s.discardStaging).portB = s.portB := rfl
@[simp] theorem State.discardStaging_crew (s : State) : (s.discardStaging).crew = s.crew := rfl
@[simp] theorem State.loseLead_pending (s : State) : (s.loseLead).pending = s.pending := rfl
@[simp] theorem State.loseLead_choices (s : State) : (s.loseLead).choices = s.choices := rfl
@[simp] theorem State.loseLead_inReset (s : State) : (s.loseLead).inReset = s.inReset := rfl
@[simp] theorem State.loseLead_now (s : State) : (s.loseLead).now = s.now := rfl
@[simp] theorem State.loseLead_levels (s : State) : (s.loseLead).levels = s.levels := rfl
@[simp] theorem State.loseLead_params (s : State) : (s.loseLead).params = s.params := rfl
@[simp] theorem State.loseLead_portA (s : State) : (s.loseLead).portA = s.portA := rfl
@[simp] theorem State.loseLead_portB (s : State) : (s.loseLead).portB = s.portB := rfl
@[simp] theorem State.loseLead_crew (s : State) : (s.loseLead).crew = s.crew := rfl
@[simp] theorem State.yieldLead_pending (q : LinePort) (s : State) : (s.yieldLead q).pending = s.pending := rfl
@[simp] theorem State.yieldLead_choices (q : LinePort) (s : State) : (s.yieldLead q).choices = s.choices := rfl
@[simp] theorem State.yieldLead_inReset (q : LinePort) (s : State) : (s.yieldLead q).inReset = s.inReset := rfl
@[simp] theorem State.yieldLead_now (q : LinePort) (s : State) : (s.yieldLead q).now = s.now := rfl
@[simp] theorem State.yieldLead_levels (q : LinePort) (s : State) : (s.yieldLead q).levels = s.levels := rfl
@[simp] theorem State.yieldLead_params (q : LinePort) (s : State) : (s.yieldLead q).params = s.params := rfl
@[simp] theorem State.yieldLead_portA (q : LinePort) (s : State) : (s.yieldLead q).portA = s.portA := rfl
@[simp] theorem State.yieldLead_portB (q : LinePort) (s : State) : (s.yieldLead q).portB = s.portB := rfl
@[simp] theorem State.yieldLead_crew (q : LinePort) (s : State) : (s.yieldLead q).crew = s.crew := rfl
@[simp] theorem State.onReports_pending (q : LinePort) (f : PortReports → PortReports) (s : State) : (s.onReports q f).pending = s.pending := rfl
@[simp] theorem State.onReports_choices (q : LinePort) (f : PortReports → PortReports) (s : State) : (s.onReports q f).choices = s.choices := rfl
@[simp] theorem State.onReports_inReset (q : LinePort) (f : PortReports → PortReports) (s : State) : (s.onReports q f).inReset = s.inReset := rfl
@[simp] theorem State.onReports_now (q : LinePort) (f : PortReports → PortReports) (s : State) : (s.onReports q f).now = s.now := rfl
@[simp] theorem State.onReports_levels (q : LinePort) (f : PortReports → PortReports) (s : State) : (s.onReports q f).levels = s.levels := rfl
@[simp] theorem State.onReports_params (q : LinePort) (f : PortReports → PortReports) (s : State) : (s.onReports q f).params = s.params := rfl
@[simp] theorem State.onReports_portA (q : LinePort) (f : PortReports → PortReports) (s : State) : (s.onReports q f).portA = s.portA := rfl
@[simp] theorem State.onReports_portB (q : LinePort) (f : PortReports → PortReports) (s : State) : (s.onReports q f).portB = s.portB := rfl
@[simp] theorem State.onReports_crew (q : LinePort) (f : PortReports → PortReports) (s : State) : (s.onReports q f).crew = s.crew := rfl
@[simp] theorem State.onReports_consist (q : LinePort) (f : PortReports → PortReports) (s : State) : (s.onReports q f).consist = s.consist := rfl
@[simp] theorem State.configure_pending (id v : Nat) (s : State) : (s.configure id v).pending = s.pending := rfl
@[simp] theorem State.configure_choices (id v : Nat) (s : State) : (s.configure id v).choices = s.choices := rfl
@[simp] theorem State.configure_inReset (id v : Nat) (s : State) : (s.configure id v).inReset = s.inReset := rfl
@[simp] theorem State.configure_now (id v : Nat) (s : State) : (s.configure id v).now = s.now := rfl
@[simp] theorem State.configure_levels (id v : Nat) (s : State) : (s.configure id v).levels = s.levels := rfl
@[simp] theorem State.configure_portA (id v : Nat) (s : State) : (s.configure id v).portA = s.portA := rfl
@[simp] theorem State.configure_portB (id v : Nat) (s : State) : (s.configure id v).portB = s.portB := rfl
@[simp] theorem State.configure_crew (id v : Nat) (s : State) : (s.configure id v).crew = s.crew := rfl
@[simp] theorem State.configure_consist (id v : Nat) (s : State) : (s.configure id v).consist = s.consist := rfl
@[simp] theorem State.configure_params (id v : Nat) (s : State) : (s.configure id v).params = s.params.write id v := rfl
@[simp] theorem State.loseLead_consist (s : State) : s.loseLead.consist = { s.consist with lead := none, lease := none, stagingOwner := none } := rfl
@[simp] theorem State.yieldLead_consist (q : LinePort) (s : State) : (s.yieldLead q).consist = { s.consist with lead := none, lease := none, stagingOwner := none } := rfl
@[simp] theorem State.grant_pending (q : LinePort) (g u : Nat) (s : State) : (s.grant q g u).pending = s.pending := by
  unfold State.grant; dsimp only; split
  · rfl
  · split <;> rfl
@[simp] theorem State.grant_choices (q : LinePort) (g u : Nat) (s : State) : (s.grant q g u).choices = s.choices := by
  unfold State.grant; dsimp only; split
  · rfl
  · split <;> rfl
@[simp] theorem State.grant_inReset (q : LinePort) (g u : Nat) (s : State) : (s.grant q g u).inReset = s.inReset := by
  unfold State.grant; dsimp only; split
  · rfl
  · split <;> rfl
@[simp] theorem State.grant_now (q : LinePort) (g u : Nat) (s : State) : (s.grant q g u).now = s.now := by
  unfold State.grant; dsimp only; split
  · rfl
  · split <;> rfl
@[simp] theorem State.grant_levels (q : LinePort) (g u : Nat) (s : State) : (s.grant q g u).levels = s.levels := by
  unfold State.grant; dsimp only; split
  · rfl
  · split <;> rfl
@[simp] theorem State.grant_params (q : LinePort) (g u : Nat) (s : State) : (s.grant q g u).params = s.params := by
  unfold State.grant; dsimp only; split
  · rfl
  · split <;> rfl
@[simp] theorem State.grant_portA (q : LinePort) (g u : Nat) (s : State) : (s.grant q g u).portA = s.portA := by
  unfold State.grant; dsimp only; split
  · rfl
  · split <;> rfl
@[simp] theorem State.grant_portB (q : LinePort) (g u : Nat) (s : State) : (s.grant q g u).portB = s.portB := by
  unfold State.grant; dsimp only; split
  · rfl
  · split <;> rfl
@[simp] theorem State.grant_crew (q : LinePort) (g u : Nat) (s : State) : (s.grant q g u).crew = s.crew := by
  unfold State.grant; dsimp only; split
  · rfl
  · split <;> rfl

end Sys2Proof.Machine
end

