-- ==== Sys2Proof/Laws/Coach.lean ====
section
/-! SUPPORT. What each operation of the coach side leaves as it was: one lemma per field per operation. -/

namespace Sys2Proof.Machine


/-! ## Reports -/

@[simp] theorem Coach.raise_journey (e : Env) (r : Report) (c : Coach) : (c.raise e r).journey = c.journey := rfl
@[simp] theorem Coach.raise_axle (e : Env) (r : Report) (c : Coach) : (c.raise e r).axle = c.axle := rfl
@[simp] theorem Coach.raise_position (e : Env) (r : Report) (c : Coach) : (c.raise e r).position = c.position := rfl
@[simp] theorem Coach.raise_seats (e : Env) (r : Report) (c : Coach) : (c.raise e r).seats = c.seats := rfl
@[simp] theorem Coach.raise_sensors (e : Env) (r : Report) (c : Coach) : (c.raise e r).sensors = c.sensors := rfl
@[simp] theorem Coach.raise_lines (e : Env) (r : Report) (c : Coach) : (c.raise e r).lines = c.lines := rfl
@[simp] theorem Coach.raise_notices (e : Env) (r : Report) (c : Coach) : (c.raise e r).notices = c.notices := rfl
@[simp] theorem Coach.raise_map (e : Env) (r : Report) (c : Coach) : (c.raise e r).map = c.map := rfl

/-- A fold keeps what each of its steps keeps. -/
theorem foldl_keeps {α β γ : Type} (g : β → γ) (f : β → α → β) (h : ∀ b a, g (f b a) = g b) (l : List α) (b : β) :
    g (l.foldl f b) = g b := by
  induction l generalizing b with
  | nil => rfl
  | cons a l ih => rw [List.foldl_cons, ih, h]

@[simp] theorem Coach.raiseAll_journey (e : Env) (rs : List Report) (c : Coach) : (c.raiseAll e rs).journey = c.journey := foldl_keeps Coach.journey _ (fun _ _ => by rfl) _ _
@[simp] theorem Coach.raiseAll_axle (e : Env) (rs : List Report) (c : Coach) : (c.raiseAll e rs).axle = c.axle := foldl_keeps Coach.axle _ (fun _ _ => by rfl) _ _
@[simp] theorem Coach.raiseAll_position (e : Env) (rs : List Report) (c : Coach) : (c.raiseAll e rs).position = c.position := foldl_keeps Coach.position _ (fun _ _ => by rfl) _ _
@[simp] theorem Coach.raiseAll_seats (e : Env) (rs : List Report) (c : Coach) : (c.raiseAll e rs).seats = c.seats := foldl_keeps Coach.seats _ (fun _ _ => by rfl) _ _
@[simp] theorem Coach.raiseAll_sensors (e : Env) (rs : List Report) (c : Coach) : (c.raiseAll e rs).sensors = c.sensors := foldl_keeps Coach.sensors _ (fun _ _ => by rfl) _ _
@[simp] theorem Coach.raiseAll_lines (e : Env) (rs : List Report) (c : Coach) : (c.raiseAll e rs).lines = c.lines := foldl_keeps Coach.lines _ (fun _ _ => by rfl) _ _
@[simp] theorem Coach.raiseAll_notices (e : Env) (rs : List Report) (c : Coach) : (c.raiseAll e rs).notices = c.notices := foldl_keeps Coach.notices _ (fun _ _ => by rfl) _ _
@[simp] theorem Coach.raiseAll_map (e : Env) (rs : List Report) (c : Coach) : (c.raiseAll e rs).map = c.map := foldl_keeps Coach.map _ (fun _ _ => by rfl) _ _
@[simp] theorem Coach.setReports_journey (p : LinePort) (r : PortReports) (c : Coach) : (c.setReports p r).journey = c.journey := by cases p <;> rfl
@[simp] theorem Coach.setReports_axle (p : LinePort) (r : PortReports) (c : Coach) : (c.setReports p r).axle = c.axle := by cases p <;> rfl
@[simp] theorem Coach.setReports_position (p : LinePort) (r : PortReports) (c : Coach) : (c.setReports p r).position = c.position := by cases p <;> rfl
@[simp] theorem Coach.setReports_seats (p : LinePort) (r : PortReports) (c : Coach) : (c.setReports p r).seats = c.seats := by cases p <;> rfl
@[simp] theorem Coach.setReports_sensors (p : LinePort) (r : PortReports) (c : Coach) : (c.setReports p r).sensors = c.sensors := by cases p <;> rfl
@[simp] theorem Coach.setReports_lines (p : LinePort) (r : PortReports) (c : Coach) : (c.setReports p r).lines = c.lines := by cases p <;> rfl
@[simp] theorem Coach.setReports_notices (p : LinePort) (r : PortReports) (c : Coach) : (c.setReports p r).notices = c.notices := by cases p <;> rfl
@[simp] theorem Coach.setReports_map (p : LinePort) (r : PortReports) (c : Coach) : (c.setReports p r).map = c.map := by cases p <;> rfl
@[simp] theorem Coach.flagBoth_journey (k : Condition) (v : Bool) (c : Coach) : (c.flagBoth k v).journey = c.journey := rfl
@[simp] theorem Coach.flagBoth_axle (k : Condition) (v : Bool) (c : Coach) : (c.flagBoth k v).axle = c.axle := rfl
@[simp] theorem Coach.flagBoth_position (k : Condition) (v : Bool) (c : Coach) : (c.flagBoth k v).position = c.position := rfl
@[simp] theorem Coach.flagBoth_seats (k : Condition) (v : Bool) (c : Coach) : (c.flagBoth k v).seats = c.seats := rfl
@[simp] theorem Coach.flagBoth_sensors (k : Condition) (v : Bool) (c : Coach) : (c.flagBoth k v).sensors = c.sensors := rfl
@[simp] theorem Coach.flagBoth_lines (k : Condition) (v : Bool) (c : Coach) : (c.flagBoth k v).lines = c.lines := rfl
@[simp] theorem Coach.flagBoth_notices (k : Condition) (v : Bool) (c : Coach) : (c.flagBoth k v).notices = c.notices := rfl
@[simp] theorem Coach.flagBoth_map (k : Condition) (v : Bool) (c : Coach) : (c.flagBoth k v).map = c.map := rfl

/-! ## Seat lines: queues and single changes -/

@[simp] theorem Coach.markStale_journey (c : Coach) : (c.markStale).journey = c.journey := rfl
@[simp] theorem Coach.markStale_axle (c : Coach) : (c.markStale).axle = c.axle := rfl
@[simp] theorem Coach.markStale_position (c : Coach) : (c.markStale).position = c.position := rfl
@[simp] theorem Coach.markStale_seats (c : Coach) : (c.markStale).seats = c.seats := rfl
@[simp] theorem Coach.markStale_sensors (c : Coach) : (c.markStale).sensors = c.sensors := rfl
@[simp] theorem Coach.markStale_notices (c : Coach) : (c.markStale).notices = c.notices := rfl
@[simp] theorem Coach.markStale_map (c : Coach) : (c.markStale).map = c.map := rfl
@[simp] theorem Coach.markStale_reportsA (c : Coach) : (c.markStale).reportsA = c.reportsA := rfl
@[simp] theorem Coach.markStale_reportsB (c : Coach) : (c.markStale).reportsB = c.reportsB := rfl
@[simp] theorem Coach.contentChange_journey (i : Fin 4) (m : Fin 16) (c : Coach) : (c.contentChange i m).journey = c.journey := rfl
@[simp] theorem Coach.contentChange_axle (i : Fin 4) (m : Fin 16) (c : Coach) : (c.contentChange i m).axle = c.axle := rfl
@[simp] theorem Coach.contentChange_position (i : Fin 4) (m : Fin 16) (c : Coach) : (c.contentChange i m).position = c.position := rfl
@[simp] theorem Coach.contentChange_seats (i : Fin 4) (m : Fin 16) (c : Coach) : (c.contentChange i m).seats = c.seats := rfl
@[simp] theorem Coach.contentChange_sensors (i : Fin 4) (m : Fin 16) (c : Coach) : (c.contentChange i m).sensors = c.sensors := rfl
@[simp] theorem Coach.contentChange_notices (i : Fin 4) (m : Fin 16) (c : Coach) : (c.contentChange i m).notices = c.notices := rfl
@[simp] theorem Coach.contentChange_map (i : Fin 4) (m : Fin 16) (c : Coach) : (c.contentChange i m).map = c.map := rfl
@[simp] theorem Coach.contentChange_reportsA (i : Fin 4) (m : Fin 16) (c : Coach) : (c.contentChange i m).reportsA = c.reportsA := rfl
@[simp] theorem Coach.contentChange_reportsB (i : Fin 4) (m : Fin 16) (c : Coach) : (c.contentChange i m).reportsB = c.reportsB := rfl
@[simp] theorem Coach.onLine_journey (i : Fin 4) (f : SeatLine → SeatLine) (c : Coach) : (c.onLine i f).journey = c.journey := rfl
@[simp] theorem Coach.onLine_axle (i : Fin 4) (f : SeatLine → SeatLine) (c : Coach) : (c.onLine i f).axle = c.axle := rfl
@[simp] theorem Coach.onLine_position (i : Fin 4) (f : SeatLine → SeatLine) (c : Coach) : (c.onLine i f).position = c.position := rfl
@[simp] theorem Coach.onLine_seats (i : Fin 4) (f : SeatLine → SeatLine) (c : Coach) : (c.onLine i f).seats = c.seats := rfl
@[simp] theorem Coach.onLine_sensors (i : Fin 4) (f : SeatLine → SeatLine) (c : Coach) : (c.onLine i f).sensors = c.sensors := rfl
@[simp] theorem Coach.onLine_notices (i : Fin 4) (f : SeatLine → SeatLine) (c : Coach) : (c.onLine i f).notices = c.notices := rfl
@[simp] theorem Coach.onLine_map (i : Fin 4) (f : SeatLine → SeatLine) (c : Coach) : (c.onLine i f).map = c.map := rfl
@[simp] theorem Coach.onLine_reportsA (i : Fin 4) (f : SeatLine → SeatLine) (c : Coach) : (c.onLine i f).reportsA = c.reportsA := rfl
@[simp] theorem Coach.onLine_reportsB (i : Fin 4) (f : SeatLine → SeatLine) (c : Coach) : (c.onLine i f).reportsB = c.reportsB := rfl

/-! ## Reservation unit -/

@[simp] theorem Coach.forSeats_journey (e : Env) (f : Seat → EntryCtx → List Entry → List Entry × List Report) (c : Coach) : (c.forSeats e f).journey = c.journey := by simp [Coach.forSeats]
@[simp] theorem Coach.forSeats_axle (e : Env) (f : Seat → EntryCtx → List Entry → List Entry × List Report) (c : Coach) : (c.forSeats e f).axle = c.axle := by simp [Coach.forSeats]
@[simp] theorem Coach.forSeats_position (e : Env) (f : Seat → EntryCtx → List Entry → List Entry × List Report) (c : Coach) : (c.forSeats e f).position = c.position := by simp [Coach.forSeats]
@[simp] theorem Coach.forSeats_sensors (e : Env) (f : Seat → EntryCtx → List Entry → List Entry × List Report) (c : Coach) : (c.forSeats e f).sensors = c.sensors := by simp [Coach.forSeats]
@[simp] theorem Coach.forSeats_lines (e : Env) (f : Seat → EntryCtx → List Entry → List Entry × List Report) (c : Coach) : (c.forSeats e f).lines = c.lines := by simp [Coach.forSeats]
@[simp] theorem Coach.forSeats_notices (e : Env) (f : Seat → EntryCtx → List Entry → List Entry × List Report) (c : Coach) : (c.forSeats e f).notices = c.notices := by simp [Coach.forSeats]
@[simp] theorem Coach.forSeats_map (e : Env) (f : Seat → EntryCtx → List Entry → List Entry × List Report) (c : Coach) : (c.forSeats e f).map = c.map := by simp [Coach.forSeats]
@[simp] theorem Coach.retireSeats_journey (c : Coach) : (c.retireSeats).journey = c.journey := rfl
@[simp] theorem Coach.retireSeats_axle (c : Coach) : (c.retireSeats).axle = c.axle := rfl
@[simp] theorem Coach.retireSeats_position (c : Coach) : (c.retireSeats).position = c.position := rfl
@[simp] theorem Coach.retireSeats_sensors (c : Coach) : (c.retireSeats).sensors = c.sensors := rfl
@[simp] theorem Coach.retireSeats_lines (c : Coach) : (c.retireSeats).lines = c.lines := rfl
@[simp] theorem Coach.retireSeats_notices (c : Coach) : (c.retireSeats).notices = c.notices := rfl
@[simp] theorem Coach.retireSeats_map (c : Coach) : (c.retireSeats).map = c.map := rfl
@[simp] theorem Coach.retireSeats_reportsA (c : Coach) : (c.retireSeats).reportsA = c.reportsA := rfl
@[simp] theorem Coach.retireSeats_reportsB (c : Coach) : (c.retireSeats).reportsB = c.reportsB := rfl
@[simp] theorem Coach.refresh_journey (e : Env) (c : Coach) : (c.refresh e).journey = c.journey := by unfold Coach.refresh; exact foldl_keeps Coach.journey _ (fun _ _ => by rfl) _ _
@[simp] theorem Coach.refresh_axle (e : Env) (c : Coach) : (c.refresh e).axle = c.axle := by unfold Coach.refresh; exact foldl_keeps Coach.axle _ (fun _ _ => by rfl) _ _
@[simp] theorem Coach.refresh_position (e : Env) (c : Coach) : (c.refresh e).position = c.position := by unfold Coach.refresh; exact foldl_keeps Coach.position _ (fun _ _ => by rfl) _ _
@[simp] theorem Coach.refresh_sensors (e : Env) (c : Coach) : (c.refresh e).sensors = c.sensors := by unfold Coach.refresh; exact foldl_keeps Coach.sensors _ (fun _ _ => by rfl) _ _
@[simp] theorem Coach.refresh_notices (e : Env) (c : Coach) : (c.refresh e).notices = c.notices := by unfold Coach.refresh; exact foldl_keeps Coach.notices _ (fun _ _ => by rfl) _ _
@[simp] theorem Coach.refresh_map (e : Env) (c : Coach) : (c.refresh e).map = c.map := by unfold Coach.refresh; exact foldl_keeps Coach.map _ (fun _ _ => by rfl) _ _
@[simp] theorem Coach.refresh_reportsA (e : Env) (c : Coach) : (c.refresh e).reportsA = c.reportsA := by unfold Coach.refresh; exact foldl_keeps Coach.reportsA _ (fun _ _ => by rfl) _ _
@[simp] theorem Coach.refresh_reportsB (e : Env) (c : Coach) : (c.refresh e).reportsB = c.reportsB := by unfold Coach.refresh; exact foldl_keeps Coach.reportsB _ (fun _ _ => by rfl) _ _
@[simp] theorem Coach.reserveCommit_journey (e : Env) (old : List StopRec) (c : Coach) : (c.reserveCommit e old).journey = c.journey := by simp [Coach.reserveCommit]
@[simp] theorem Coach.reserveCommit_axle (e : Env) (old : List StopRec) (c : Coach) : (c.reserveCommit e old).axle = c.axle := by simp [Coach.reserveCommit]
@[simp] theorem Coach.reserveCommit_position (e : Env) (old : List StopRec) (c : Coach) : (c.reserveCommit e old).position = c.position := by simp [Coach.reserveCommit]
@[simp] theorem Coach.reserveCommit_sensors (e : Env) (old : List StopRec) (c : Coach) : (c.reserveCommit e old).sensors = c.sensors := by simp [Coach.reserveCommit]
@[simp] theorem Coach.reserveCommit_notices (e : Env) (old : List StopRec) (c : Coach) : (c.reserveCommit e old).notices = c.notices := by simp [Coach.reserveCommit]
@[simp] theorem Coach.reserveCommit_map (e : Env) (old : List StopRec) (c : Coach) : (c.reserveCommit e old).map = c.map := by simp [Coach.reserveCommit]

@[simp] theorem Coach.reserveAmend_journey (e : Env) (c : Coach) : (c.reserveAmend e).journey = c.journey := by simp [Coach.reserveAmend]
@[simp] theorem Coach.reserveAmend_axle (e : Env) (c : Coach) : (c.reserveAmend e).axle = c.axle := by simp [Coach.reserveAmend]
@[simp] theorem Coach.reserveAmend_position (e : Env) (c : Coach) : (c.reserveAmend e).position = c.position := by simp [Coach.reserveAmend]
@[simp] theorem Coach.reserveAmend_sensors (e : Env) (c : Coach) : (c.reserveAmend e).sensors = c.sensors := by simp [Coach.reserveAmend]
@[simp] theorem Coach.reserveAmend_notices (e : Env) (c : Coach) : (c.reserveAmend e).notices = c.notices := by simp [Coach.reserveAmend]
@[simp] theorem Coach.reserveAmend_map (e : Env) (c : Coach) : (c.reserveAmend e).map = c.map := by simp [Coach.reserveAmend]

@[simp] theorem Coach.reserveArrival_journey (e : Env) (i : Nat) (c : Coach) : (c.reserveArrival e i).journey = c.journey := by simp [Coach.reserveArrival]
@[simp] theorem Coach.reserveArrival_axle (e : Env) (i : Nat) (c : Coach) : (c.reserveArrival e i).axle = c.axle := by simp [Coach.reserveArrival]
@[simp] theorem Coach.reserveArrival_position (e : Env) (i : Nat) (c : Coach) : (c.reserveArrival e i).position = c.position := by simp [Coach.reserveArrival]
@[simp] theorem Coach.reserveArrival_sensors (e : Env) (i : Nat) (c : Coach) : (c.reserveArrival e i).sensors = c.sensors := by simp [Coach.reserveArrival]
@[simp] theorem Coach.reserveArrival_notices (e : Env) (i : Nat) (c : Coach) : (c.reserveArrival e i).notices = c.notices := by simp [Coach.reserveArrival]
@[simp] theorem Coach.reserveArrival_map (e : Env) (i : Nat) (c : Coach) : (c.reserveArrival e i).map = c.map := by simp [Coach.reserveArrival]

@[simp] theorem Coach.reserveDeparture_journey (e : Env) (k : Nat) (c : Coach) : (c.reserveDeparture e k).journey = c.journey := by simp [Coach.reserveDeparture]
@[simp] theorem Coach.reserveDeparture_axle (e : Env) (k : Nat) (c : Coach) : (c.reserveDeparture e k).axle = c.axle := by simp [Coach.reserveDeparture]
@[simp] theorem Coach.reserveDeparture_position (e : Env) (k : Nat) (c : Coach) : (c.reserveDeparture e k).position = c.position := by simp [Coach.reserveDeparture]
@[simp] theorem Coach.reserveDeparture_sensors (e : Env) (k : Nat) (c : Coach) : (c.reserveDeparture e k).sensors = c.sensors := by simp [Coach.reserveDeparture]
@[simp] theorem Coach.reserveDeparture_notices (e : Env) (k : Nat) (c : Coach) : (c.reserveDeparture e k).notices = c.notices := by simp [Coach.reserveDeparture]
@[simp] theorem Coach.reserveDeparture_map (e : Env) (k : Nat) (c : Coach) : (c.reserveDeparture e k).map = c.map := by simp [Coach.reserveDeparture]

@[simp] theorem Coach.reserveRunThrough_journey (e : Env) (i k : Nat) (c : Coach) : (c.reserveRunThrough e i k).journey = c.journey := by simp [Coach.reserveRunThrough]
@[simp] theorem Coach.reserveRunThrough_axle (e : Env) (i k : Nat) (c : Coach) : (c.reserveRunThrough e i k).axle = c.axle := by simp [Coach.reserveRunThrough]
@[simp] theorem Coach.reserveRunThrough_position (e : Env) (i k : Nat) (c : Coach) : (c.reserveRunThrough e i k).position = c.position := by simp [Coach.reserveRunThrough]
@[simp] theorem Coach.reserveRunThrough_sensors (e : Env) (i k : Nat) (c : Coach) : (c.reserveRunThrough e i k).sensors = c.sensors := by simp [Coach.reserveRunThrough]
@[simp] theorem Coach.reserveRunThrough_notices (e : Env) (i k : Nat) (c : Coach) : (c.reserveRunThrough e i k).notices = c.notices := by simp [Coach.reserveRunThrough]
@[simp] theorem Coach.reserveRunThrough_map (e : Env) (i k : Nat) (c : Coach) : (c.reserveRunThrough e i k).map = c.map := by simp [Coach.reserveRunThrough]

@[simp] theorem Coach.reservePosition_journey (e : Env) (c : Coach) : (c.reservePosition e).journey = c.journey := by simp [Coach.reservePosition]
@[simp] theorem Coach.reservePosition_axle (e : Env) (c : Coach) : (c.reservePosition e).axle = c.axle := by simp [Coach.reservePosition]
@[simp] theorem Coach.reservePosition_position (e : Env) (c : Coach) : (c.reservePosition e).position = c.position := by simp [Coach.reservePosition]
@[simp] theorem Coach.reservePosition_sensors (e : Env) (c : Coach) : (c.reservePosition e).sensors = c.sensors := by simp [Coach.reservePosition]
@[simp] theorem Coach.reservePosition_notices (e : Env) (c : Coach) : (c.reservePosition e).notices = c.notices := by simp [Coach.reservePosition]
@[simp] theorem Coach.reservePosition_map (e : Env) (c : Coach) : (c.reservePosition e).map = c.map := by simp [Coach.reservePosition]

@[simp] theorem Coach.reserveFixed_journey (e : Env) (c : Coach) : (c.reserveFixed e).journey = c.journey := by simp [Coach.reserveFixed]
@[simp] theorem Coach.reserveFixed_axle (e : Env) (c : Coach) : (c.reserveFixed e).axle = c.axle := by simp [Coach.reserveFixed]
@[simp] theorem Coach.reserveFixed_position (e : Env) (c : Coach) : (c.reserveFixed e).position = c.position := by simp [Coach.reserveFixed]
@[simp] theorem Coach.reserveFixed_sensors (e : Env) (c : Coach) : (c.reserveFixed e).sensors = c.sensors := by simp [Coach.reserveFixed]
@[simp] theorem Coach.reserveFixed_notices (e : Env) (c : Coach) : (c.reserveFixed e).notices = c.notices := by simp [Coach.reserveFixed]
@[simp] theorem Coach.reserveFixed_map (e : Env) (c : Coach) : (c.reserveFixed e).map = c.map := by simp [Coach.reserveFixed]

@[simp] theorem Coach.reservePlace_journey (e : Env) (p : PlaceId) (c : Coach) : (c.reservePlace e p).journey = c.journey := by simp [Coach.reservePlace]
@[simp] theorem Coach.reservePlace_axle (e : Env) (p : PlaceId) (c : Coach) : (c.reservePlace e p).axle = c.axle := by simp [Coach.reservePlace]
@[simp] theorem Coach.reservePlace_position (e : Env) (p : PlaceId) (c : Coach) : (c.reservePlace e p).position = c.position := by simp [Coach.reservePlace]
@[simp] theorem Coach.reservePlace_sensors (e : Env) (p : PlaceId) (c : Coach) : (c.reservePlace e p).sensors = c.sensors := by simp [Coach.reservePlace]
@[simp] theorem Coach.reservePlace_notices (e : Env) (p : PlaceId) (c : Coach) : (c.reservePlace e p).notices = c.notices := by simp [Coach.reservePlace]
@[simp] theorem Coach.reservePlace_map (e : Env) (p : PlaceId) (c : Coach) : (c.reservePlace e p).map = c.map := by simp [Coach.reservePlace]

@[simp] theorem Coach.reserveEmpty_journey (e : Env) (c : Coach) : (c.reserveEmpty e).journey = c.journey := by simp [Coach.reserveEmpty]
@[simp] theorem Coach.reserveEmpty_axle (e : Env) (c : Coach) : (c.reserveEmpty e).axle = c.axle := by simp [Coach.reserveEmpty]
@[simp] theorem Coach.reserveEmpty_position (e : Env) (c : Coach) : (c.reserveEmpty e).position = c.position := by simp [Coach.reserveEmpty]
@[simp] theorem Coach.reserveEmpty_sensors (e : Env) (c : Coach) : (c.reserveEmpty e).sensors = c.sensors := by simp [Coach.reserveEmpty]
@[simp] theorem Coach.reserveEmpty_notices (e : Env) (c : Coach) : (c.reserveEmpty e).notices = c.notices := by simp [Coach.reserveEmpty]
@[simp] theorem Coach.reserveEmpty_map (e : Env) (c : Coach) : (c.reserveEmpty e).map = c.map := by simp [Coach.reserveEmpty]

@[simp] theorem Coach.onEntries_journey (e : Env) (n : Nat) (f : List Entry → List Entry) (c : Coach) : (c.onEntries e n f).journey = c.journey := by simp [Coach.onEntries]
@[simp] theorem Coach.onEntries_axle (e : Env) (n : Nat) (f : List Entry → List Entry) (c : Coach) : (c.onEntries e n f).axle = c.axle := by simp [Coach.onEntries]
@[simp] theorem Coach.onEntries_position (e : Env) (n : Nat) (f : List Entry → List Entry) (c : Coach) : (c.onEntries e n f).position = c.position := by simp [Coach.onEntries]
@[simp] theorem Coach.onEntries_sensors (e : Env) (n : Nat) (f : List Entry → List Entry) (c : Coach) : (c.onEntries e n f).sensors = c.sensors := by simp [Coach.onEntries]
@[simp] theorem Coach.onEntries_notices (e : Env) (n : Nat) (f : List Entry → List Entry) (c : Coach) : (c.onEntries e n f).notices = c.notices := by simp [Coach.onEntries]
@[simp] theorem Coach.onEntries_map (e : Env) (n : Nat) (f : List Entry → List Entry) (c : Coach) : (c.onEntries e n f).map = c.map := by simp [Coach.onEntries]
@[simp] theorem Coach.onEntries_reportsA (e : Env) (n : Nat) (f : List Entry → List Entry) (c : Coach) : (c.onEntries e n f).reportsA = c.reportsA := by simp [Coach.onEntries]
@[simp] theorem Coach.onEntries_reportsB (e : Env) (n : Nat) (f : List Entry → List Entry) (c : Coach) : (c.onEntries e n f).reportsB = c.reportsB := by simp [Coach.onEntries]
@[simp] theorem Coach.book_journey (e : Env) (s : Seat) (x : Entry) (c : Coach) : (c.book e s x).journey = c.journey := by simp [Coach.book]
@[simp] theorem Coach.book_axle (e : Env) (s : Seat) (x : Entry) (c : Coach) : (c.book e s x).axle = c.axle := by simp [Coach.book]
@[simp] theorem Coach.book_position (e : Env) (s : Seat) (x : Entry) (c : Coach) : (c.book e s x).position = c.position := by simp [Coach.book]
@[simp] theorem Coach.book_sensors (e : Env) (s : Seat) (x : Entry) (c : Coach) : (c.book e s x).sensors = c.sensors := by simp [Coach.book]
@[simp] theorem Coach.book_notices (e : Env) (s : Seat) (x : Entry) (c : Coach) : (c.book e s x).notices = c.notices := by simp [Coach.book]
@[simp] theorem Coach.book_map (e : Env) (s : Seat) (x : Entry) (c : Coach) : (c.book e s x).map = c.map := by simp [Coach.book]
@[simp] theorem Coach.setUse_journey (n : Nat) (on : Bool) (e : Env) (c : Coach) : (c.setUse n on e).journey = c.journey := by simp [Coach.setUse]
@[simp] theorem Coach.setUse_axle (n : Nat) (on : Bool) (e : Env) (c : Coach) : (c.setUse n on e).axle = c.axle := by simp [Coach.setUse]
@[simp] theorem Coach.setUse_position (n : Nat) (on : Bool) (e : Env) (c : Coach) : (c.setUse n on e).position = c.position := by simp [Coach.setUse]
@[simp] theorem Coach.setUse_sensors (n : Nat) (on : Bool) (e : Env) (c : Coach) : (c.setUse n on e).sensors = c.sensors := by simp [Coach.setUse]
@[simp] theorem Coach.setUse_notices (n : Nat) (on : Bool) (e : Env) (c : Coach) : (c.setUse n on e).notices = c.notices := by simp [Coach.setUse]
@[simp] theorem Coach.setUse_map (n : Nat) (on : Bool) (e : Env) (c : Coach) : (c.setUse n on e).map = c.map := by simp [Coach.setUse]
@[simp] theorem Coach.setUse_reportsA (n : Nat) (on : Bool) (e : Env) (c : Coach) : (c.setUse n on e).reportsA = c.reportsA := by simp [Coach.setUse]
@[simp] theorem Coach.setUse_reportsB (n : Nat) (on : Bool) (e : Env) (c : Coach) : (c.setUse n on e).reportsB = c.reportsB := by simp [Coach.setUse]
@[simp] theorem Coach.mapSeats_journey (ds : List SeatDesc) (c : Coach) : (c.mapSeats ds).journey = c.journey := by unfold Coach.mapSeats; exact foldl_keeps Coach.journey _ (fun _ _ => by rfl) _ _
@[simp] theorem Coach.mapSeats_axle (ds : List SeatDesc) (c : Coach) : (c.mapSeats ds).axle = c.axle := by unfold Coach.mapSeats; exact foldl_keeps Coach.axle _ (fun _ _ => by rfl) _ _
@[simp] theorem Coach.mapSeats_position (ds : List SeatDesc) (c : Coach) : (c.mapSeats ds).position = c.position := by unfold Coach.mapSeats; exact foldl_keeps Coach.position _ (fun _ _ => by rfl) _ _
@[simp] theorem Coach.mapSeats_sensors (ds : List SeatDesc) (c : Coach) : (c.mapSeats ds).sensors = c.sensors := by unfold Coach.mapSeats; exact foldl_keeps Coach.sensors _ (fun _ _ => by rfl) _ _
@[simp] theorem Coach.mapSeats_notices (ds : List SeatDesc) (c : Coach) : (c.mapSeats ds).notices = c.notices := by unfold Coach.mapSeats; exact foldl_keeps Coach.notices _ (fun _ _ => by rfl) _ _
@[simp] theorem Coach.mapSeats_map (ds : List SeatDesc) (c : Coach) : (c.mapSeats ds).map = c.map := by unfold Coach.mapSeats; exact foldl_keeps Coach.map _ (fun _ _ => by rfl) _ _
@[simp] theorem Coach.mapSeats_reportsA (ds : List SeatDesc) (c : Coach) : (c.mapSeats ds).reportsA = c.reportsA := by unfold Coach.mapSeats; exact foldl_keeps Coach.reportsA _ (fun _ _ => by rfl) _ _
@[simp] theorem Coach.mapSeats_reportsB (ds : List SeatDesc) (c : Coach) : (c.mapSeats ds).reportsB = c.reportsB := by unfold Coach.mapSeats; exact foldl_keeps Coach.reportsB _ (fun _ _ => by rfl) _ _

/-! ## Notice unit -/

@[simp] theorem Coach.endNotices_journey (e : Env) (f : Notice → Option Nat) (c : Coach) : (c.endNotices e f).journey = c.journey := by simp [Coach.endNotices]
@[simp] theorem Coach.endNotices_axle (e : Env) (f : Notice → Option Nat) (c : Coach) : (c.endNotices e f).axle = c.axle := by simp [Coach.endNotices]
@[simp] theorem Coach.endNotices_position (e : Env) (f : Notice → Option Nat) (c : Coach) : (c.endNotices e f).position = c.position := by simp [Coach.endNotices]
@[simp] theorem Coach.endNotices_seats (e : Env) (f : Notice → Option Nat) (c : Coach) : (c.endNotices e f).seats = c.seats := by simp [Coach.endNotices]
@[simp] theorem Coach.endNotices_sensors (e : Env) (f : Notice → Option Nat) (c : Coach) : (c.endNotices e f).sensors = c.sensors := by simp [Coach.endNotices]
@[simp] theorem Coach.endNotices_lines (e : Env) (f : Notice → Option Nat) (c : Coach) : (c.endNotices e f).lines = c.lines := by simp [Coach.endNotices]
@[simp] theorem Coach.endNotices_map (e : Env) (f : Notice → Option Nat) (c : Coach) : (c.endNotices e f).map = c.map := by simp [Coach.endNotices]
@[simp] theorem Coach.createKind_journey (e : Env) (c : Coach) (k : NoticeKind) : (c.createKind e k).journey = c.journey := by
  unfold Coach.createKind; split
  · split <;> rfl
  · rfl
@[simp] theorem Coach.createKind_axle (e : Env) (c : Coach) (k : NoticeKind) : (c.createKind e k).axle = c.axle := by
  unfold Coach.createKind; split
  · split <;> rfl
  · rfl
@[simp] theorem Coach.createKind_position (e : Env) (c : Coach) (k : NoticeKind) : (c.createKind e k).position = c.position := by
  unfold Coach.createKind; split
  · split <;> rfl
  · rfl
@[simp] theorem Coach.createKind_seats (e : Env) (c : Coach) (k : NoticeKind) : (c.createKind e k).seats = c.seats := by
  unfold Coach.createKind; split
  · split <;> rfl
  · rfl
@[simp] theorem Coach.createKind_sensors (e : Env) (c : Coach) (k : NoticeKind) : (c.createKind e k).sensors = c.sensors := by
  unfold Coach.createKind; split
  · split <;> rfl
  · rfl
@[simp] theorem Coach.createKind_lines (e : Env) (c : Coach) (k : NoticeKind) : (c.createKind e k).lines = c.lines := by
  unfold Coach.createKind; split
  · split <;> rfl
  · rfl
@[simp] theorem Coach.createKind_map (e : Env) (c : Coach) (k : NoticeKind) : (c.createKind e k).map = c.map := by
  unfold Coach.createKind; split
  · split <;> rfl
  · rfl
@[simp] theorem Coach.createKind_reportsA (e : Env) (c : Coach) (k : NoticeKind) : (c.createKind e k).reportsA = c.reportsA := by
  unfold Coach.createKind; split
  · split <;> rfl
  · rfl
@[simp] theorem Coach.createKind_reportsB (e : Env) (c : Coach) (k : NoticeKind) : (c.createKind e k).reportsB = c.reportsB := by
  unfold Coach.createKind; split
  · split <;> rfl
  · rfl
@[simp] theorem Coach.regenerate_journey (e : Env) (g : NoticeChange) (c : Coach) : (c.regenerate e g).journey = c.journey := by unfold Coach.regenerate; rw [foldl_keeps Coach.journey _ (fun _ _ => by simp)]
@[simp] theorem Coach.regenerate_axle (e : Env) (g : NoticeChange) (c : Coach) : (c.regenerate e g).axle = c.axle := by unfold Coach.regenerate; rw [foldl_keeps Coach.axle _ (fun _ _ => by simp)]
@[simp] theorem Coach.regenerate_position (e : Env) (g : NoticeChange) (c : Coach) : (c.regenerate e g).position = c.position := by unfold Coach.regenerate; rw [foldl_keeps Coach.position _ (fun _ _ => by simp)]
@[simp] theorem Coach.regenerate_seats (e : Env) (g : NoticeChange) (c : Coach) : (c.regenerate e g).seats = c.seats := by unfold Coach.regenerate; rw [foldl_keeps Coach.seats _ (fun _ _ => by simp)]
@[simp] theorem Coach.regenerate_sensors (e : Env) (g : NoticeChange) (c : Coach) : (c.regenerate e g).sensors = c.sensors := by unfold Coach.regenerate; rw [foldl_keeps Coach.sensors _ (fun _ _ => by simp)]
@[simp] theorem Coach.regenerate_lines (e : Env) (g : NoticeChange) (c : Coach) : (c.regenerate e g).lines = c.lines := by unfold Coach.regenerate; rw [foldl_keeps Coach.lines _ (fun _ _ => by simp)]
@[simp] theorem Coach.regenerate_map (e : Env) (g : NoticeChange) (c : Coach) : (c.regenerate e g).map = c.map := by unfold Coach.regenerate; rw [foldl_keeps Coach.map _ (fun _ _ => by simp)]
@[simp] theorem Coach.regenerate_reportsA (e : Env) (g : NoticeChange) (c : Coach) : (c.regenerate e g).reportsA = c.reportsA := by unfold Coach.regenerate; rw [foldl_keeps Coach.reportsA _ (fun _ _ => by simp)]
@[simp] theorem Coach.regenerate_reportsB (e : Env) (g : NoticeChange) (c : Coach) : (c.regenerate e g).reportsB = c.reportsB := by unfold Coach.regenerate; rw [foldl_keeps Coach.reportsB _ (fun _ _ => by simp)]
@[simp] theorem Coach.armNotices_journey (e : Env) (g : NoticeChange) (c : Coach) : (c.armNotices e g).journey = c.journey := rfl
@[simp] theorem Coach.armNotices_axle (e : Env) (g : NoticeChange) (c : Coach) : (c.armNotices e g).axle = c.axle := rfl
@[simp] theorem Coach.armNotices_position (e : Env) (g : NoticeChange) (c : Coach) : (c.armNotices e g).position = c.position := rfl
@[simp] theorem Coach.armNotices_seats (e : Env) (g : NoticeChange) (c : Coach) : (c.armNotices e g).seats = c.seats := rfl
@[simp] theorem Coach.armNotices_sensors (e : Env) (g : NoticeChange) (c : Coach) : (c.armNotices e g).sensors = c.sensors := rfl
@[simp] theorem Coach.armNotices_lines (e : Env) (g : NoticeChange) (c : Coach) : (c.armNotices e g).lines = c.lines := rfl
@[simp] theorem Coach.armNotices_map (e : Env) (g : NoticeChange) (c : Coach) : (c.armNotices e g).map = c.map := rfl
@[simp] theorem Coach.armNotices_reportsA (e : Env) (g : NoticeChange) (c : Coach) : (c.armNotices e g).reportsA = c.reportsA := rfl
@[simp] theorem Coach.armNotices_reportsB (e : Env) (g : NoticeChange) (c : Coach) : (c.armNotices e g).reportsB = c.reportsB := rfl
@[simp] theorem Coach.selectNotice_journey (e : Env) (c : Coach) : (c.selectNotice e).journey = c.journey := by unfold Coach.selectNotice; split <;> rfl
@[simp] theorem Coach.selectNotice_axle (e : Env) (c : Coach) : (c.selectNotice e).axle = c.axle := by unfold Coach.selectNotice; split <;> rfl
@[simp] theorem Coach.selectNotice_position (e : Env) (c : Coach) : (c.selectNotice e).position = c.position := by unfold Coach.selectNotice; split <;> rfl
@[simp] theorem Coach.selectNotice_seats (e : Env) (c : Coach) : (c.selectNotice e).seats = c.seats := by unfold Coach.selectNotice; split <;> rfl
@[simp] theorem Coach.selectNotice_sensors (e : Env) (c : Coach) : (c.selectNotice e).sensors = c.sensors := by unfold Coach.selectNotice; split <;> rfl
@[simp] theorem Coach.selectNotice_lines (e : Env) (c : Coach) : (c.selectNotice e).lines = c.lines := by unfold Coach.selectNotice; split <;> rfl
@[simp] theorem Coach.selectNotice_map (e : Env) (c : Coach) : (c.selectNotice e).map = c.map := by unfold Coach.selectNotice; split <;> rfl
@[simp] theorem Coach.selectNotice_reportsA (e : Env) (c : Coach) : (c.selectNotice e).reportsA = c.reportsA := by unfold Coach.selectNotice; split <;> rfl
@[simp] theorem Coach.selectNotice_reportsB (e : Env) (c : Coach) : (c.selectNotice e).reportsB = c.reportsB := by unfold Coach.selectNotice; split <;> rfl
@[simp] theorem Coach.evalDoors_journey (c : Coach) : (c.evalDoors).journey = c.journey := rfl
@[simp] theorem Coach.evalDoors_axle (c : Coach) : (c.evalDoors).axle = c.axle := rfl
@[simp] theorem Coach.evalDoors_position (c : Coach) : (c.evalDoors).position = c.position := rfl
@[simp] theorem Coach.evalDoors_seats (c : Coach) : (c.evalDoors).seats = c.seats := rfl
@[simp] theorem Coach.evalDoors_sensors (c : Coach) : (c.evalDoors).sensors = c.sensors := rfl
@[simp] theorem Coach.evalDoors_lines (c : Coach) : (c.evalDoors).lines = c.lines := rfl
@[simp] theorem Coach.evalDoors_map (c : Coach) : (c.evalDoors).map = c.map := rfl
@[simp] theorem Coach.evalDoors_reportsA (c : Coach) : (c.evalDoors).reportsA = c.reportsA := rfl
@[simp] theorem Coach.evalDoors_reportsB (c : Coach) : (c.evalDoors).reportsB = c.reportsB := rfl
@[simp] theorem Coach.evalPage_journey (e : Env) (b : Bool) (c : Coach) : (c.evalPage e b).journey = c.journey := rfl
@[simp] theorem Coach.evalPage_axle (e : Env) (b : Bool) (c : Coach) : (c.evalPage e b).axle = c.axle := rfl
@[simp] theorem Coach.evalPage_position (e : Env) (b : Bool) (c : Coach) : (c.evalPage e b).position = c.position := rfl
@[simp] theorem Coach.evalPage_seats (e : Env) (b : Bool) (c : Coach) : (c.evalPage e b).seats = c.seats := rfl
@[simp] theorem Coach.evalPage_sensors (e : Env) (b : Bool) (c : Coach) : (c.evalPage e b).sensors = c.sensors := rfl
@[simp] theorem Coach.evalPage_lines (e : Env) (b : Bool) (c : Coach) : (c.evalPage e b).lines = c.lines := rfl
@[simp] theorem Coach.evalPage_map (e : Env) (b : Bool) (c : Coach) : (c.evalPage e b).map = c.map := rfl
@[simp] theorem Coach.evalPage_reportsA (e : Env) (b : Bool) (c : Coach) : (c.evalPage e b).reportsA = c.reportsA := rfl
@[simp] theorem Coach.evalPage_reportsB (e : Env) (b : Bool) (c : Coach) : (c.evalPage e b).reportsB = c.reportsB := rfl
@[simp] theorem Coach.onNotices_journey (f : NoticeUnit → NoticeUnit) (c : Coach) : (c.onNotices f).journey = c.journey := rfl
@[simp] theorem Coach.onNotices_axle (f : NoticeUnit → NoticeUnit) (c : Coach) : (c.onNotices f).axle = c.axle := rfl
@[simp] theorem Coach.onNotices_position (f : NoticeUnit → NoticeUnit) (c : Coach) : (c.onNotices f).position = c.position := rfl
@[simp] theorem Coach.onNotices_seats (f : NoticeUnit → NoticeUnit) (c : Coach) : (c.onNotices f).seats = c.seats := rfl
@[simp] theorem Coach.onNotices_sensors (f : NoticeUnit → NoticeUnit) (c : Coach) : (c.onNotices f).sensors = c.sensors := rfl
@[simp] theorem Coach.onNotices_lines (f : NoticeUnit → NoticeUnit) (c : Coach) : (c.onNotices f).lines = c.lines := rfl
@[simp] theorem Coach.onNotices_map (f : NoticeUnit → NoticeUnit) (c : Coach) : (c.onNotices f).map = c.map := rfl
@[simp] theorem Coach.onNotices_reportsA (f : NoticeUnit → NoticeUnit) (c : Coach) : (c.onNotices f).reportsA = c.reportsA := rfl
@[simp] theorem Coach.onNotices_reportsB (f : NoticeUnit → NoticeUnit) (c : Coach) : (c.onNotices f).reportsB = c.reportsB := rfl
@[simp] theorem Coach.beginPage_journey (e : Env) (c : Coach) : (c.beginPage e).journey = c.journey := rfl
@[simp] theorem Coach.beginPage_axle (e : Env) (c : Coach) : (c.beginPage e).axle = c.axle := rfl
@[simp] theorem Coach.beginPage_position (e : Env) (c : Coach) : (c.beginPage e).position = c.position := rfl
@[simp] theorem Coach.beginPage_seats (e : Env) (c : Coach) : (c.beginPage e).seats = c.seats := rfl
@[simp] theorem Coach.beginPage_sensors (e : Env) (c : Coach) : (c.beginPage e).sensors = c.sensors := rfl
@[simp] theorem Coach.beginPage_lines (e : Env) (c : Coach) : (c.beginPage e).lines = c.lines := rfl
@[simp] theorem Coach.beginPage_map (e : Env) (c : Coach) : (c.beginPage e).map = c.map := rfl
@[simp] theorem Coach.beginPage_reportsA (e : Env) (c : Coach) : (c.beginPage e).reportsA = c.reportsA := rfl
@[simp] theorem Coach.beginPage_reportsB (e : Env) (c : Coach) : (c.beginPage e).reportsB = c.reportsB := rfl
@[simp] theorem Coach.noticeQueueStep_journey (e : Env) (g : NoticeChange) (c : Coach) : (c.noticeQueueStep e g).journey = c.journey := by
  unfold Coach.noticeQueueStep; split
  · rfl
  · dsimp only; split <;> simp
@[simp] theorem Coach.noticeQueueStep_axle (e : Env) (g : NoticeChange) (c : Coach) : (c.noticeQueueStep e g).axle = c.axle := by
  unfold Coach.noticeQueueStep; split
  · rfl
  · dsimp only; split <;> simp
@[simp] theorem Coach.noticeQueueStep_position (e : Env) (g : NoticeChange) (c : Coach) : (c.noticeQueueStep e g).position = c.position := by
  unfold Coach.noticeQueueStep; split
  · rfl
  · dsimp only; split <;> simp
@[simp] theorem Coach.noticeQueueStep_seats (e : Env) (g : NoticeChange) (c : Coach) : (c.noticeQueueStep e g).seats = c.seats := by
  unfold Coach.noticeQueueStep; split
  · rfl
  · dsimp only; split <;> simp
@[simp] theorem Coach.noticeQueueStep_sensors (e : Env) (g : NoticeChange) (c : Coach) : (c.noticeQueueStep e g).sensors = c.sensors := by
  unfold Coach.noticeQueueStep; split
  · rfl
  · dsimp only; split <;> simp
@[simp] theorem Coach.noticeQueueStep_lines (e : Env) (g : NoticeChange) (c : Coach) : (c.noticeQueueStep e g).lines = c.lines := by
  unfold Coach.noticeQueueStep; split
  · rfl
  · dsimp only; split <;> simp
@[simp] theorem Coach.noticeQueueStep_map (e : Env) (g : NoticeChange) (c : Coach) : (c.noticeQueueStep e g).map = c.map := by
  unfold Coach.noticeQueueStep; split
  · rfl
  · dsimp only; split <;> simp
@[simp] theorem Coach.notice_journey (e : Env) (g : NoticeChange) (c : Coach) : (c.notice e g).journey = c.journey := by
  unfold Coach.notice; dsimp only; split <;> split <;> simp
@[simp] theorem Coach.notice_axle (e : Env) (g : NoticeChange) (c : Coach) : (c.notice e g).axle = c.axle := by
  unfold Coach.notice; dsimp only; split <;> split <;> simp
@[simp] theorem Coach.notice_position (e : Env) (g : NoticeChange) (c : Coach) : (c.notice e g).position = c.position := by
  unfold Coach.notice; dsimp only; split <;> split <;> simp
@[simp] theorem Coach.notice_sensors (e : Env) (g : NoticeChange) (c : Coach) : (c.notice e g).sensors = c.sensors := by
  unfold Coach.notice; dsimp only; split <;> split <;> simp
@[simp] theorem Coach.notice_map (e : Env) (g : NoticeChange) (c : Coach) : (c.notice e g).map = c.map := by
  unfold Coach.notice; dsimp only; split <;> split <;> simp
@[simp] theorem Coach.postNotice_journey (n : Notice) (e : Env) (c : Coach) : (c.postNotice n e).journey = c.journey := by simp [Coach.postNotice]
@[simp] theorem Coach.postNotice_axle (n : Notice) (e : Env) (c : Coach) : (c.postNotice n e).axle = c.axle := by simp [Coach.postNotice]
@[simp] theorem Coach.postNotice_position (n : Notice) (e : Env) (c : Coach) : (c.postNotice n e).position = c.position := by simp [Coach.postNotice]
@[simp] theorem Coach.postNotice_sensors (n : Notice) (e : Env) (c : Coach) : (c.postNotice n e).sensors = c.sensors := by simp [Coach.postNotice]
@[simp] theorem Coach.postNotice_map (n : Notice) (e : Env) (c : Coach) : (c.postNotice n e).map = c.map := by simp [Coach.postNotice]
@[simp] theorem Coach.setText_journey (n : Nat) (t : List Byte) (e : Env) (c : Coach) : (c.setText n t e).journey = c.journey := by simp [Coach.setText]
@[simp] theorem Coach.setText_axle (n : Nat) (t : List Byte) (e : Env) (c : Coach) : (c.setText n t e).axle = c.axle := by simp [Coach.setText]
@[simp] theorem Coach.setText_position (n : Nat) (t : List Byte) (e : Env) (c : Coach) : (c.setText n t e).position = c.position := by simp [Coach.setText]
@[simp] theorem Coach.setText_sensors (n : Nat) (t : List Byte) (e : Env) (c : Coach) : (c.setText n t e).sensors = c.sensors := by simp [Coach.setText]
@[simp] theorem Coach.setText_map (n : Nat) (t : List Byte) (e : Env) (c : Coach) : (c.setText n t e).map = c.map := by simp [Coach.setText]
@[simp] theorem Coach.setClock_journey (m n : Nat) (e : Env) (c : Coach) : (c.setClock m n e).journey = c.journey := by simp [Coach.setClock]
@[simp] theorem Coach.setClock_axle (m n : Nat) (e : Env) (c : Coach) : (c.setClock m n e).axle = c.axle := by simp [Coach.setClock]
@[simp] theorem Coach.setClock_position (m n : Nat) (e : Env) (c : Coach) : (c.setClock m n e).position = c.position := by simp [Coach.setClock]
@[simp] theorem Coach.setClock_sensors (m n : Nat) (e : Env) (c : Coach) : (c.setClock m n e).sensors = c.sensors := by simp [Coach.setClock]
@[simp] theorem Coach.setClock_map (m n : Nat) (e : Env) (c : Coach) : (c.setClock m n e).map = c.map := by simp [Coach.setClock]

/-! ## Map unit -/

@[simp] theorem Coach.mapWindow_journey (e : Env) (c : Coach) : (c.mapWindow e).journey = c.journey := rfl
@[simp] theorem Coach.mapWindow_axle (e : Env) (c : Coach) : (c.mapWindow e).axle = c.axle := rfl
@[simp] theorem Coach.mapWindow_position (e : Env) (c : Coach) : (c.mapWindow e).position = c.position := rfl
@[simp] theorem Coach.mapWindow_seats (e : Env) (c : Coach) : (c.mapWindow e).seats = c.seats := rfl
@[simp] theorem Coach.mapWindow_sensors (e : Env) (c : Coach) : (c.mapWindow e).sensors = c.sensors := rfl
@[simp] theorem Coach.mapWindow_lines (e : Env) (c : Coach) : (c.mapWindow e).lines = c.lines := rfl
@[simp] theorem Coach.mapWindow_notices (e : Env) (c : Coach) : (c.mapWindow e).notices = c.notices := rfl
@[simp] theorem Coach.mapWindow_reportsA (e : Env) (c : Coach) : (c.mapWindow e).reportsA = c.reportsA := rfl
@[simp] theorem Coach.mapWindow_reportsB (e : Env) (c : Coach) : (c.mapWindow e).reportsB = c.reportsB := rfl
@[simp] theorem Coach.mapTarget_journey (e : Env) (c : Coach) : (c.mapTarget e).journey = c.journey := rfl
@[simp] theorem Coach.mapTarget_axle (e : Env) (c : Coach) : (c.mapTarget e).axle = c.axle := rfl
@[simp] theorem Coach.mapTarget_position (e : Env) (c : Coach) : (c.mapTarget e).position = c.position := rfl
@[simp] theorem Coach.mapTarget_seats (e : Env) (c : Coach) : (c.mapTarget e).seats = c.seats := rfl
@[simp] theorem Coach.mapTarget_sensors (e : Env) (c : Coach) : (c.mapTarget e).sensors = c.sensors := rfl
@[simp] theorem Coach.mapTarget_lines (e : Env) (c : Coach) : (c.mapTarget e).lines = c.lines := rfl
@[simp] theorem Coach.mapTarget_notices (e : Env) (c : Coach) : (c.mapTarget e).notices = c.notices := rfl
@[simp] theorem Coach.mapTarget_reportsA (e : Env) (c : Coach) : (c.mapTarget e).reportsA = c.reportsA := rfl
@[simp] theorem Coach.mapTarget_reportsB (e : Env) (c : Coach) : (c.mapTarget e).reportsB = c.reportsB := rfl
@[simp] theorem Coach.mapMotion_journey (e : Env) (c : Coach) : (c.mapMotion e).journey = c.journey := rfl
@[simp] theorem Coach.mapMotion_axle (e : Env) (c : Coach) : (c.mapMotion e).axle = c.axle := rfl
@[simp] theorem Coach.mapMotion_position (e : Env) (c : Coach) : (c.mapMotion e).position = c.position := rfl
@[simp] theorem Coach.mapMotion_seats (e : Env) (c : Coach) : (c.mapMotion e).seats = c.seats := rfl
@[simp] theorem Coach.mapMotion_sensors (e : Env) (c : Coach) : (c.mapMotion e).sensors = c.sensors := rfl
@[simp] theorem Coach.mapMotion_lines (e : Env) (c : Coach) : (c.mapMotion e).lines = c.lines := rfl
@[simp] theorem Coach.mapMotion_notices (e : Env) (c : Coach) : (c.mapMotion e).notices = c.notices := rfl
@[simp] theorem Coach.mapMotion_reportsA (e : Env) (c : Coach) : (c.mapMotion e).reportsA = c.reportsA := rfl
@[simp] theorem Coach.mapMotion_reportsB (e : Env) (c : Coach) : (c.mapMotion e).reportsB = c.reportsB := rfl
@[simp] theorem Coach.mapStepTimer_journey (e : Env) (c : Coach) : (c.mapStepTimer e).journey = c.journey := by unfold Coach.mapStepTimer; split <;> rfl
@[simp] theorem Coach.mapStepTimer_axle (e : Env) (c : Coach) : (c.mapStepTimer e).axle = c.axle := by unfold Coach.mapStepTimer; split <;> rfl
@[simp] theorem Coach.mapStepTimer_position (e : Env) (c : Coach) : (c.mapStepTimer e).position = c.position := by unfold Coach.mapStepTimer; split <;> rfl
@[simp] theorem Coach.mapStepTimer_seats (e : Env) (c : Coach) : (c.mapStepTimer e).seats = c.seats := by unfold Coach.mapStepTimer; split <;> rfl
@[simp] theorem Coach.mapStepTimer_sensors (e : Env) (c : Coach) : (c.mapStepTimer e).sensors = c.sensors := by unfold Coach.mapStepTimer; split <;> rfl
@[simp] theorem Coach.mapStepTimer_lines (e : Env) (c : Coach) : (c.mapStepTimer e).lines = c.lines := by unfold Coach.mapStepTimer; split <;> rfl
@[simp] theorem Coach.mapStepTimer_notices (e : Env) (c : Coach) : (c.mapStepTimer e).notices = c.notices := by unfold Coach.mapStepTimer; split <;> rfl
@[simp] theorem Coach.mapStepTimer_reportsA (e : Env) (c : Coach) : (c.mapStepTimer e).reportsA = c.reportsA := by unfold Coach.mapStepTimer; split <;> rfl
@[simp] theorem Coach.mapStepTimer_reportsB (e : Env) (c : Coach) : (c.mapStepTimer e).reportsB = c.reportsB := by unfold Coach.mapStepTimer; split <;> rfl
@[simp] theorem Coach.driveFrame_journey (t : Nat) (c : Coach) : (c.driveFrame t).journey = c.journey := rfl
@[simp] theorem Coach.driveFrame_axle (t : Nat) (c : Coach) : (c.driveFrame t).axle = c.axle := rfl
@[simp] theorem Coach.driveFrame_position (t : Nat) (c : Coach) : (c.driveFrame t).position = c.position := rfl
@[simp] theorem Coach.driveFrame_seats (t : Nat) (c : Coach) : (c.driveFrame t).seats = c.seats := rfl
@[simp] theorem Coach.driveFrame_sensors (t : Nat) (c : Coach) : (c.driveFrame t).sensors = c.sensors := rfl
@[simp] theorem Coach.driveFrame_lines (t : Nat) (c : Coach) : (c.driveFrame t).lines = c.lines := rfl
@[simp] theorem Coach.driveFrame_notices (t : Nat) (c : Coach) : (c.driveFrame t).notices = c.notices := rfl
@[simp] theorem Coach.driveFrame_reportsA (t : Nat) (c : Coach) : (c.driveFrame t).reportsA = c.reportsA := rfl
@[simp] theorem Coach.driveFrame_reportsB (t : Nat) (c : Coach) : (c.driveFrame t).reportsB = c.reportsB := rfl

/-! ## Journey unit -/

@[simp] theorem Coach.onJourney_axle (f : Journey → Journey) (c : Coach) : (c.onJourney f).axle = c.axle := rfl
@[simp] theorem Coach.onJourney_position (f : Journey → Journey) (c : Coach) : (c.onJourney f).position = c.position := rfl
@[simp] theorem Coach.onJourney_seats (f : Journey → Journey) (c : Coach) : (c.onJourney f).seats = c.seats := rfl
@[simp] theorem Coach.onJourney_sensors (f : Journey → Journey) (c : Coach) : (c.onJourney f).sensors = c.sensors := rfl
@[simp] theorem Coach.onJourney_lines (f : Journey → Journey) (c : Coach) : (c.onJourney f).lines = c.lines := rfl
@[simp] theorem Coach.onJourney_notices (f : Journey → Journey) (c : Coach) : (c.onJourney f).notices = c.notices := rfl
@[simp] theorem Coach.onJourney_map (f : Journey → Journey) (c : Coach) : (c.onJourney f).map = c.map := rfl
@[simp] theorem Coach.onJourney_reportsA (f : Journey → Journey) (c : Coach) : (c.onJourney f).reportsA = c.reportsA := rfl
@[simp] theorem Coach.onJourney_reportsB (f : Journey → Journey) (c : Coach) : (c.onJourney f).reportsB = c.reportsB := rfl
@[simp] theorem Coach.turn_axle (o : Orientation) (e : Env) (c : Coach) : (c.turn o e).axle = c.axle := by simp [Coach.turn]
@[simp] theorem Coach.turn_position (o : Orientation) (e : Env) (c : Coach) : (c.turn o e).position = c.position := by simp [Coach.turn]
@[simp] theorem Coach.turn_sensors (o : Orientation) (e : Env) (c : Coach) : (c.turn o e).sensors = c.sensors := by simp [Coach.turn]
@[simp] theorem Coach.turn_map (o : Orientation) (e : Env) (c : Coach) : (c.turn o e).map = c.map := by simp [Coach.turn]
@[simp] theorem Coach.arrive_axle (e : Env) (i : Nat) (r : StopRec) (d : Nat) (c : Coach) : (c.arrive e i r d).axle = c.axle := by simp [Coach.arrive]
@[simp] theorem Coach.arrive_position (e : Env) (i : Nat) (r : StopRec) (d : Nat) (c : Coach) : (c.arrive e i r d).position = c.position := by simp [Coach.arrive]
@[simp] theorem Coach.arrive_sensors (e : Env) (i : Nat) (r : StopRec) (d : Nat) (c : Coach) : (c.arrive e i r d).sensors = c.sensors := by simp [Coach.arrive]
@[simp] theorem Coach.depart_axle (e : Env) (i : Nat) (r : StopRec) (c : Coach) : (c.depart e i r).axle = c.axle := by simp [Coach.depart]
@[simp] theorem Coach.depart_position (e : Env) (i : Nat) (r : StopRec) (c : Coach) : (c.depart e i r).position = c.position := by simp [Coach.depart]
@[simp] theorem Coach.depart_sensors (e : Env) (i : Nat) (r : StopRec) (c : Coach) : (c.depart e i r).sensors = c.sensors := by simp [Coach.depart]
@[simp] theorem Coach.runThrough_axle (e : Env) (i : Nat) (r : StopRec) (c : Coach) : (c.runThrough e i r).axle = c.axle := by simp [Coach.runThrough]
@[simp] theorem Coach.runThrough_position (e : Env) (i : Nat) (r : StopRec) (c : Coach) : (c.runThrough e i r).position = c.position := by simp [Coach.runThrough]
@[simp] theorem Coach.runThrough_sensors (e : Env) (i : Nat) (r : StopRec) (c : Coach) : (c.runThrough e i r).sensors = c.sensors := by simp [Coach.runThrough]
@[simp] theorem Coach.evalDeparture_axle (e : Env) (c : Coach) : (c.evalDeparture e).axle = c.axle := by
  unfold Coach.evalDeparture; repeat' split
  all_goals simp
@[simp] theorem Coach.evalDeparture_position (e : Env) (c : Coach) : (c.evalDeparture e).position = c.position := by
  unfold Coach.evalDeparture; repeat' split
  all_goals simp
@[simp] theorem Coach.evalDeparture_sensors (e : Env) (c : Coach) : (c.evalDeparture e).sensors = c.sensors := by
  unfold Coach.evalDeparture; repeat' split
  all_goals simp
@[simp] theorem Coach.evalRunThrough_axle (e : Env) (n : Nat) (c : Coach) : (c.evalRunThrough e n).axle = c.axle := by
  induction n generalizing c with
  | zero => rfl
  | succ n ih =>
    unfold Coach.evalRunThrough; repeat' split
    all_goals simp [ih]
@[simp] theorem Coach.evalRunThrough_position (e : Env) (n : Nat) (c : Coach) : (c.evalRunThrough e n).position = c.position := by
  induction n generalizing c with
  | zero => rfl
  | succ n ih =>
    unfold Coach.evalRunThrough; repeat' split
    all_goals simp [ih]
@[simp] theorem Coach.evalRunThrough_sensors (e : Env) (n : Nat) (c : Coach) : (c.evalRunThrough e n).sensors = c.sensors := by
  induction n generalizing c with
  | zero => rfl
  | succ n ih =>
    unfold Coach.evalRunThrough; repeat' split
    all_goals simp [ih]
@[simp] theorem Coach.evalPassing_axle (e : Env) (c : Coach) : (c.evalPassing e).axle = c.axle := rfl
@[simp] theorem Coach.evalPassing_position (e : Env) (c : Coach) : (c.evalPassing e).position = c.position := rfl
@[simp] theorem Coach.evalPassing_seats (e : Env) (c : Coach) : (c.evalPassing e).seats = c.seats := rfl
@[simp] theorem Coach.evalPassing_sensors (e : Env) (c : Coach) : (c.evalPassing e).sensors = c.sensors := rfl
@[simp] theorem Coach.evalPassing_lines (e : Env) (c : Coach) : (c.evalPassing e).lines = c.lines := rfl
@[simp] theorem Coach.evalPassing_notices (e : Env) (c : Coach) : (c.evalPassing e).notices = c.notices := rfl
@[simp] theorem Coach.evalPassing_map (e : Env) (c : Coach) : (c.evalPassing e).map = c.map := rfl
@[simp] theorem Coach.evalPassing_reportsA (e : Env) (c : Coach) : (c.evalPassing e).reportsA = c.reportsA := rfl
@[simp] theorem Coach.evalPassing_reportsB (e : Env) (c : Coach) : (c.evalPassing e).reportsB = c.reportsB := rfl
@[simp] theorem Coach.evalArrival_axle (e : Env) (c : Coach) : (c.evalArrival e).axle = c.axle := by
  unfold Coach.evalArrival; repeat' split
  all_goals simp
@[simp] theorem Coach.evalArrival_position (e : Env) (c : Coach) : (c.evalArrival e).position = c.position := by
  unfold Coach.evalArrival; repeat' split
  all_goals simp
@[simp] theorem Coach.evalArrival_sensors (e : Env) (c : Coach) : (c.evalArrival e).sensors = c.sensors := by
  unfold Coach.evalArrival; repeat' split
  all_goals simp
theorem Coach.whileRunning_axle (f : Coach → Coach) (c : Coach) (h : ∀ d : Coach, (f d).axle = d.axle) :
    (c.whileRunning f).axle = c.axle := by
  unfold Coach.whileRunning; split
  · exact h c
  · rfl
theorem Coach.whileRunning_position (f : Coach → Coach) (c : Coach) (h : ∀ d : Coach, (f d).position = d.position) :
    (c.whileRunning f).position = c.position := by
  unfold Coach.whileRunning; split
  · exact h c
  · rfl
theorem Coach.whileRunning_sensors (f : Coach → Coach) (c : Coach) (h : ∀ d : Coach, (f d).sensors = d.sensors) :
    (c.whileRunning f).sensors = c.sensors := by
  unfold Coach.whileRunning; split
  · exact h c
  · rfl
@[simp] theorem Coach.evaluate_axle (e : Env) (c : Coach) : (c.evaluate e).axle = c.axle := by
  unfold Coach.evaluate; dsimp only
  rw [Coach.whileRunning_axle _ _ (by simp), Coach.whileRunning_axle _ _ (by simp), Coach.whileRunning_axle _ _ (by simp),
    Coach.whileRunning_axle _ _ (by simp)]
@[simp] theorem Coach.evaluate_position (e : Env) (c : Coach) : (c.evaluate e).position = c.position := by
  unfold Coach.evaluate; dsimp only
  rw [Coach.whileRunning_position _ _ (by simp), Coach.whileRunning_position _ _ (by simp), Coach.whileRunning_position _ _ (by simp),
    Coach.whileRunning_position _ _ (by simp)]
@[simp] theorem Coach.evaluate_sensors (e : Env) (c : Coach) : (c.evaluate e).sensors = c.sensors := by
  unfold Coach.evaluate; dsimp only
  rw [Coach.whileRunning_sensors _ _ (by simp), Coach.whileRunning_sensors _ _ (by simp), Coach.whileRunning_sensors _ _ (by simp),
    Coach.whileRunning_sensors _ _ (by simp)]
@[simp] theorem Coach.committed_axle (e : Env) (old : List StopRec) (b : Bool) (c : Coach) : (c.committed e old b).axle = c.axle := by simp [Coach.committed]
@[simp] theorem Coach.committed_position (e : Env) (old : List StopRec) (b : Bool) (c : Coach) : (c.committed e old b).position = c.position := by simp [Coach.committed]
@[simp] theorem Coach.committed_sensors (e : Env) (old : List StopRec) (b : Bool) (c : Coach) : (c.committed e old b).sensors = c.sensors := by simp [Coach.committed]
@[simp] theorem Coach.amended_axle (e : Env) (c : Coach) : (c.amended e).axle = c.axle := by simp [Coach.amended]
@[simp] theorem Coach.amended_position (e : Env) (c : Coach) : (c.amended e).position = c.position := by simp [Coach.amended]
@[simp] theorem Coach.amended_sensors (e : Env) (c : Coach) : (c.amended e).sensors = c.sensors := by simp [Coach.amended]
@[simp] theorem Coach.amend_axle (i : Nat) (q : AmendReq) (b : Bool) (e : Env) (c : Coach) : (c.amend i q b e).axle = c.axle := by unfold Coach.amend; dsimp only; split <;> simp
@[simp] theorem Coach.amend_position (i : Nat) (q : AmendReq) (b : Bool) (e : Env) (c : Coach) : (c.amend i q b e).position = c.position := by unfold Coach.amend; dsimp only; split <;> simp
@[simp] theorem Coach.amend_sensors (i : Nat) (q : AmendReq) (b : Bool) (e : Env) (c : Coach) : (c.amend i q b e).sensors = c.sensors := by unfold Coach.amend; dsimp only; split <;> simp
@[simp] theorem Coach.handEmpty_journey (e : Env) (c : Coach) : (c.handEmpty e).journey = c.journey := by simp [Coach.handEmpty]
@[simp] theorem Coach.handEmpty_axle (e : Env) (c : Coach) : (c.handEmpty e).axle = c.axle := by simp [Coach.handEmpty]
@[simp] theorem Coach.handEmpty_position (e : Env) (c : Coach) : (c.handEmpty e).position = c.position := by simp [Coach.handEmpty]
@[simp] theorem Coach.handEmpty_sensors (e : Env) (c : Coach) : (c.handEmpty e).sensors = c.sensors := by simp [Coach.handEmpty]

/-! ## Position and axle units -/

@[simp] theorem Coach.onPosition_journey (f : Position → Position) (c : Coach) : (c.onPosition f).journey = c.journey := rfl
@[simp] theorem Coach.onPosition_axle (f : Position → Position) (c : Coach) : (c.onPosition f).axle = c.axle := rfl
@[simp] theorem Coach.onPosition_seats (f : Position → Position) (c : Coach) : (c.onPosition f).seats = c.seats := rfl
@[simp] theorem Coach.onPosition_sensors (f : Position → Position) (c : Coach) : (c.onPosition f).sensors = c.sensors := rfl
@[simp] theorem Coach.onPosition_lines (f : Position → Position) (c : Coach) : (c.onPosition f).lines = c.lines := rfl
@[simp] theorem Coach.onPosition_notices (f : Position → Position) (c : Coach) : (c.onPosition f).notices = c.notices := rfl
@[simp] theorem Coach.onPosition_map (f : Position → Position) (c : Coach) : (c.onPosition f).map = c.map := rfl
@[simp] theorem Coach.onPosition_reportsA (f : Position → Position) (c : Coach) : (c.onPosition f).reportsA = c.reportsA := rfl
@[simp] theorem Coach.onPosition_reportsB (f : Position → Position) (c : Coach) : (c.onPosition f).reportsB = c.reportsB := rfl
@[simp] theorem Coach.handPosition_axle (e : Env) (b : Position) (c : Coach) : (c.handPosition e b).axle = c.axle := by
  unfold Coach.handPosition; dsimp only; repeat' split
  all_goals simp
@[simp] theorem Coach.handPosition_position (e : Env) (b : Position) (c : Coach) : (c.handPosition e b).position = c.position := by
  unfold Coach.handPosition; dsimp only; repeat' split
  all_goals simp
@[simp] theorem Coach.handPosition_sensors (e : Env) (b : Position) (c : Coach) : (c.handPosition e b).sensors = c.sensors := by
  unfold Coach.handPosition; dsimp only; repeat' split
  all_goals simp
@[simp] theorem Coach.setFix_journey (e : Env) (f : FixState) (c : Coach) : (c.setFix e f).journey = c.journey := by
  unfold Coach.setFix; dsimp only; repeat' split
  all_goals simp
@[simp] theorem Coach.setFix_axle (e : Env) (f : FixState) (c : Coach) : (c.setFix e f).axle = c.axle := by
  unfold Coach.setFix; dsimp only; repeat' split
  all_goals simp
@[simp] theorem Coach.setFix_sensors (e : Env) (f : FixState) (c : Coach) : (c.setFix e f).sensors = c.sensors := by
  unfold Coach.setFix; dsimp only; repeat' split
  all_goals simp
@[simp] theorem Coach.setFix_map (e : Env) (f : FixState) (c : Coach) : (c.setFix e f).map = c.map := by
  unfold Coach.setFix; dsimp only; repeat' split
  all_goals simp
@[simp] theorem Coach.learnOrientation_axle (e : Env) (d : EdgeDir) (c : Coach) : (c.learnOrientation e d).axle = c.axle := by unfold Coach.learnOrientation; split <;> simp
@[simp] theorem Coach.learnOrientation_position (e : Env) (d : EdgeDir) (c : Coach) : (c.learnOrientation e d).position = c.position := by unfold Coach.learnOrientation; split <;> simp
@[simp] theorem Coach.learnOrientation_sensors (e : Env) (d : EdgeDir) (c : Coach) : (c.learnOrientation e d).sensors = c.sensors := by unfold Coach.learnOrientation; split <;> simp
@[simp] theorem Coach.learnOrientation_map (e : Env) (d : EdgeDir) (c : Coach) : (c.learnOrientation e d).map = c.map := by unfold Coach.learnOrientation; split <;> simp
@[simp] theorem Coach.applyEdge_sensors (e : Env) (d : EdgeDir) (c : Coach) (t : Stamp) : (c.applyEdge e d t).sensors = c.sensors := by simp [Coach.applyEdge]
@[simp] theorem Coach.axleEdge_sensors (e : Env) (ch : AxleChannel) (t : Stamp) (c : Coach) : (c.axleEdge e ch t).sensors = c.sensors := by
  unfold Coach.axleEdge; dsimp only; repeat' split
  all_goals first | rfl | exact foldl_keeps Coach.sensors _ (fun _ _ => by simp) _ _
@[simp] theorem Coach.toStandstill_journey (c : Coach) : (c.toStandstill).journey = c.journey := rfl
@[simp] theorem Coach.toStandstill_seats (c : Coach) : (c.toStandstill).seats = c.seats := rfl
@[simp] theorem Coach.toStandstill_sensors (c : Coach) : (c.toStandstill).sensors = c.sensors := rfl
@[simp] theorem Coach.toStandstill_lines (c : Coach) : (c.toStandstill).lines = c.lines := rfl
@[simp] theorem Coach.toStandstill_notices (c : Coach) : (c.toStandstill).notices = c.notices := rfl
@[simp] theorem Coach.toStandstill_map (c : Coach) : (c.toStandstill).map = c.map := rfl
@[simp] theorem Coach.toStandstill_reportsA (c : Coach) : (c.toStandstill).reportsA = c.reportsA := rfl
@[simp] theorem Coach.toStandstill_reportsB (c : Coach) : (c.toStandstill).reportsB = c.reportsB := rfl
@[simp] theorem Coach.zeroExit_journey (e : Env) (c : Coach) : (c.zeroExit e).journey = c.journey := by simp [Coach.zeroExit]
@[simp] theorem Coach.zeroExit_sensors (e : Env) (c : Coach) : (c.zeroExit e).sensors = c.sensors := by simp [Coach.zeroExit]
@[simp] theorem Coach.zeroExit_map (e : Env) (c : Coach) : (c.zeroExit e).map = c.map := by simp [Coach.zeroExit]
@[simp] theorem Coach.agreementExit_journey (e : Env) (v : Nat) (c : Coach) : (c.agreementExit e v).journey = c.journey := by simp [Coach.agreementExit]
@[simp] theorem Coach.agreementExit_sensors (e : Env) (v : Nat) (c : Coach) : (c.agreementExit e v).sensors = c.sensors := by simp [Coach.agreementExit]
@[simp] theorem Coach.agreementExit_map (e : Env) (v : Nat) (c : Coach) : (c.agreementExit e v).map = c.map := by simp [Coach.agreementExit]
@[simp] theorem Coach.agreementExit_axle (e : Env) (v : Nat) (c : Coach) : (c.agreementExit e v).axle = c.axle := by simp [Coach.agreementExit]
@[simp] theorem Coach.agreementExit_seats (e : Env) (v : Nat) (c : Coach) : (c.agreementExit e v).seats = c.seats := by simp [Coach.agreementExit]
@[simp] theorem Coach.agreementExit_lines (e : Env) (v : Nat) (c : Coach) : (c.agreementExit e v).lines = c.lines := by simp [Coach.agreementExit]
@[simp] theorem Coach.agreementExit_notices (e : Env) (v : Nat) (c : Coach) : (c.agreementExit e v).notices = c.notices := by simp [Coach.agreementExit]
@[simp] theorem Coach.coastLimit_journey (e : Env) (k : Coast) (c : Coach) : (c.coastLimit e k).journey = c.journey := by unfold Coach.coastLimit; split <;> simp
@[simp] theorem Coach.coastLimit_sensors (e : Env) (k : Coast) (c : Coach) : (c.coastLimit e k).sensors = c.sensors := by unfold Coach.coastLimit; split <;> simp
@[simp] theorem Coach.coastLimit_map (e : Env) (k : Coast) (c : Coach) : (c.coastLimit e k).map = c.map := by unfold Coach.coastLimit; split <;> simp
@[simp] theorem Coach.coastLimit_axle (e : Env) (k : Coast) (c : Coach) : (c.coastLimit e k).axle = c.axle := by unfold Coach.coastLimit; split <;> simp
@[simp] theorem Coach.coastClose_journey (e : Env) (r : WindowRecord) (b : Bool) (k : Coast) (c : Coach) : (c.coastClose e r b k).journey = c.journey := by
  unfold Coach.coastClose; dsimp only; repeat' split
  all_goals simp
@[simp] theorem Coach.coastClose_sensors (e : Env) (r : WindowRecord) (b : Bool) (k : Coast) (c : Coach) : (c.coastClose e r b k).sensors = c.sensors := by
  unfold Coach.coastClose; dsimp only; repeat' split
  all_goals simp
@[simp] theorem Coach.coastClose_map (e : Env) (r : WindowRecord) (b : Bool) (k : Coast) (c : Coach) : (c.coastClose e r b k).map = c.map := by
  unfold Coach.coastClose; dsimp only; repeat' split
  all_goals simp
@[simp] theorem Coach.coastBegin_journey (e : Env) (r : WindowRecord) (c : Coach) : (c.coastBegin e r).journey = c.journey := by unfold Coach.coastBegin; dsimp only; split <;> simp
@[simp] theorem Coach.coastBegin_sensors (e : Env) (r : WindowRecord) (c : Coach) : (c.coastBegin e r).sensors = c.sensors := by unfold Coach.coastBegin; dsimp only; split <;> simp
@[simp] theorem Coach.coastBegin_map (e : Env) (r : WindowRecord) (c : Coach) : (c.coastBegin e r).map = c.map := by unfold Coach.coastBegin; dsimp only; split <;> simp
@[simp] theorem Coach.takeRecord_journey (e : Env) (r : WindowRecord) (c : Coach) : (c.takeRecord e r).journey = c.journey := by
  unfold Coach.takeRecord; dsimp only; repeat' split
  all_goals first | simp; done | (split <;> simp)
@[simp] theorem Coach.takeRecord_sensors (e : Env) (r : WindowRecord) (c : Coach) : (c.takeRecord e r).sensors = c.sensors := by
  unfold Coach.takeRecord; dsimp only; repeat' split
  all_goals first | simp; done | (split <;> simp)
@[simp] theorem Coach.takeRecord_map (e : Env) (r : WindowRecord) (c : Coach) : (c.takeRecord e r).map = c.map := by
  unfold Coach.takeRecord; dsimp only; repeat' split
  all_goals first | simp; done | (split <;> simp)
@[simp] theorem Coach.windowClose_sensors (e : Env) (c : Coach) : (c.windowClose e).sensors = c.sensors := by simp [Coach.windowClose]
@[simp] theorem Coach.nextWindow_journey (t : Nat) (c : Coach) : (c.nextWindow t).journey = c.journey := rfl
@[simp] theorem Coach.nextWindow_position (t : Nat) (c : Coach) : (c.nextWindow t).position = c.position := rfl
@[simp] theorem Coach.nextWindow_seats (t : Nat) (c : Coach) : (c.nextWindow t).seats = c.seats := rfl
@[simp] theorem Coach.nextWindow_sensors (t : Nat) (c : Coach) : (c.nextWindow t).sensors = c.sensors := rfl
@[simp] theorem Coach.nextWindow_lines (t : Nat) (c : Coach) : (c.nextWindow t).lines = c.lines := rfl
@[simp] theorem Coach.nextWindow_notices (t : Nat) (c : Coach) : (c.nextWindow t).notices = c.notices := rfl
@[simp] theorem Coach.nextWindow_map (t : Nat) (c : Coach) : (c.nextWindow t).map = c.map := rfl
@[simp] theorem Coach.nextWindow_reportsA (t : Nat) (c : Coach) : (c.nextWindow t).reportsA = c.reportsA := rfl
@[simp] theorem Coach.nextWindow_reportsB (t : Nat) (c : Coach) : (c.nextWindow t).reportsB = c.reportsB := rfl
@[simp] theorem Coach.stationArrival_axle (e : Env) (p : Nat) (k : Option Nat) (c : Coach) : (c.stationArrival e p k).axle = c.axle := by
  unfold Coach.stationArrival; repeat' split
  all_goals simp
@[simp] theorem Coach.stationArrival_position (e : Env) (p : Nat) (k : Option Nat) (c : Coach) : (c.stationArrival e p k).position = c.position := by
  unfold Coach.stationArrival; repeat' split
  all_goals simp
@[simp] theorem Coach.stationArrival_sensors (e : Env) (p : Nat) (k : Option Nat) (c : Coach) : (c.stationArrival e p k).sensors = c.sensors := by
  unfold Coach.stationArrival; repeat' split
  all_goals simp
@[simp] theorem Coach.applyFix_axle (e : Env) (p : Nat) (k m : Option Nat) (c : Coach) : (c.applyFix e p k m).axle = c.axle := by
  unfold Coach.applyFix; dsimp only; repeat' split
  all_goals simp
@[simp] theorem Coach.applyFix_sensors (e : Env) (p : Nat) (k m : Option Nat) (c : Coach) : (c.applyFix e p k m).sensors = c.sensors := by
  unfold Coach.applyFix; dsimp only; repeat' split
  all_goals simp

/-! ## Occupancy unit and seat lines -/

@[simp] theorem Coach.changeSensor_journey (e : Env) (p : PlaceId) (f : Sensor → Sensor) (c : Coach) : (c.changeSensor e p f).journey = c.journey := by unfold Coach.changeSensor; dsimp only; split <;> simp
@[simp] theorem Coach.changeSensor_axle (e : Env) (p : PlaceId) (f : Sensor → Sensor) (c : Coach) : (c.changeSensor e p f).axle = c.axle := by unfold Coach.changeSensor; dsimp only; split <;> simp
@[simp] theorem Coach.changeSensor_position (e : Env) (p : PlaceId) (f : Sensor → Sensor) (c : Coach) : (c.changeSensor e p f).position = c.position := by unfold Coach.changeSensor; dsimp only; split <;> simp
@[simp] theorem Coach.changeSensor_notices (e : Env) (p : PlaceId) (f : Sensor → Sensor) (c : Coach) : (c.changeSensor e p f).notices = c.notices := by unfold Coach.changeSensor; dsimp only; split <;> simp
@[simp] theorem Coach.changeSensor_map (e : Env) (p : PlaceId) (f : Sensor → Sensor) (c : Coach) : (c.changeSensor e p f).map = c.map := by unfold Coach.changeSensor; dsimp only; split <;> simp
@[simp] theorem Coach.samplePlace_journey (e : Env) (n : Nat) (c : Coach) (p : PlaceId) : (c.samplePlace e n p).journey = c.journey := by simp [Coach.samplePlace]
@[simp] theorem Coach.samplePlace_axle (e : Env) (n : Nat) (c : Coach) (p : PlaceId) : (c.samplePlace e n p).axle = c.axle := by simp [Coach.samplePlace]
@[simp] theorem Coach.samplePlace_position (e : Env) (n : Nat) (c : Coach) (p : PlaceId) : (c.samplePlace e n p).position = c.position := by simp [Coach.samplePlace]
@[simp] theorem Coach.samplePlace_notices (e : Env) (n : Nat) (c : Coach) (p : PlaceId) : (c.samplePlace e n p).notices = c.notices := by simp [Coach.samplePlace]
@[simp] theorem Coach.samplePlace_map (e : Env) (n : Nat) (c : Coach) (p : PlaceId) : (c.samplePlace e n p).map = c.map := by simp [Coach.samplePlace]
@[simp] theorem Coach.reseedPlace_journey (e : Env) (c : Coach) (p : PlaceId) : (c.reseedPlace e p).journey = c.journey := by simp [Coach.reseedPlace]
@[simp] theorem Coach.reseedPlace_axle (e : Env) (c : Coach) (p : PlaceId) : (c.reseedPlace e p).axle = c.axle := by simp [Coach.reseedPlace]
@[simp] theorem Coach.reseedPlace_position (e : Env) (c : Coach) (p : PlaceId) : (c.reseedPlace e p).position = c.position := by simp [Coach.reseedPlace]
@[simp] theorem Coach.reseedPlace_notices (e : Env) (c : Coach) (p : PlaceId) : (c.reseedPlace e p).notices = c.notices := by simp [Coach.reseedPlace]
@[simp] theorem Coach.reseedPlace_map (e : Env) (c : Coach) (p : PlaceId) : (c.reseedPlace e p).map = c.map := by simp [Coach.reseedPlace]
@[simp] theorem Coach.losePlace_journey (e : Env) (c : Coach) (p : PlaceId) : (c.losePlace e p).journey = c.journey := by simp [Coach.losePlace]
@[simp] theorem Coach.losePlace_axle (e : Env) (c : Coach) (p : PlaceId) : (c.losePlace e p).axle = c.axle := by simp [Coach.losePlace]
@[simp] theorem Coach.losePlace_position (e : Env) (c : Coach) (p : PlaceId) : (c.losePlace e p).position = c.position := by simp [Coach.losePlace]
@[simp] theorem Coach.losePlace_notices (e : Env) (c : Coach) (p : PlaceId) : (c.losePlace e p).notices = c.notices := by simp [Coach.losePlace]
@[simp] theorem Coach.losePlace_map (e : Env) (c : Coach) (p : PlaceId) : (c.losePlace e p).map = c.map := by simp [Coach.losePlace]
@[simp] theorem Coach.reseedAll_journey (e : Env) (ps : List PlaceId) (c : Coach) : (ps.foldl (Coach.reseedPlace e) c).journey = c.journey := foldl_keeps Coach.journey _ (fun _ _ => by simp) _ _
@[simp] theorem Coach.reseedAll_axle (e : Env) (ps : List PlaceId) (c : Coach) : (ps.foldl (Coach.reseedPlace e) c).axle = c.axle := foldl_keeps Coach.axle _ (fun _ _ => by simp) _ _
@[simp] theorem Coach.reseedAll_position (e : Env) (ps : List PlaceId) (c : Coach) : (ps.foldl (Coach.reseedPlace e) c).position = c.position := foldl_keeps Coach.position _ (fun _ _ => by simp) _ _
@[simp] theorem Coach.reseedAll_notices (e : Env) (ps : List PlaceId) (c : Coach) : (ps.foldl (Coach.reseedPlace e) c).notices = c.notices := foldl_keeps Coach.notices _ (fun _ _ => by simp) _ _
@[simp] theorem Coach.reseedAll_map (e : Env) (ps : List PlaceId) (c : Coach) : (ps.foldl (Coach.reseedPlace e) c).map = c.map := foldl_keeps Coach.map _ (fun _ _ => by simp) _ _
@[simp] theorem Coach.loseAll_journey (e : Env) (ps : List PlaceId) (c : Coach) : (ps.foldl (Coach.losePlace e) c).journey = c.journey := foldl_keeps Coach.journey _ (fun _ _ => by simp) _ _
@[simp] theorem Coach.loseAll_axle (e : Env) (ps : List PlaceId) (c : Coach) : (ps.foldl (Coach.losePlace e) c).axle = c.axle := foldl_keeps Coach.axle _ (fun _ _ => by simp) _ _
@[simp] theorem Coach.loseAll_position (e : Env) (ps : List PlaceId) (c : Coach) : (ps.foldl (Coach.losePlace e) c).position = c.position := foldl_keeps Coach.position _ (fun _ _ => by simp) _ _
@[simp] theorem Coach.loseAll_notices (e : Env) (ps : List PlaceId) (c : Coach) : (ps.foldl (Coach.losePlace e) c).notices = c.notices := foldl_keeps Coach.notices _ (fun _ _ => by simp) _ _
@[simp] theorem Coach.loseAll_map (e : Env) (ps : List PlaceId) (c : Coach) : (ps.foldl (Coach.losePlace e) c).map = c.map := foldl_keeps Coach.map _ (fun _ _ => by simp) _ _
@[simp] theorem Coach.loseLine_journey (e : Env) (i : Fin 4) (c : Coach) : (c.loseLine e i).journey = c.journey := by simp [Coach.loseLine]
@[simp] theorem Coach.loseLine_axle (e : Env) (i : Fin 4) (c : Coach) : (c.loseLine e i).axle = c.axle := by simp [Coach.loseLine]
@[simp] theorem Coach.loseLine_position (e : Env) (i : Fin 4) (c : Coach) : (c.loseLine e i).position = c.position := by simp [Coach.loseLine]
@[simp] theorem Coach.loseLine_notices (e : Env) (i : Fin 4) (c : Coach) : (c.loseLine e i).notices = c.notices := by simp [Coach.loseLine]
@[simp] theorem Coach.loseLine_map (e : Env) (i : Fin 4) (c : Coach) : (c.loseLine e i).map = c.map := by simp [Coach.loseLine]
@[simp] theorem Coach.startFrame_journey (e : Env) (i : Fin 4) (c : Coach) : (c.startFrame e i).journey = c.journey := by unfold Coach.startFrame; dsimp only; split <;> simp
@[simp] theorem Coach.startFrame_axle (e : Env) (i : Fin 4) (c : Coach) : (c.startFrame e i).axle = c.axle := by unfold Coach.startFrame; dsimp only; split <;> simp
@[simp] theorem Coach.startFrame_position (e : Env) (i : Fin 4) (c : Coach) : (c.startFrame e i).position = c.position := by unfold Coach.startFrame; dsimp only; split <;> simp
@[simp] theorem Coach.startFrame_seats (e : Env) (i : Fin 4) (c : Coach) : (c.startFrame e i).seats = c.seats := by unfold Coach.startFrame; dsimp only; split <;> simp
@[simp] theorem Coach.startFrame_sensors (e : Env) (i : Fin 4) (c : Coach) : (c.startFrame e i).sensors = c.sensors := by unfold Coach.startFrame; dsimp only; split <;> simp
@[simp] theorem Coach.startFrame_notices (e : Env) (i : Fin 4) (c : Coach) : (c.startFrame e i).notices = c.notices := by unfold Coach.startFrame; dsimp only; split <;> simp
@[simp] theorem Coach.startFrame_map (e : Env) (i : Fin 4) (c : Coach) : (c.startFrame e i).map = c.map := by unfold Coach.startFrame; dsimp only; split <;> simp
@[simp] theorem Coach.startFrame_reportsA (e : Env) (i : Fin 4) (c : Coach) : (c.startFrame e i).reportsA = c.reportsA := by unfold Coach.startFrame; dsimp only; split <;> simp
@[simp] theorem Coach.startFrame_reportsB (e : Env) (i : Fin 4) (c : Coach) : (c.startFrame e i).reportsB = c.reportsB := by unfold Coach.startFrame; dsimp only; split <;> simp
@[simp] theorem Coach.countFailure_journey (e : Env) (i : Fin 4) (f : SeatFrame) (x : LineError) (c : Coach) : (c.countFailure e i f x).journey = c.journey := by
  unfold Coach.countFailure; dsimp only; repeat' split
  all_goals simp
@[simp] theorem Coach.countFailure_axle (e : Env) (i : Fin 4) (f : SeatFrame) (x : LineError) (c : Coach) : (c.countFailure e i f x).axle = c.axle := by
  unfold Coach.countFailure; dsimp only; repeat' split
  all_goals simp
@[simp] theorem Coach.countFailure_position (e : Env) (i : Fin 4) (f : SeatFrame) (x : LineError) (c : Coach) : (c.countFailure e i f x).position = c.position := by
  unfold Coach.countFailure; dsimp only; repeat' split
  all_goals simp
@[simp] theorem Coach.countFailure_notices (e : Env) (i : Fin 4) (f : SeatFrame) (x : LineError) (c : Coach) : (c.countFailure e i f x).notices = c.notices := by
  unfold Coach.countFailure; dsimp only; repeat' split
  all_goals simp
@[simp] theorem Coach.countFailure_map (e : Env) (i : Fin 4) (f : SeatFrame) (x : LineError) (c : Coach) : (c.countFailure e i f x).map = c.map := by
  unfold Coach.countFailure; dsimp only; repeat' split
  all_goals simp
@[simp] theorem Coach.failTransfer_journey (e : Env) (i : Fin 4) (f : SeatFrame) (x : LineError) (c : Coach) : (c.failTransfer e i f x).journey = c.journey := by simp [Coach.failTransfer]
@[simp] theorem Coach.failTransfer_axle (e : Env) (i : Fin 4) (f : SeatFrame) (x : LineError) (c : Coach) : (c.failTransfer e i f x).axle = c.axle := by simp [Coach.failTransfer]
@[simp] theorem Coach.failTransfer_position (e : Env) (i : Fin 4) (f : SeatFrame) (x : LineError) (c : Coach) : (c.failTransfer e i f x).position = c.position := by simp [Coach.failTransfer]
@[simp] theorem Coach.failTransfer_notices (e : Env) (i : Fin 4) (f : SeatFrame) (x : LineError) (c : Coach) : (c.failTransfer e i f x).notices = c.notices := by simp [Coach.failTransfer]
@[simp] theorem Coach.failTransfer_map (e : Env) (i : Fin 4) (f : SeatFrame) (x : LineError) (c : Coach) : (c.failTransfer e i f x).map = c.map := by simp [Coach.failTransfer]
@[simp] theorem Coach.recover_journey (e : Env) (i : Fin 4) (f : SeatFrame) (c : Coach) : (c.recover e i f).journey = c.journey := by
  unfold Coach.recover; dsimp only; repeat' split
  all_goals simp
@[simp] theorem Coach.recover_axle (e : Env) (i : Fin 4) (f : SeatFrame) (c : Coach) : (c.recover e i f).axle = c.axle := by
  unfold Coach.recover; dsimp only; repeat' split
  all_goals simp
@[simp] theorem Coach.recover_position (e : Env) (i : Fin 4) (f : SeatFrame) (c : Coach) : (c.recover e i f).position = c.position := by
  unfold Coach.recover; dsimp only; repeat' split
  all_goals simp
@[simp] theorem Coach.recover_notices (e : Env) (i : Fin 4) (f : SeatFrame) (c : Coach) : (c.recover e i f).notices = c.notices := by
  unfold Coach.recover; dsimp only; repeat' split
  all_goals simp
@[simp] theorem Coach.recover_map (e : Env) (i : Fin 4) (f : SeatFrame) (c : Coach) : (c.recover e i f).map = c.map := by
  unfold Coach.recover; dsimp only; repeat' split
  all_goals simp
@[simp] theorem Coach.succeed_journey (e : Env) (i : Fin 4) (f : SeatFrame) (c : Coach) : (c.succeed e i f).journey = c.journey := by simp [Coach.succeed]
@[simp] theorem Coach.succeed_axle (e : Env) (i : Fin 4) (f : SeatFrame) (c : Coach) : (c.succeed e i f).axle = c.axle := by simp [Coach.succeed]
@[simp] theorem Coach.succeed_position (e : Env) (i : Fin 4) (f : SeatFrame) (c : Coach) : (c.succeed e i f).position = c.position := by simp [Coach.succeed]
@[simp] theorem Coach.succeed_notices (e : Env) (i : Fin 4) (f : SeatFrame) (c : Coach) : (c.succeed e i f).notices = c.notices := by simp [Coach.succeed]
@[simp] theorem Coach.succeed_map (e : Env) (i : Fin 4) (f : SeatFrame) (c : Coach) : (c.succeed e i f).map = c.map := by simp [Coach.succeed]
@[simp] theorem Coach.endSlot_journey (e : Env) (i : Fin 4) (f : SeatFrame) (c : Coach) : (c.endSlot e i f).journey = c.journey := by simp [Coach.endSlot]
@[simp] theorem Coach.endSlot_axle (e : Env) (i : Fin 4) (f : SeatFrame) (c : Coach) : (c.endSlot e i f).axle = c.axle := by simp [Coach.endSlot]
@[simp] theorem Coach.endSlot_position (e : Env) (i : Fin 4) (f : SeatFrame) (c : Coach) : (c.endSlot e i f).position = c.position := by simp [Coach.endSlot]
@[simp] theorem Coach.endSlot_seats (e : Env) (i : Fin 4) (f : SeatFrame) (c : Coach) : (c.endSlot e i f).seats = c.seats := by simp [Coach.endSlot]
@[simp] theorem Coach.endSlot_sensors (e : Env) (i : Fin 4) (f : SeatFrame) (c : Coach) : (c.endSlot e i f).sensors = c.sensors := by simp [Coach.endSlot]
@[simp] theorem Coach.endSlot_notices (e : Env) (i : Fin 4) (f : SeatFrame) (c : Coach) : (c.endSlot e i f).notices = c.notices := by simp [Coach.endSlot]
@[simp] theorem Coach.endSlot_map (e : Env) (i : Fin 4) (f : SeatFrame) (c : Coach) : (c.endSlot e i f).map = c.map := by simp [Coach.endSlot]
@[simp] theorem Coach.endSlot_reportsA (e : Env) (i : Fin 4) (f : SeatFrame) (c : Coach) : (c.endSlot e i f).reportsA = c.reportsA := by simp [Coach.endSlot]
@[simp] theorem Coach.endSlot_reportsB (e : Env) (i : Fin 4) (f : SeatFrame) (c : Coach) : (c.endSlot e i f).reportsB = c.reportsB := by simp [Coach.endSlot]
@[simp] theorem Coach.pollEnds_journey (e : Env) (i : Fin 4) (f : SeatFrame) (x y : BitVec 16) (k : Byte) (c : Coach) : (c.pollEnds e i f x y k).journey = c.journey := by
  unfold Coach.pollEnds; dsimp only; repeat' split
  all_goals simp
@[simp] theorem Coach.pollEnds_axle (e : Env) (i : Fin 4) (f : SeatFrame) (x y : BitVec 16) (k : Byte) (c : Coach) : (c.pollEnds e i f x y k).axle = c.axle := by
  unfold Coach.pollEnds; dsimp only; repeat' split
  all_goals simp
@[simp] theorem Coach.pollEnds_position (e : Env) (i : Fin 4) (f : SeatFrame) (x y : BitVec 16) (k : Byte) (c : Coach) : (c.pollEnds e i f x y k).position = c.position := by
  unfold Coach.pollEnds; dsimp only; repeat' split
  all_goals simp
@[simp] theorem Coach.pollEnds_notices (e : Env) (i : Fin 4) (f : SeatFrame) (x y : BitVec 16) (k : Byte) (c : Coach) : (c.pollEnds e i f x y k).notices = c.notices := by
  unfold Coach.pollEnds; dsimp only; repeat' split
  all_goals simp
@[simp] theorem Coach.pollEnds_map (e : Env) (i : Fin 4) (f : SeatFrame) (x y : BitVec 16) (k : Byte) (c : Coach) : (c.pollEnds e i f x y k).map = c.map := by
  unfold Coach.pollEnds; dsimp only; repeat' split
  all_goals simp
@[simp] theorem Coach.takeIdent_journey (e : Env) (i : Fin 4) (f : SeatFrame) (x y : Byte) (c : Coach) : (c.takeIdent e i f x y).journey = c.journey := by
  unfold Coach.takeIdent; dsimp only; repeat' split
  all_goals simp
@[simp] theorem Coach.takeIdent_axle (e : Env) (i : Fin 4) (f : SeatFrame) (x y : Byte) (c : Coach) : (c.takeIdent e i f x y).axle = c.axle := by
  unfold Coach.takeIdent; dsimp only; repeat' split
  all_goals simp
@[simp] theorem Coach.takeIdent_position (e : Env) (i : Fin 4) (f : SeatFrame) (x y : Byte) (c : Coach) : (c.takeIdent e i f x y).position = c.position := by
  unfold Coach.takeIdent; dsimp only; repeat' split
  all_goals simp
@[simp] theorem Coach.takeIdent_notices (e : Env) (i : Fin 4) (f : SeatFrame) (x y : Byte) (c : Coach) : (c.takeIdent e i f x y).notices = c.notices := by
  unfold Coach.takeIdent; dsimp only; repeat' split
  all_goals simp
@[simp] theorem Coach.takeIdent_map (e : Env) (i : Fin 4) (f : SeatFrame) (x y : Byte) (c : Coach) : (c.takeIdent e i f x y).map = c.map := by
  unfold Coach.takeIdent; dsimp only; repeat' split
  all_goals simp
@[simp] theorem Coach.identEnds_journey (e : Env) (i : Fin 4) (f : SeatFrame) (x y k : Byte) (c : Coach) : (c.identEnds e i f x y k).journey = c.journey := by unfold Coach.identEnds; split <;> simp
@[simp] theorem Coach.identEnds_axle (e : Env) (i : Fin 4) (f : SeatFrame) (x y k : Byte) (c : Coach) : (c.identEnds e i f x y k).axle = c.axle := by unfold Coach.identEnds; split <;> simp
@[simp] theorem Coach.identEnds_position (e : Env) (i : Fin 4) (f : SeatFrame) (x y k : Byte) (c : Coach) : (c.identEnds e i f x y k).position = c.position := by unfold Coach.identEnds; split <;> simp
@[simp] theorem Coach.identEnds_notices (e : Env) (i : Fin 4) (f : SeatFrame) (x y k : Byte) (c : Coach) : (c.identEnds e i f x y k).notices = c.notices := by unfold Coach.identEnds; split <;> simp
@[simp] theorem Coach.identEnds_map (e : Env) (i : Fin 4) (f : SeatFrame) (x y k : Byte) (c : Coach) : (c.identEnds e i f x y k).map = c.map := by unfold Coach.identEnds; split <;> simp
@[simp] theorem Coach.stick_journey (e : Env) (i : Fin 4) (c : Coach) : (c.stick e i).journey = c.journey := by unfold Coach.stick; dsimp only; split <;> simp
@[simp] theorem Coach.stick_axle (e : Env) (i : Fin 4) (c : Coach) : (c.stick e i).axle = c.axle := by unfold Coach.stick; dsimp only; split <;> simp
@[simp] theorem Coach.stick_position (e : Env) (i : Fin 4) (c : Coach) : (c.stick e i).position = c.position := by unfold Coach.stick; dsimp only; split <;> simp
@[simp] theorem Coach.stick_notices (e : Env) (i : Fin 4) (c : Coach) : (c.stick e i).notices = c.notices := by unfold Coach.stick; dsimp only; split <;> simp
@[simp] theorem Coach.stick_map (e : Env) (i : Fin 4) (c : Coach) : (c.stick e i).map = c.map := by unfold Coach.stick; dsimp only; split <;> simp
@[simp] theorem Coach.clearFault_journey (c : Coach) : (c.clearFault).journey = c.journey := by unfold Coach.clearFault; split <;> rfl
@[simp] theorem Coach.clearFault_axle (c : Coach) : (c.clearFault).axle = c.axle := by unfold Coach.clearFault; split <;> rfl
@[simp] theorem Coach.clearFault_position (c : Coach) : (c.clearFault).position = c.position := by unfold Coach.clearFault; split <;> rfl
@[simp] theorem Coach.clearFault_seats (c : Coach) : (c.clearFault).seats = c.seats := by unfold Coach.clearFault; split <;> rfl
@[simp] theorem Coach.clearFault_sensors (c : Coach) : (c.clearFault).sensors = c.sensors := by unfold Coach.clearFault; split <;> rfl
@[simp] theorem Coach.clearFault_lines (c : Coach) : (c.clearFault).lines = c.lines := by unfold Coach.clearFault; split <;> rfl
@[simp] theorem Coach.clearFault_notices (c : Coach) : (c.clearFault).notices = c.notices := by unfold Coach.clearFault; split <;> rfl
@[simp] theorem Coach.clearFault_map (c : Coach) : (c.clearFault).map = c.map := by unfold Coach.clearFault; split <;> rfl
@[simp] theorem Coach.unstick_journey (e : Env) (i : Fin 4) (c : Coach) : (c.unstick e i).journey = c.journey := by simp [Coach.unstick]
@[simp] theorem Coach.unstick_axle (e : Env) (i : Fin 4) (c : Coach) : (c.unstick e i).axle = c.axle := by simp [Coach.unstick]
@[simp] theorem Coach.unstick_position (e : Env) (i : Fin 4) (c : Coach) : (c.unstick e i).position = c.position := by simp [Coach.unstick]
@[simp] theorem Coach.unstick_seats (e : Env) (i : Fin 4) (c : Coach) : (c.unstick e i).seats = c.seats := by simp [Coach.unstick]
@[simp] theorem Coach.unstick_sensors (e : Env) (i : Fin 4) (c : Coach) : (c.unstick e i).sensors = c.sensors := by simp [Coach.unstick]
@[simp] theorem Coach.unstick_notices (e : Env) (i : Fin 4) (c : Coach) : (c.unstick e i).notices = c.notices := by simp [Coach.unstick]
@[simp] theorem Coach.unstick_map (e : Env) (i : Fin 4) (c : Coach) : (c.unstick e i).map = c.map := by simp [Coach.unstick]
@[simp] theorem Coach.leaveRun_journey (e : Env) (i : Fin 4) (a : LineActivity) (c : Coach) : (c.leaveRun e i a).journey = c.journey := by
  unfold Coach.leaveRun; dsimp only; repeat' split
  all_goals simp
@[simp] theorem Coach.leaveRun_axle (e : Env) (i : Fin 4) (a : LineActivity) (c : Coach) : (c.leaveRun e i a).axle = c.axle := by
  unfold Coach.leaveRun; dsimp only; repeat' split
  all_goals simp
@[simp] theorem Coach.leaveRun_position (e : Env) (i : Fin 4) (a : LineActivity) (c : Coach) : (c.leaveRun e i a).position = c.position := by
  unfold Coach.leaveRun; dsimp only; repeat' split
  all_goals simp
@[simp] theorem Coach.leaveRun_notices (e : Env) (i : Fin 4) (a : LineActivity) (c : Coach) : (c.leaveRun e i a).notices = c.notices := by
  unfold Coach.leaveRun; dsimp only; repeat' split
  all_goals simp
@[simp] theorem Coach.leaveRun_map (e : Env) (i : Fin 4) (a : LineActivity) (c : Coach) : (c.leaveRun e i a).map = c.map := by
  unfold Coach.leaveRun; dsimp only; repeat' split
  all_goals simp
@[simp] theorem Coach.runLine_journey (e : Env) (i : Fin 4) (c : Coach) : (c.runLine e i).journey = c.journey := by unfold Coach.runLine; split <;> simp
@[simp] theorem Coach.runLine_axle (e : Env) (i : Fin 4) (c : Coach) : (c.runLine e i).axle = c.axle := by unfold Coach.runLine; split <;> simp
@[simp] theorem Coach.runLine_position (e : Env) (i : Fin 4) (c : Coach) : (c.runLine e i).position = c.position := by unfold Coach.runLine; split <;> simp
@[simp] theorem Coach.runLine_seats (e : Env) (i : Fin 4) (c : Coach) : (c.runLine e i).seats = c.seats := by unfold Coach.runLine; split <;> simp
@[simp] theorem Coach.runLine_sensors (e : Env) (i : Fin 4) (c : Coach) : (c.runLine e i).sensors = c.sensors := by unfold Coach.runLine; split <;> simp
@[simp] theorem Coach.runLine_notices (e : Env) (i : Fin 4) (c : Coach) : (c.runLine e i).notices = c.notices := by unfold Coach.runLine; split <;> simp
@[simp] theorem Coach.runLine_map (e : Env) (i : Fin 4) (c : Coach) : (c.runLine e i).map = c.map := by unfold Coach.runLine; split <;> simp
@[simp] theorem Coach.runLine_reportsA (e : Env) (i : Fin 4) (c : Coach) : (c.runLine e i).reportsA = c.reportsA := by unfold Coach.runLine; split <;> simp
@[simp] theorem Coach.runLine_reportsB (e : Env) (i : Fin 4) (c : Coach) : (c.runLine e i).reportsB = c.reportsB := by unfold Coach.runLine; split <;> simp
@[simp] theorem Coach.lineAction_journey (e : Env) (i : Fin 4) (a : Nat) (c : Coach) : (c.lineAction e i a).journey = c.journey := by unfold Coach.lineAction; split <;> simp
@[simp] theorem Coach.lineAction_axle (e : Env) (i : Fin 4) (a : Nat) (c : Coach) : (c.lineAction e i a).axle = c.axle := by unfold Coach.lineAction; split <;> simp
@[simp] theorem Coach.lineAction_position (e : Env) (i : Fin 4) (a : Nat) (c : Coach) : (c.lineAction e i a).position = c.position := by unfold Coach.lineAction; split <;> simp
@[simp] theorem Coach.lineAction_notices (e : Env) (i : Fin 4) (a : Nat) (c : Coach) : (c.lineAction e i a).notices = c.notices := by unfold Coach.lineAction; split <;> simp
@[simp] theorem Coach.lineAction_map (e : Env) (i : Fin 4) (a : Nat) (c : Coach) : (c.lineAction e i a).map = c.map := by unfold Coach.lineAction; split <;> simp
@[simp] theorem Coach.controlLine_journey (i : Fin 4) (r : LineControl) (e : Env) (c : Coach) : (c.controlLine i r e).journey = c.journey := by simp [Coach.controlLine]
@[simp] theorem Coach.controlLine_axle (i : Fin 4) (r : LineControl) (e : Env) (c : Coach) : (c.controlLine i r e).axle = c.axle := by simp [Coach.controlLine]
@[simp] theorem Coach.controlLine_position (i : Fin 4) (r : LineControl) (e : Env) (c : Coach) : (c.controlLine i r e).position = c.position := by simp [Coach.controlLine]
@[simp] theorem Coach.controlLine_notices (i : Fin 4) (r : LineControl) (e : Env) (c : Coach) : (c.controlLine i r e).notices = c.notices := by simp [Coach.controlLine]
@[simp] theorem Coach.controlLine_map (i : Fin 4) (r : LineControl) (e : Env) (c : Coach) : (c.controlLine i r e).map = c.map := by simp [Coach.controlLine]

end Sys2Proof.Machine
end

