-- ==== Sys2Proof/Laws/Request.lean ====
section
/-! SUPPORT. What the shared operations of a request do: taking and answering, the lead checks, the judging of checks in order. -/

namespace Sys2Proof.Machine

/-! ## Taking and answering -/

theorem live_running {s : State} (h : s.inReset = false) (f : State → State) : live s f = .next (f s) := by
  simp [live, h]

theorem live_held {s : State} (h : s.inReset = true) (f : State → State) : live s f = .next s := by
  simp [live, h]

/-- A request that can be taken is answered on the state it leaves. -/
theorem live_request {s : State} {p : Port} (h : s.takes p) (kind : Nat) (take : State → State × Reply) :
    live s (request p kind take)
      = .next (State.answer p kind (take (s.renew p)).2.status (take (s.renew p)).2.results (take (s.renew p)).1) := by
  rw [live_running h.1]
  simp [request, h.2, State.answer, responseFrame]

/-- A request that finds no free place in the response buffer waits. -/
theorem live_request_waits {s : State} {p : Port} (h : s.hasPlace p = false) (kind : Nat) (take : State → State × Reply) :
    live s (request p kind take) = .next s := by
  unfold live request
  simp [h]


@[simp] theorem State.renew_isLead (s : State) (p : Port) : (s.renew p).isLead p = s.isLead p := by
  cases p <;> simp [State.isLead]

/-- A request of the lead port starts the lease again. -/
theorem State.renew_lead {s : State} {q : LinePort} (h : s.consist.lead = some q) : s.renew (.line q) = s.renewed := by
  simp [State.renew, State.isLead, h, State.renewed, State.wholeLease, State.freshLease]

/-- A request of another port does not touch the lease. -/
theorem State.renew_other {s : State} {q : LinePort} (h : s.consist.lead ≠ some q) : s.renew (.line q) = s := by
  simp [State.renew, State.isLead, h]

/-- Taking a request changes nothing but the lease. -/
theorem State.renew_eq (s : State) (p : Port) :
    s.renew p = { s with consist := { s.consist with lease := if s.isLead p then s.wholeLease else s.consist.lease } } := by
  unfold State.renew
  split <;> simp [*, State.wholeLease, State.freshLease]

@[simp] theorem State.renew_env (p : Port) (s : State) : (s.renew p).env = s.env := by simp [State.env]

@[simp] theorem State.renewed_coach (s : State) : s.renewed.coach = s.coach := rfl
@[simp] theorem State.renewed_env (s : State) : s.renewed.env = s.env := rfl
@[simp] theorem State.renewed_params (s : State) : s.renewed.params = s.params := rfl
@[simp] theorem State.renewed_now (s : State) : s.renewed.now = s.now := rfl
@[simp] theorem State.renewed_lead (s : State) : s.renewed.consist.lead = s.consist.lead := rfl

/-- An answer changes nothing but the response buffer of its port. -/
@[simp] theorem State.answer_coach (p : Port) (k : Nat) (st : Status) (rs : List Byte) (s : State) :
    (State.answer p k st rs s).coach = s.coach := by
  cases p with
  | crew => rfl
  | line q => cases q <;> simp only [State.answer, State.respond, State.setPort] <;> split <;> rfl

@[simp] theorem State.answer_consist (p : Port) (k : Nat) (st : Status) (rs : List Byte) (s : State) :
    (State.answer p k st rs s).consist = s.consist := by
  cases p with
  | crew => rfl
  | line q => cases q <;> simp only [State.answer, State.respond, State.setPort] <;> split <;> rfl

@[simp] theorem State.answer_params (p : Port) (k : Nat) (st : Status) (rs : List Byte) (s : State) :
    (State.answer p k st rs s).params = s.params := by
  cases p with
  | crew => rfl
  | line q => cases q <;> simp only [State.answer, State.respond, State.setPort] <;> split <;> rfl

@[simp] theorem State.answer_now (p : Port) (k : Nat) (st : Status) (rs : List Byte) (s : State) :
    (State.answer p k st rs s).now = s.now := by
  cases p with
  | crew => rfl
  | line q => cases q <;> simp only [State.answer, State.respond, State.setPort] <;> split <;> rfl

/-! ## Who may send what -/

@[simp] theorem lineOnly_line (q : LinePort) (take : LinePort → State → State × Reply) (s : State) :
    lineOnly (.line q) take s = take q s := rfl

@[simp] theorem lineOnly_crew (take : LinePort → State → State × Reply) (s : State) :
    lineOnly .crew take s = refuse .notPermitted s := rfl

theorem leadOnly_lead {s : State} {q : LinePort} (h : s.consist.lead = some q) (take : LinePort → State → State × Reply) :
    leadOnly (.line q) take s = take q s := by
  simp [leadOnly, h]

theorem leadOnly_other {s : State} {q : LinePort} (h : s.consist.lead ≠ some q) (take : LinePort → State → State × Reply) :
    leadOnly (.line q) take s = refuse .notLead s := by
  simp [leadOnly, h]

@[simp] theorem leadOnly_crew (take : LinePort → State → State × Reply) (s : State) :
    leadOnly .crew take s = refuse .notPermitted s := rfl

/-- The crew port and the lead port pass the check of what both may send. -/
theorem leadOrCrew_passes {s : State} {p : Port} (h : p = .crew ∨ s.isLead p = true) (take : State → State × Reply) :
    leadOrCrew p take s = take s := by
  cases p with
  | crew => rfl
  | line q => simpa [leadOrCrew, State.isLead] using fun h' => absurd h (by simp [State.isLead, h'])

/-! ## Judging -/

/-- With no failing check the request is taken. -/
theorem judge_nil (take : State → State × Reply) (s : State) : judge [] take s = take s := rfl

/-- The first check decides if it fails, else the checks after it. -/
theorem judge_cons (b : Bool) (st : Status) (ks : List (Bool × Status)) (take : State → State × Reply) (s : State) :
    judge ((b, st) :: ks) take s = if b then refuse st s else judge ks take s := by
  cases b <;> simp [judge]

/-- Everything a judged request can do: it is refused with the first check that fails, or all pass and it is taken. -/
theorem judge_cases (ks : List (Bool × Status)) (take : State → State × Reply) (s : State) :
    (∃ st, (true, st) ∈ ks ∧ judge ks take s = refuse st s) ∨ ((∀ k ∈ ks, k.1 = false) ∧ judge ks take s = take s) := by
  induction ks with
  | nil => exact .inr ⟨by simp, rfl⟩
  | cons k ks ih =>
    obtain ⟨b, st⟩ := k
    cases b with
    | true => exact .inl ⟨st, by simp, by simp [judge_cons]⟩
    | false =>
      obtain ⟨st', hm, he⟩ | ⟨hall, he⟩ := ih
      · exact .inl ⟨st', by simp [hm], by simpa [judge_cons] using he⟩
      · exact .inr ⟨by simpa using hall, by simpa [judge_cons] using he⟩

/-! ## Requests of the lead -/

/-- A lead-only request of the lead port is answered as its own checks give, on the state with the lease started again. -/
theorem live_leadOnly {s : State} {q : LinePort} (h : s.leads q) (kind : Nat) (take : LinePort → State → State × Reply) :
    live s (request (.line q) kind (leadOnly (.line q) take))
      = .next (State.answer (.line q) kind (take q s.renewed).2.status (take q s.renewed).2.results (take q s.renewed).1) := by
  rw [live_request h.1, State.renew_lead h.2, leadOnly_lead (s := s.renewed) h.2]

/-- A request of the lead or the crew port is answered as its own checks give. -/
theorem live_leadOrCrew {s : State} {p : Port} (h : s.controls p) (kind : Nat) (take : State → State × Reply) :
    live s (request p kind (leadOrCrew p take))
      = .next (State.answer p kind (take (s.renew p)).2.status (take (s.renew p)).2.results (take (s.renew p)).1) := by
  rw [live_request h.1, leadOrCrew_passes]
  cases p with
  | crew => exact .inl rfl
  | line q => exact .inr (by simpa [State.renew_isLead] using h.2)

end Sys2Proof.Machine
end

