-- ==== Sys2Proof/Laws/Notice.lean ====
section
/-! SUPPORT. What a change taken by the notice unit does beyond the notice unit: reports of ended notices and display contents alone. -/

namespace Sys2Proof.Machine

/-- Working the displayed states out again changes contents alone. -/
@[simp] theorem Coach.refresh_seats (e : Env) (c : Coach) :
    (c.refresh e).seats = c.seats.map fun s => { s with content := c.contentOf e s } := by
  unfold Coach.refresh
  exact (foldl_keeps Coach.seats (fun (d : Coach) (s : Seat) => d.contentChange s.line s.module) (fun _ _ => rfl) _ _)

@[simp] theorem Coach.refresh_bare (e : Env) (c : Coach) : (c.refresh e).seats.map Seat.bare = c.seats.map Seat.bare := by
  simp [Seat.bare, Function.comp_def]

/-- A change taken by the notice unit changes no seat but its display content. -/
@[simp] theorem Coach.notice_bare (e : Env) (g : NoticeChange) (c : Coach) :
    (c.notice e g).seats.map Seat.bare = c.seats.map Seat.bare := by
  unfold Coach.notice
  dsimp only
  split <;> split <;> (try rw [Coach.refresh_bare]) <;> simp

/-- The reports of a change taken by the notice unit are those of the entries it ends. -/
theorem Coach.notice_reportsA (e : Env) (g : NoticeChange) (c : Coach) :
    (c.notice e g).reportsA = (c.noticeQueueStep e g).reportsA := by
  unfold Coach.notice
  dsimp only
  split <;> split <;> simp

theorem Coach.notice_reportsB (e : Env) (g : NoticeChange) (c : Coach) :
    (c.notice e g).reportsB = (c.noticeQueueStep e g).reportsB := by
  unfold Coach.notice
  dsimp only
  split <;> split <;> simp

/-- Ending no entry raises no report. -/
theorem Coach.endNotices_none (e : Env) (c : Coach) {f : Notice → Option Nat} (h : ∀ n ∈ c.notices.queue, f n = none) :
    (c.endNotices e f).reportsA = c.reportsA ∧ (c.endNotices e f).reportsB = c.reportsB := by
  have : (c.notices.queue.flatMap fun n => ((f n).map fun k => endedReport c k n).getD []) = [] := by
    simp only [List.flatMap_eq_nil_iff]
    intro n hn
    simp [h n hn]
  unfold Coach.endNotices
  rw [this]
  exact ⟨rfl, rfl⟩

theorem endCause_other (n : Notice) : endCause .other n = none := rfl

theorem listCause_other (e : Env) (c : Coach) (n : Notice) : listCause e c .other n = none := by
  unfold listCause
  split
  · rfl
  · split <;> rfl

/-- Changes of fix state, orientation, texts or coach number end no notice, so they raise no report. -/
theorem Coach.notice_other_reports (e : Env) (c : Coach) :
    (c.notice e .other).reportsA = c.reportsA ∧ (c.notice e .other).reportsB = c.reportsB := by
  have h1 := Coach.endNotices_none e c (f := endCause .other) fun n _ => endCause_other n
  have h2 := Coach.endNotices_none e (c.endNotices e (endCause .other)) (f := listCause e (c.endNotices e (endCause .other)) .other)
    fun n _ => listCause_other e _ n
  rw [Coach.notice_reportsA, Coach.notice_reportsB]
  exact ⟨h2.1.trans h1.1, h2.2.trans h1.2⟩

end Sys2Proof.Machine
end

