-- ==== Sys2Proof/Tests/Slice0.lean ====
section
/-! SUPPORT. Tests of the model: ill-formed commands that the check refuses; for every statement with hypotheses a state and operands that
meet them, clause by clause at the edges of their ranges; and steps with outcomes worked out by hand from the spec's rules and sequences. -/

namespace Sys2Proof.Tests

open Sys2Proof Sys2Proof.Machine

/-! ## States -/

def abc : ShortName := ⟨65#8, 66#8, 67#8⟩

/-- RESET high, both links UP, nothing set and nothing due. -/
def idle : State := { State.reset with
  inReset := false, portA := { linkUp := true, silenceAt := 4800000 }, portB := { linkUp := true, silenceAt := 4800000 }
  coach := { notices := { pageDue := false } } }

/-- Port A leads, generation 5, unit id 7. -/
def led : State := { idle with consist := { generation := 5, lead := some .a, leadUnit := 7, lease := some 72000000 } }

def onCoach (f : Coach → Coach) (s : State) : State := { s with coach := f s.coach }

def onJourney (f : Journey → Journey) (s : State) : State := onCoach (fun c => { c with journey := f c.journey }) s

def onLine (l : SeatLine) (s : State) : State := onCoach (fun c => { c with lines := c.lines.set 0 l }) s

def onNotices (f : NoticeUnit → NoticeUnit) (s : State) : State := onCoach (fun c => { c with notices := f c.notices }) s

def onAxle (f : Axle → Axle) (s : State) : State := onCoach (fun c => { c with axle := f c.axle }) s

def onPosition (f : Position → Position) (s : State) : State := onCoach (fun c => { c with position := f c.position }) s

/-- A stop of portion 0. -/
def stopRec (code position : Nat) (calling : Bool) (status : StopStatus) : StopRec :=
  ⟨code, abc, position, 1#4, calling, .left, some 4, some 612, some 615, false, false, false, status⟩

def stopWire (code position : Nat) : StopWire := ⟨code, abc, position, 1#4, true, .left, false, false, false, 4, 612, 615⟩

/-- A journey of four stops, the first departed, the third a stop the coach does not call at. -/
def stops : List StopRec := [stopRec 101 0 true .departed, stopRec 102 1000 true .ahead, stopRec 103 2000 false .ahead, stopRec 104 4000 true .ahead]

def running : State := onJourney (fun j => { j with
  phase := .inService, list := stops, lastDeparted := some 0, nextCalling := some 1, orientation := .aForward }) led

def atStop : State := onJourney (fun j => { j with
  list := setStatus j.list 1 .current, atStop := some 1, departurePoint := some 1150 }) running

def terminated : State := onJourney (fun j => { j with phase := .terminated }) running

/-- The owner of a staging list. -/
def loading (g : List (Option StopRec)) (s : State) : State :=
  onJourney (fun j => { j with staging := g }) { s with consist := { s.consist with stagingOwner := some .a } }

def entry (token : Nat) (state : EntryState) (window : ClaimWindow) : Entry :=
  ⟨token, 102, 104, state, false, 1, 3, window, some (102, 1000), true⟩

def seatWith (entries : List Entry) : Seat := ⟨9, 0, 0, 0, false, false, entries, .noInfo⟩

def seated (s : State) (entries : List Entry) : State := onCoach (fun c => { c with seats := [seatWith entries] }) s

def poll : SeatFrame := ⟨.poll, 0, 0, [], 0, []⟩

def ident : SeatFrame := ⟨.ident, 0, 0, [], 0, []⟩

def lineWith (a : LineActivity) : SeatLine := { activity := a, moduleCount := 1 }

def healthy (f : SeatFrame) (h : Health) : SeatLine := { lineWith (.frame f) with modules := { health := h, places := some 2 } :: List.replicate 15 {} }

def notice (id : Nat) (source : NoticeSource) (ends : EndCondition) : Notice :=
  ⟨id, .lineText, source, 2, none, some 0, .atOnce, ends, .shown, some 0, some 0, some 1⟩

def noticed (l : List Notice) (s : State) : State := onNotices (fun n => { n with queue := l }) s

def coasting (speed agree : Nat) : Coast := ⟨speed, true, agree, 0, false⟩

def record (speed : Option Nat) (still : Bool) : WindowRecord := ⟨.count, speed, 8, still⟩

def post (priority : Nat) (ends duration : Nat) : NoticeReq := ⟨priority, some 31, none, 0, 100, ends, duration⟩

/-- The state a command leaves. -/
def after (i : Instr) (s : State) : State := match exec i s with
  | .next t => t
  | _ => s

/-- Status and results of the last response of line port A. -/
def answered (s : State) : List Nat := (s.portA.responses.getLast?.map fun f => f.payload.map BitVec.toNat).getD []

/-! ## Well-formedness -/

theorem test_wf_refuses_requests : [Instr.badKindRequest .crew 30, .broadcastTaken .a 128 [], .claimLead (.line .a) 65536 0, .claimLead (.line .a) 0 256,
    .setConsist (.line .a) 256 0 0, .setOrientation (.line .a) 256, .configure (.line .a) 1 4294967296, .seatMap (.line .a) 1 [⟨1, 4, 0, 0, false⟩],
    .beginLoad (.line .a) 256, .stopRecords (.line .a) 0 (List.replicate 15 (stopWire 1 0)), .amendStop (.line .a) ⟨1, 1, .unchanged, .value 256, .absent, .absent⟩,
    .readStop (.line .a) 256, .reserve (.line .a) 1 4294967296 1 1, .cancel (.line .a) 4294967296, .release (.line .a) 4294967296].all
      (fun i => !i.wf) = true := by decide

theorem test_wf_refuses_others : [Instr.setOutOfUse .crew 256 true, .readSeat .crew 256, .reseedSeats .crew (some 0),
    .seatLineControl .crew ⟨0, 1, none, some 65536, none, none, none, none⟩, .positionFix (.line .a) 4294967296 0 none,
    .postNotice .crew ⟨1, some 256, none, 0, 0, 0, 0⟩, .cancelNotice .crew 256, .setText (.line .a) 0 (List.replicate 239 65#8), .setClock (.line .a) 65536 0,
    .readNotices (.line .a) 256 none, .readStatus .crew 256, .afterSecondsExpiry 256, .responseTimeout 0 5].all (fun i => !i.wf) = true := by decide +kernel

theorem test_wf_admits : (Instr.claimLead (.line .a) 65535 255).wf = true ∧ (Instr.reseedSeats .crew none).wf = true
    ∧ (Instr.stopRecords (.line .a) 0 [stopWire 65535 4294967295]).wf = true ∧ (Instr.badKindRequest .crew 31).wf = true := by decide

/-! ## Witnesses: the queue, reset, frames -/

theorem witness_idle_step : State.reset.pending = [] ∧ State.reset.inReset = true
    ∧ idle.pending = [] ∧ idle.inReset = false ∧ idle.dueNow = []
    ∧ (onAxle (fun x => { x with windowAt := some 0 }) idle).dueNow = [.command .windowClose]
    ∧ 2 ≤ (onAxle (fun x => { x with windowAt := some 0 }) { led with consist := { led.consist with lease := some 0 } }).dueNow.length := by decide +kernel

/-- Events of every kind of timer, each at its moment, and two that fall due together. -/
theorem witness_due : (4800000, Due.command (.linkDown .a)) ∈ idle.due ∧ (480000, Due.command (.idleCharacter .b)) ∈ idle.due
    ∧ (72000000, Due.command .leaseExpiry) ∈ led.due ∧ (10000, Due.command (.seatFrameStart 0)) ∈ (onLine (lineWith .idle) idle).due
    ∧ ((14 + 21 + 14 * 5) * 2500, Due.command (.responseTimeout 0 1)) ∈ (onLine (lineWith (.frame { poll with begun := [100000] })) idle).due
    ∧ (2400000, Due.command (.stuckRelease 0)) ∈ (onLine (lineWith .stuck) idle).due
    ∧ (75005, Due.command (.lineStuck 0)) ∈ (onLine { lineWith .idle with dominantSince := some 5 } idle).due
    ∧ ((1 + 3600 * 1000) * 24000, Due.command (.afterSecondsExpiry 1)) ∈ (noticed [notice 1 .crew (.afterSeconds 3600)] led).due
    ∧ ({ idle with now := 4800000 } : State).dueNow = [.command (.idleCharacter .a), .command (.idleCharacter .b)] := by decide +kernel

def waitingClock (payload : List Byte) : State :=
  { idle with portA := { idle.portA with requests := [⟨false, 24#8, payload⟩] } }

theorem witness_buffered : (waitingClock [0x9F#8, 5#8, 59#8]).requests (.line .a) = [⟨false, 24#8, [0x9F#8, 5#8, 59#8]⟩]
    ∧ Waiting.command (.line .a) ⟨false, 24#8, [0x9F#8, 5#8, 59#8]⟩ = some (.setClock (.line .a) 1439 59)
    ∧ Waiting.command (.line .a) ⟨false, 24#8, []⟩ = none ∧ ((waitingClock []).popRequest (.line .a)).takes (.line .a)
    ∧ requestOf (.keepLead (.line .a)) = some (.line .a, 2)
    ∧ 2 ≤ ({ idle with portA := { idle.portA with responses := [⟨0, 130, []⟩, ⟨0, 130, []⟩] } } : State).portA.responses.length := by decide

/-- A payload that does not fit its layout, of a crew kind and of another on the crew port and of a lead request, and an empty buffer. -/
theorem witness_buffered_misfit : idle.requests .crew = [] ∧ Waiting.command .crew ⟨false, 22#8, []⟩ = none
    ∧ Waiting.command .crew ⟨false, 24#8, []⟩ = none ∧ Waiting.command (.line .a) ⟨false, 1#8, []⟩ = none ∧ (1#8 : Byte).toNat ≤ 4
    ∧ (24#8 : Byte).toNat ∉ [16, 17, 18, 19, 21, 22, 26] ∧ (22#8 : Byte).toNat ∈ [16, 17, 18, 19, 21, 22, 26]
    ∧ (({ idle with crew := { idle.crew with requests := [⟨false, 24#8, []⟩] } } : State).popRequest .crew).takes .crew := by decide

theorem witness_reset_holds : State.reset.inReset = true ∧ Instr.chimeEnd ≠ .deviceReset ∧ (∀ a b, Instr.chimeEnd ≠ .resetRelease a b)
    ∧ idle.inReset = false := by decide

theorem witness_frame : (List.replicate 240 0x7E#8).length ≤ 240 ∧ (⟨0#8, 2#8, []⟩ : Frame).hop = 0
    ∧ receive false (some ⟨[2#8, 0#8] ++ [(crcChars [2#8, 0#8]).getD 0 0], false⟩) ((crcChars [2#8, 0#8]).getD 1 0)
      = (none, some ⟨0#8, 2#8, []⟩) := by decide +kernel

theorem witness_kind_and_hop : 128 ≤ (128#8).toNat ∧ (127#8).toNat < 128 ∧ (255#8).toNat = 255 ∧ (1#8).toNat = 1 ∧ (0#8).toNat = 0
    ∧ 2 ≤ (2#8).toNat ∧ (254#8).toNat ≤ 254 ∧ idle.inReset = false := by decide

theorem witness_characters : idle.inReset = false ∧ (0x7E#8 : Byte) = 0x7E#8 ∧ (0x7D#8 : Byte) ≠ 0x7E#8 ∧ (idle.port .a).rx = none
    ∧ ({ idle with portA := {} } : State).portA.linkUp = false := by decide

theorem witness_link_down : idle.inReset = false ∧ (idle.port .a).linkUp = true ∧ idle.consist.lead ≠ some .a ∧ led.inReset = false
    ∧ (led.port .a).linkUp = true ∧ led.consist.lead = some .a := by decide

/-- What a line port may be sending. -/
def portWith (forward responses : List Frame) (sending : Option Sending) (last : Bool) : PortState :=
  { linkUp := true, forward := forward, responses := responses, sending := sending, lastForward := last }

def frame : Frame := ⟨0#8, 130#8, [0#8, 0#8]⟩

theorem witness_transmitter : idle.inReset = false ∧ (portWith [] [] (some ⟨frame, 5⟩) true).sending = some ⟨frame, 5⟩
    ∧ (portWith [] [] none true).forward = [] ∧ (portWith [] [] none true).responses = [] ∧ (portWith [] [] none true).sending = none
    ∧ (portWith [frame] [] none true).forward = [frame] ∧ (portWith [frame] [frame] none false).lastForward = false
    ∧ (portWith [frame] [frame] none true).responses = [frame] ∧ (portWith [frame] [frame] none true).lastForward = true
    ∧ (portWith [frame] [] none true).forward ≠ []
    ∧ ({ idle with crew := { responses := [frame] } } : State).crew.responses = [frame]
    ∧ ({ idle with crew := { sending := some ⟨frame, 5⟩ } } : State).crew.sending = some ⟨frame, 5⟩ := by decide

/-! ## Witnesses: requests and the lead -/

theorem witness_broadcast : decodeRequest (.line .a) 24#8 [0x9F#8, 5#8, 59#8] = .cmd (.setClock (.line .a) 1439 59) ∧ (24#8).toNat ∈ [21, 23, 24]
    ∧ idle.hasPlace (.line .a) = true ∧ (22#8).toNat ∉ [21, 23, 24]
    ∧ decodeRequest (.line .a) 24#8 [0x9F#8, 5#8] ≠ .cmd (.setClock (.line .a) 1439 59) := by decide

/-- The response buffer of the port is full. -/
theorem witness_broadcast_full : let s : State := { led with portA := { led.portA with responses := [⟨0, 130, []⟩, ⟨0, 130, []⟩] } };
    s.inReset = false ∧ s.hasPlace (.line .a) = false
    ∧ decodeRequest (.line .a) 24#8 [0x9F#8, 5#8, 59#8] = .cmd (.setClock (.line .a) 1439 59) ∧ (24#8).toNat ∈ [21, 23, 24] := by decide

theorem witness_broadcast_misfit : ∀ i, decodeRequest (.line .a) 24#8 [] ≠ .cmd i := by
  intro i h; rw [show decodeRequest (.line .a) 24#8 [] = .badLayout by decide] at h; cases h

theorem witness_refusals : idle.takes .crew ∧ idle.takes (.line .a) ∧ (0#8).toNat = 0 ∧ 31 ≤ (31#8).toNat ∧ (127#8).toNat ≤ 127
    ∧ requestOf (.keepLead (.line .b)) = some (.line .b, 2) ∧ 2 ∈ leadKinds ∧ requestOf (.restartCoach (.line .b)) = some (.line .b, 30)
    ∧ 30 ∈ leadKinds ∧ led.takes (.line .b) ∧ led.consist.lead ≠ some .b
    ∧ requestOf (.keepLead .crew) = some (.crew, 2) ∧ 2 ∉ [16, 17, 18, 19, 21, 22, 26] := by decide

theorem witness_lease_of_requests : requestOf (.readStatus (.line .a) 255) = some (.line .a, 26) ∧ led.takes (.line .a)
    ∧ led.consist.lead = some .a ∧ (26 : Nat) ≠ 3 ∧ led.isLead .crew = false ∧ led.takes .crew ∧ (26 : Nat) ≠ 1 := by decide

theorem witness_claim : idle.takes (.line .a) ∧ ({ idle with portA := {} } : State).takes (.line .a) ∧ ({ idle with portA := {} } : State).portA.linkUp = false
    ∧ (led.port .a).linkUp = true ∧ 4 < led.consist.generation ∧ led.takes (.line .b) ∧ (led.port .b).linkUp = true
    ∧ led.consist.lead = some LinePort.b.other ∧ led.consist.generation < 6 ∧ led.consist.lead ≠ some LinePort.a.other
    ∧ led.consist.leadUnit = 7 := by decide

theorem witness_keep_and_yield : led.takes (.line .a) ∧ led.consist.lead = some .a ∧ led.takes (.line .b) ∧ led.consist.lead ≠ some .b := by decide

theorem witness_lease_expiry : led.inReset = false ∧ led.consist.lead = some .a ∧ led.consist.lease = some 72000000
    ∧ led.hasPlace (.line .a) = true ∧ (led.port .a).linkUp = true := by decide

theorem witness_set_consist : led.leads .a ∧ 6 ≠ led.consist.generation ∧ led.coach.journey.phase = .empty ∧ running.leads .a
    ∧ running.coach.journey.phase ≠ .empty ∧ 3 ≠ running.consist.portion.val ∧ callCount running.coach.journey.list 3 < 2
    ∧ atStop.coach.journey.atStop = some 1 ∧ (atStop.coach.journey.list[1]?.map fun r => r.mask.getLsbD 3) = some false := by decide

/-- A journey of which portion 1 calls at two stops as well. -/
def shared : State := onJourney (fun j => { j with list := j.list.map fun r => { r with mask := 3#4 } }) running

theorem witness_new_portion : shared.leads .a ∧ shared.coach.journey.phase ≠ .empty ∧ 1 ≠ shared.consist.portion.val
    ∧ ¬ callCount shared.coach.journey.list (Fin.ofNat 4 1) < 2 ∧ shared.coach.journey.atStop = none ∧ (5 : Nat) = shared.consist.generation := by decide

theorem witness_new_coach_number : running.leads .a ∧ running.coach.journey.phase ≠ .empty ∧ (32 : Nat) ≠ running.consist.coachNumber
    ∧ (0 : Nat) = running.consist.portion.val ∧ led.leads .a ∧ led.coach.journey.phase = .empty ∧ (3 : Nat) ≠ led.consist.portion.val := by decide

/-! ## Witnesses: the journey record -/

theorem witness_begin_load : led.takes (.line .a) ∧ led.consist.lead = some .a ∧ led.takes (.line .b) ∧ led.consist.lead ≠ some .b := by decide

theorem witness_stop_records : led.leads .a ∧ led.consist.stagingOwner ≠ some .a ∧ (loading (List.replicate 64 none) led).leads .a
    ∧ (loading (List.replicate 64 none) led).consist.stagingOwner = some .a ∧ (loading (List.replicate 64 none) led).coach.journey.staging.length = 64
    ∧ StopWire.ok (stopWire 0 0) = false ∧ StopWire.ok (stopWire 65534 4000000) = true := by decide

def good : List (Option StopRec) := [some (stopRec 101 0 true .ahead), some (stopRec 102 1000 true .ahead)]

theorem witness_end_load_refusals : led.leads .a ∧ led.consist.stagingOwner ≠ some .a
    ∧ (loading [some (stopRec 101 0 true .ahead), none] led).coach.journey.staging[1]? = some none ∧ none ∉ [some (stopRec 101 0 true .ahead)]
    ∧ (loading [some (stopRec 101 0 true .ahead), some (stopRec 101 5 true .ahead)] led).leads .a ∧ none ∉ good ∧ ([101] : List Nat).Nodup
    ∧ badListIndex 0 [some (stopRec 101 9 true .ahead), some (stopRec 102 9 true .ahead)] = some 1
    ∧ badListIndex 0 good = none ∧ running.coach.journey.phase = .inService
    ∧ remapPoint 0 [stopRec 201 0 true .ahead, stopRec 202 1000 true .ahead] running.coach.journey = none := by decide

/-- A staging list of written records, its codes rising from 101: the positions, which of them call, and which carry SPLIT. -/
def staged (l : List (Nat × Bool × Bool)) : State :=
  loading (l.mapIdx fun i x => some { stopRec (101 + i) x.1 x.2.1 .ahead with split := x.2.2 }) led

/-- Steps 5, 6 and 7 of END LOAD: two records at one position, one calling record, SPLIT on the last record, and none of these. -/
theorem witness_end_load_steps : (staged [(0, true, false), (5, true, false), (5, true, false)]).leads .a
    ∧ (let s := staged [(0, true, false), (5, true, false), (5, true, false)]; let list := s.coach.journey.staging.filterMap id
       s.consist.stagingOwner = some .a ∧ none ∉ s.coach.journey.staging ∧ (list.map StopRec.code).Nodup
       ∧ (list[1]?.map StopRec.position) = some 5 ∧ (list[2]?.map StopRec.position) = some 5
       ∧ (list.take 2).Pairwise (fun a b => a.position < b.position))
    ∧ (let s := staged [(0, false, false), (5, true, false), (6, false, false)]; let list := s.coach.journey.staging.filterMap id
       none ∉ s.coach.journey.staging ∧ (list.map StopRec.code).Nodup ∧ list.Pairwise (fun a b => a.position < b.position)
       ∧ callCount list s.consist.portion = 1 ∧ (list[1]?.map fun r => r.callsAt s.consist.portion) = some true)
    ∧ (let s := staged [(0, true, true), (5, true, true)]; let list := s.coach.journey.staging.filterMap id
       none ∉ s.coach.journey.staging ∧ (list.map StopRec.code).Nodup ∧ list.Pairwise (fun a b => a.position < b.position)
       ∧ callCount list s.consist.portion = 2 ∧ list.length = 2 ∧ (list[1]?.map fun r => (r.split, r.calling)) = some (true, true))
    ∧ badListIndex 0 (staged [(0, true, true), (5, true, false)]).coach.journey.staging = none := by decide

theorem witness_end_load : (loading good led).leads .a ∧ (loading good led).consist.stagingOwner = some .a
    ∧ badListIndex led.consist.portion (loading good led).coach.journey.staging = none ∧ (loading good led).coach.journey.phase = .empty
    ∧ (loading good terminated).coach.journey.phase = .terminated
    ∧ (onPosition (fun x => { x with motion := .moving }) (loading good led)).coach.position.motion ≠ .standstill
    ∧ (loading good led).coach.position.estimate = 0 := by decide

theorem witness_end_load_commits : (commitOf (loading good led).env [stopRec 101 0 true .ahead, stopRec 102 1000 true .ahead] led.coach.journey).isSome = true
    ∧ (loading good led).coach.position.motion = .standstill
    ∧ nextCall [stopRec 101 0 true .ahead, stopRec 102 1000 true .ahead] 0 0 = some 0
    ∧ (onPosition (fun x => { x with estimate := 150 * 65536000 }) (loading good led)).coach.position.estimate ≤ (0 + led.params.platformWin) * 65536000
    ∧ (∀ r ∈ good.filterMap id, led.coach.position.estimate ≤ (r.position + led.params.platformWin) * 65536000)
    ∧ (commitOf running.env (stops.map StopRec.asLoaded) running.coach.journey).isSome = true := by decide

theorem witness_remap : remapPoint 0 [stopRec 101 0 true .ahead, stopRec 104 4000 true .ahead] running.coach.journey = some (some 0, none)
    ∧ remapPoint 0 [stopRec 101 0 true .ahead, stopRec 102 1000 true .ahead, stopRec 104 4000 true .ahead] atStop.coach.journey = some (some 0, some 1)
    ∧ running.coach.journey.phase = .inService := by decide

/-- The stop after the departed one is skipped by the stop the coach stands at. -/
theorem witness_remap_skips : remapPoint 0 [stopRec 101 0 true .ahead, stopRec 103 2000 true .ahead, stopRec 104 4000 true .ahead]
      { running.coach.journey with atStop := some 3 } = some (some 0, some 2)
    ∧ nextCall [stopRec 101 0 true .ahead, stopRec 103 2000 true .ahead, stopRec 104 4000 true .ahead] 0 3 = none
    ∧ remapPoint 0 [stopRec 101 0 true .ahead, stopRec 102 1000 true .ahead, stopRec 104 4000 true .ahead] { atStop.coach.journey with lastDeparted := none }
      = some (none, some 1) := by decide

/-- A remap whose last departed is gone, and one that has no stop left after it. -/
theorem witness_remap_fails : codeAt running.coach.journey.list running.coach.journey.lastDeparted = some 101
    ∧ findCode [stopRec 102 1000 true .ahead, stopRec 104 4000 true .ahead] 101 = none
    ∧ codeAt atStop.coach.journey.list atStop.coach.journey.atStop = some 102
    ∧ (stopRec 102 1000 true .ahead).callsAt 0 = true ∧ findCode [stopRec 101 0 true .ahead, stopRec 102 1000 true .ahead] 102 = some 1
    ∧ remapPoint 0 [stopRec 102 1000 true .ahead, stopRec 101 1500 true .ahead, stopRec 103 2000 false .ahead] running.coach.journey = none
    ∧ findCode [stopRec 102 1000 true .ahead, stopRec 101 1500 true .ahead, stopRec 103 2000 false .ahead] 101 = some 1
    ∧ (stopRec 103 2000 false .ahead).callsAt 0 = false := by decide

theorem witness_recalculate : atStop.coach.journey.atStop = some 1 ∧ (∃ r, atStop.coach.journey.list[3]? = some r ∧ r.callsAt 0 = true)
    ∧ ({ atStop.coach.journey with atStop := some 3 } : Journey).list.length = 4 ∧ running.coach.journey.atStop = none
    ∧ (stopRec 102 1000 true .ahead).callsAt 0 = true
    ∧ (∀ r ∈ running.coach.journey.list, r.status = .ahead → r.callsAt 1 = false) ∧ running.coach.journey.phase = .inService
    ∧ terminated.coach.journey.phase = .terminated ∧ led.coach.journey.phase = .empty := by decide

theorem witness_amend : led.leads .a ∧ led.coach.journey.phase = .empty ∧ running.leads .a ∧ running.coach.journey.phase ≠ .empty
    ∧ (∀ r ∈ running.coach.journey.list, r.code ≠ 65535) ∧ findCode running.coach.journey.list 101 = some 0
    ∧ AmendReq.outside ⟨101, 2, .unchanged, .unchanged, .unchanged, .unchanged⟩ = true
    ∧ AmendReq.outside ⟨101, 1, .unchanged, .value 99, .value 1439, .absent⟩ = false
    ∧ (running.coach.journey.list[0]?.map StopRec.status) = some .departed
    ∧ (atStop.coach.journey.list[1]?.map fun r => (r.status, r.calling)) = some (.current, true)
    ∧ terminated.leads .a ∧ terminated.coach.journey.phase = .terminated ∧ findCode terminated.coach.journey.list 104 = some 3
    ∧ amendBreaks 0 terminated.coach.journey (terminated.coach.journey.list.modify 3 (AmendReq.record ⟨104, 1, .unchanged, .value 99, .value 1439, .absent⟩))
        (stopRec 104 4000 true .ahead) false = false := by decide

/-- Stop 102 taken off, the times of a stop kept calling, and what forbids the first where it is forbidden. -/
theorem witness_amend_accepted : running.leads .a ∧ findCode running.coach.journey.list 102 = some 1
    ∧ AmendReq.outside ⟨102, 0, .unchanged, .value 1, .absent, .value 1439⟩ = false
    ∧ (let list := running.coach.journey.list.set 1 { stopRec 102 1000 false .ahead with platform := some 1 }
       callCount list 0 = 2 ∧ (stopRec 102 1000 true .ahead).reverse = false ∧ (stopRec 102 1000 true .ahead).split = false
       ∧ (stopRec 102 1000 true .ahead).join = false ∧ running.coach.journey.atStop = none ∧ ¬ ∀ y ∈ list, y.status = .ahead → y.callsAt 0 = false)
    ∧ (onJourney (fun j => { j with phase := .staged, lastDeparted := none, list := stops.map StopRec.asLoaded }) running).coach.journey.phase = .staged
    ∧ callCount (running.coach.journey.list.set 3 (stopRec 104 4000 false .ahead)) 0 = 2
    ∧ callCount ((running.coach.journey.list.set 3 (stopRec 104 4000 false .ahead)).set 1 (stopRec 102 1000 false .ahead)) 0 < 2
    ∧ (∀ y ∈ (running.coach.journey.list.set 3 (stopRec 104 4000 false .ahead)).set 1 (stopRec 102 1000 false .ahead), y.status = .ahead → y.callsAt 0 = false)
    ∧ (atStop.coach.journey.list.set 3 (stopRec 104 4000 false .ahead))[1]? = some (stopRec 102 1000 true .current)
    ∧ nextCall (atStop.coach.journey.list.set 3 (stopRec 104 4000 false .ahead)) 0 2 = none := by decide

theorem witness_reads : led.takes (.line .b) ∧ led.takes .crew ∧ led.coach.journey.phase = .empty ∧ running.takes (.line .a)
    ∧ running.coach.journey.list.length ≤ 4 ∧ running.coach.journey.list[3]? = some (stopRec 104 4000 true .ahead)
    ∧ (∀ x ∈ led.coach.seats, x.number ≠ 9) ∧ (seated led []).coach.seat 9 = some (seatWith []) := by decide

theorem witness_progress : running.coach.journey.phase = .inService ∧ running.coach.journey.list[1]? = some (stopRec 102 1000 true .ahead)
    ∧ running.coach.seats = [] ∧ running.coach.notices.queue = [] ∧ running.env.lead = some .a
    ∧ atStop.coach.journey.atStop = some 1 ∧ atStop.coach.journey.departurePoint = some 1150
    ∧ (onPosition (fun x => { x with estimate := 1150 * 65536000 }) atStop).coach.position.estimate ≤ 1150 * 65536000
    ∧ 1150 * 65536000 < (onPosition (fun x => { x with estimate := 1150 * 65536000 + 1 }) atStop).coach.position.estimate
    ∧ running.coach.journey.atStop = none ∧ running.coach.journey.nextCalling = some 1
    ∧ (onPosition (fun x => { x with estimate := 850 * 65536000 }) running).coach.position.motion = .standstill
    ∧ 850 * 65536000 ≤ (1000 + running.env.params.platformWin) * 65536000
    ∧ 1000 * 65536000 ≤ 850 * 65536000 + running.env.params.platformWin * 65536000
    ∧ (stopRec 102 1000 true .ahead).callsAt running.env.portion = true := by decide

theorem witness_run_through : running.coach.journey.atStop = none ∧ running.coach.journey.nextCalling = some 1
    ∧ (1000 + running.env.params.platformWin) * 65536000 < (onPosition (fun x => { x with estimate := 1150 * 65536000 + 1 }) running).coach.position.estimate
    ∧ running.env.lead = some .a ∧ running.coach.seats = [] ∧ running.coach.notices.queue = [] := by decide

theorem witness_passing : led.coach.journey.phase = .empty ∧ terminated.coach.journey.phase = .terminated
    ∧ running.coach.journey.list[2]? = some (stopRec 103 2000 false .ahead)
    ∧ (stopRec 103 2000 false .ahead).callsAt 0 = false := by decide

/-- At the far edge of the platform window in motion, and one unit short of it at standstill. -/
theorem witness_between_stops : running.coach.journey.phase = .inService ∧ running.coach.journey.atStop = none
    ∧ running.coach.journey.nextCalling = some 1 ∧ running.coach.journey.list[1]? = some (stopRec 102 1000 true .ahead)
    ∧ (onPosition (fun x => { x with estimate := 1150 * 65536000, motion := .moving }) running).coach.position.estimate
        ≤ (1000 + running.env.params.platformWin) * 65536000
    ∧ (onPosition (fun x => { x with estimate := 1150 * 65536000, motion := .moving }) running).coach.position.motion ≠ .standstill
    ∧ running.coach.position.motion = .standstill
    ∧ 850 * 65536000 - 1 + running.env.params.platformWin * 65536000 < 1000 * 65536000 := by decide

/-! ## Witnesses: seats -/

theorem witness_seat_map : running.leads .a ∧ running.coach.journey.phase ≠ .empty ∧ led.leads .a ∧ led.coach.journey.phase = .empty
    ∧ 96 < 97 ∧ (199 : Nat) < 200
    ∧ [(⟨1, 0, 0, 0, false⟩ : SeatDesc), ⟨199, 3, 15, 1, true⟩].Pairwise
        (fun a b => a.number ≠ b.number ∧ ¬ (a.line = b.line ∧ a.module = b.module ∧ a.place = b.place)) := by decide

theorem witness_reserve : led.leads .a ∧ led.coach.journey.phase = .empty ∧ (seated running []).leads .a ∧ (seated running []).coach.seat 8 = none
    ∧ (seated running []).coach.seat 9 = some (seatWith []) ∧ (seatWith []).outOfUse = false
    ∧ (∃ z ∈ (seated running [entry 1 .booked .pending]).coach.seats, ∃ y ∈ z.entries, y.token = 1)
    ∧ findCode stops 65534 = none ∧ findCode stops 102 = some 1 ∧ findCode stops 104 = some 3 ∧ effLeg stops 0 102 104 = some (1, 3)
    ∧ effLeg stops 0 103 104 = none ∧ (stopRec 101 0 true .departed).status.past = true
    ∧ Booking.overlapsEntry ⟨2, 102, 104⟩ stops (entry 1 .booked .pending) = true
    ∧ Booking.overlapsEntry ⟨2, 102, 104⟩ stops (entry 1 .released .spent) = true
    ∧ (seated running []).coach.attached < 256 ∧ stops[1]? = some (stopRec 102 1000 true .ahead) := by decide

theorem witness_reserve_full : (List.replicate 4 (entry 1 .claimed .spent)).length = 4
    ∧ Booking.overlapsEntry ⟨2, 101, 102⟩ stops (entry 1 .claimed .spent) = false ∧ effLeg stops 0 101 102 = some (0, 1) := by decide

/-- Four seats in each of 64 records hold the pool's 256 entries. -/
def pooled : State := onCoach (fun c => { c with seats := List.replicate 64 { seatWith (List.replicate 4 (entry 1 .claimed .spent)) with number := 8 } ++ [seatWith []] }) running

theorem witness_pool_full : pooled.leads .a ∧ pooled.coach.seat 9 = some (seatWith []) ∧ (∀ z ∈ pooled.coach.seats, ∀ y ∈ z.entries, y.token ≠ 2)
    ∧ 256 ≤ (pooled.coach.seats.map fun z => z.entries.length).sum := by decide +kernel

/-- A seat with a RELEASED entry that the booking overtakes and three that it does not meet, on an occupied place. -/
def crowded (place : PlaceState) : State := onCoach (fun c => { c with sensors := c.sensors.set 0 { state := place } }) (seated atStop
  [{ entry 1 .claimed .spent with boarding := 101, alighting := 102 }, { entry 3 .released .spent with boarding := 101, alighting := 102 }, entry 5 .released .spent])

theorem witness_reserve_at_the_stop : (crowded .occupied).leads .a ∧ (crowded .occupied).coach.journey.phase ≠ .empty
    ∧ (crowded .occupied).coach.seat 9 = some (seatWith ((crowded .occupied).coach.seats.flatMap Seat.entries))
    ∧ (∀ z ∈ (crowded .occupied).coach.seats, ∀ y ∈ z.entries, y.token ≠ 2)
    ∧ (∀ y ∈ (crowded .occupied).coach.seats.flatMap Seat.entries, y.state ≠ .released →
        Booking.overlapsEntry ⟨2, 102, 104⟩ (crowded .occupied).coach.journey.list y = false)
    ∧ Booking.overlapsEntry ⟨2, 102, 104⟩ (crowded .occupied).coach.journey.list (entry 5 .released .spent) = true
    ∧ findCode (crowded .occupied).coach.journey.list 102 = some 1 ∧ findCode (crowded .occupied).coach.journey.list 104 = some 3
    ∧ effLeg (crowded .occupied).coach.journey.list 0 102 104 = some (1, 3)
    ∧ (crowded .occupied).coach.journey.list[1]? = some (stopRec 102 1000 true .current)
    ∧ ((crowded .occupied).coach.sensor ⟨0, 0, 0⟩).state = .occupied ∧ ((crowded .unknown).coach.sensor ⟨0, 0, 0⟩).state = .unknown
    ∧ ((crowded .vacant).coach.sensor ⟨0, 0, 0⟩).state = .vacant := by decide +kernel

/-- A booking whose stop is no stop of the coach's, so that its leg begins at the next one, which the coach has run through. -/
theorem witness_reserve_behind : effLeg [stopRec 102 1000 false .ahead, stopRec 103 2000 true .runThrough, stopRec 104 4000 true .ahead] 0 102 104 = some (1, 2)
    ∧ (stopRec 102 1000 false .ahead).status.past = false ∧ (stopRec 103 2000 true .runThrough).status ≠ .ahead
    ∧ (stopRec 103 2000 true .runThrough).status ≠ .current := by decide

theorem witness_cancel_and_release : led.takes (.line .b) ∧ led.consist.lead ≠ some .b ∧ led.consist.lead = some .a
    ∧ (∀ z ∈ led.coach.seats, ∀ y ∈ z.entries, y.token ≠ 1)
    ∧ (seated running [entry 1 .booked .pending]).coach.entry 1 = some (seatWith [entry 1 .booked .pending], entry 1 .booked .pending)
    ∧ (entry 1 .claimed .spent).state ≠ .booked ∧ running.takes (.line .a) := by decide

/-- What the reservation unit reads of seat 9 with an active list. -/
def ctx (list : List StopRec) : EntryCtx := ⟨list, running.coach.position, 3000, .vacant, 9⟩

theorem witness_list_changes : findCode [stopRec 104 4000 true .ahead] 102 = none ∧ findCode [stopRec 102 1000 true .ahead] 102 ≠ none
    ∧ findCode [stopRec 102 1000 true .ahead] 104 = none
    ∧ effLeg [stopRec 102 1000 true .ahead, stopRec 104 4000 false .ahead] 0 102 104 = none
    ∧ effLeg [stopRec 102 1000 false .ahead, stopRec 103 2000 true .ahead, stopRec 104 4000 true .ahead] 0 102 104 = some (1, 2)
    ∧ codeAt stops (some 1) = some 102 ∧ effLeg stops 0 102 104 = some (1, 3) ∧ (entry 1 .booked .pending).window = .pending
    ∧ stops[1]? = some (stopRec 102 1000 true .ahead) ∧ (entry 1 .booked .spent).window = .spent ∧ (entry 1 .booked .deferred).window = .deferred
    ∧ (dropOverlaps (ctx stops) [] (sortEntries stops [entry 1 .booked .pending, entry 2 .booked .pending])).1 = [entry 1 .booked .pending]
    ∧ entry 2 .booked .pending ∉ [entry 1 .booked .pending]
    ∧ (entry 1 .booked .deferred).anchor = some (102, 1000) ∧ (entry 1 .booked .deferred).unverified = false
    ∧ ({ entry 1 .booked .deferred with unverified := true } : Entry).window = .deferred := by decide

/-- An OPEN window whose anchor a commit removes or keeps, and a PENDING one whose boarding stop is CURRENT or was run through. -/
theorem witness_window_at_list_change : (entry 1 .booked .opened).window ≠ .pending ∧ (entry 1 .booked .opened).anchor = some (102, 1000)
    ∧ findCode [stopRec 103 2000 true .ahead, stopRec 104 4000 true .ahead] 102 = none ∧ findCode stops 102 = some 1
    ∧ ({ entry 1 .booked .opened with anchorLeft := false } : Entry).anchorLeft = false
    ∧ (entry 1 .booked .pending).window = .pending ∧ (stopRec 102 1000 true .current).status ≠ .ahead
    ∧ effLeg [stopRec 101 0 true .departed, stopRec 102 1000 true .current, stopRec 104 4000 true .ahead] 0 102 104 = some (1, 2)
    ∧ (stopRec 102 1000 true .runThrough).status ≠ .ahead := by decide

/-- A seat on a module that answers. -/
def sensed : State := onLine { healthy poll .healthy with activity := .idle } (seated led [])

theorem witness_out_of_use_and_reseed : led.controls .crew ∧ led.controls (.line .a) ∧ led.coach.seat 9 = none ∧ (seated led []).controls .crew
    ∧ (seated led []).coach.seat 9 = some (seatWith []) ∧ (seated led []).coach.eligible (seatWith []).placeId = false
    ∧ sensed.coach.eligible (seatWith []).placeId = true ∧ sensed.coach.sensors.length = 128 := by decide +kernel

theorem witness_reseed_all : sensed.controls .crew ∧ sensed.coach.sensors.length = 128 ∧ (0 : Fin 16).val < (sensed.coach.lines.get 0).moduleCount
    ∧ (sensed.coach.lines.get 0).running = true ∧ ((sensed.coach.lines.get 0).module 0).health = .healthy
    ∧ ((sensed.coach.lines.get 0).module 0).places ≠ some 1 ∧ ¬ (1 : Fin 16).val < (sensed.coach.lines.get 0).moduleCount := by decide +kernel

theorem witness_claim_window : (entry 1 .booked .opened).anchorLeft = true ∧ (entry 1 .booked .opened).anchor = some (102, 1000)
    ∧ (1000 + 3000) * 65536000 - 1 < (1000 + 3000) * 65536000
    ∧ (entry 1 .booked .pending).window ≠ .opened ∧ (entry 1 .booked .deferred).window = .deferred
    ∧ ({ entry 1 .booked .opened with unverified := true } : Entry).unverified = true := by decide +kernel

theorem witness_entry_handed : ({ entry 1 .booked .pending with effBoarding := 1, effAlighting := 3 } : Entry).window = .pending
    ∧ atStop.coach.journey.list[1]? = some (stopRec 102 1000 true .current) ∧ (stopRec 102 1000 true .current).status = .current
    ∧ (setStatus atStop.coach.journey.list 1 .runThrough)[1]? = some (stopRec 102 1000 true .runThrough)
    ∧ (entry 1 .booked .pending).effBoarding = 1 ∧ (entry 1 .booked .pending).effAlighting ≠ 1 ∧ (entry 1 .booked .pending).effBoarding ≠ 3
    ∧ (entry 1 .booked .opened).window ≠ .pending ∧ (entry 1 .booked .opened).anchor.map Prod.fst = some 102
    ∧ (seatWith [entry 1 .booked .opened]).placeId = ⟨0, 0, 0⟩ := by decide

theorem witness_displayed : ((seated running [entry 1 .booked .pending]).coach.contentOf running.env (seatWith [entry 1 .booked .pending])).shown ≠ .noInfo
    ∧ running.coach.legStart running.env = some 0 := by decide

theorem witness_displayed_rows :
    (running.coach.contentOf running.env (seatWith [{ entry 1 .booked .pending with effBoarding := 0 }])).shown = .reserved
    ∧ (running.coach.contentOf running.env (seatWith [entry 1 .booked .pending])).shown = .freeUntil
    ∧ (running.coach.contentOf running.env (seatWith [{ entry 1 .released .spent with effBoarding := 0 }])).shown = .releasedFree
    ∧ (running.coach.contentOf running.env (seatWith [])).shown = .free
    ∧ (running.coach.contentOf running.env { seatWith [] with outOfUse := true }).shown = .outOfUse
    ∧ (let c := (noticed [{ notice 1 .auto .atArrival with kind := .nextStop, stop := some 102 }] running).coach
       (c.contentOf running.env (seatWith [{ entry 1 .booked .pending with effBoarding := 0, effAlighting := 1 }])).shown = .ending) := by decide

/-- An entry that alights at next calling, with the notice for it ARMED, WAITING, or for another stop. -/
theorem witness_ending : running.coach.journey.phase ≠ .empty ∧ (seatWith []).outOfUse = false ∧ running.coach.journey.nextCalling = some 1
    ∧ running.coach.legStart running.env = some 0 ∧ codeAt running.coach.journey.list running.coach.journey.nextCalling = some 102
    ∧ (let c (state : NoticeState) (stop : Nat) := (noticed [{ notice 1 .auto .atArrival with kind := .arriving, stop := some stop, state := state }] running).coach
       let z := seatWith [{ entry 1 .claimed .spent with effBoarding := 0, effAlighting := 1 }]
       ((c .armed 102).contentOf running.env z).shown = .ending ∧ ((c .waiting 102).contentOf running.env z).shown = .reserved
       ∧ ((c .armed 103).contentOf running.env z).shown = .reserved) := by decide

def sensor (state : PlaceState) (debounce : Nat) : Sensor := ⟨state, true, some 256000, some 256000, debounce, 0⟩

theorem witness_occupancy : (sensor .unknown 0).state = .unknown ∧ filterStep {} 256000 1000 = 256000
    ∧ (((256000 / 256 : Nat) : Int) - (filterStep {} 256000 (1000 + 8 * 121) / 256 : Nat)) = -121 ∧ (({} : Params).occThreshold : Int) < 121
    ∧ (((256000 / 256 : Nat) : Int) - (filterStep {} 256000 (1000 - 8 * 121) / 256 : Nat)) = 121 ∧ (({ debIn := 1 } : Params).debIn) ≤ 1
    ∧ 1 < ({} : Params).debIn ∧ -(({} : Params).occThreshold : Int) ≤ -120 ∧ exitThreshold {} ≤ 120 ∧ (0 : Int) < exitThreshold {}
    ∧ (sensor .entering 2).debounce + 1 = ({} : Params).debIn ∧ (sensor .leaving 4).debounce + 1 = ({} : Params).debOut
    ∧ 1 < ({} : Params).debOut := by decide

theorem witness_settling : (⟨.settling, false, none, none, 0, 0⟩ : Sensor).seeded = false
    ∧ (⟨.settling, true, some 256000, some 256000, 0, 6⟩ : Sensor).settle + 1 < 8 ∧ 8 ≤ (⟨.settling, true, some 256000, some 256000, 0, 7⟩ : Sensor).settle + 1
    ∧ (sensor .vacant 0).filtered = some 256000 ∧ (sensor .vacant 0).baseline = some 256000 ∧ ({ debOut := 1 } : Params).debOut ≤ 1
    ∧ (sensor .entering 1).debounce + 1 < ({} : Params).debIn ∧ (sensor .leaving 3).debounce + 1 < ({} : Params).debOut := by decide

/-- A sample that changes the state of a place and one that does not; a reseed and an UNKNOWN that do and do not. -/
theorem witness_place_handed : led.coach.sensors.length = 128 ∧ ((sensor .entering 2).sample {} 0).state = .occupied
    ∧ ((sensor .vacant 0).sample {} 1000).state = .vacant ∧ (sensor .settling 0).state = .settling
    ∧ (led.coach.sensor ⟨0, 0, 0⟩).state = .unknown ∧ PlaceState.settling ≠ (led.coach.sensor ⟨0, 0, 0⟩).state := by decide +kernel

/-! ## Witnesses: seat lines -/

theorem witness_seat_line_control : led.controls .crew ∧ (3 : Nat) < 4 ∧ (led.coach.lines.get 0).activity = .off
    ∧ (onLine (lineWith .idle) led).controls .crew ∧ (lineWith .idle).activity ≠ .off ∧ (lineWith .idle).activity ≠ .setup
    ∧ LineControl.hasValues ⟨0, 3, none, none, none, none, none, some 0⟩ = true ∧ (lineWith .setup).activity = .setup
    ∧ (lineWith .setup).modules.length = 16 := by decide

theorem witness_line_at_rest : (lineWith .off).activity = .off ∧ (lineWith .setup).activity = .setup ∧ (0 : Nat) ≠ 2
    ∧ (⟨0, 1, some 17, some 9600, some 25, some 21, some 9, some 256⟩ : LineControl).moduleCount = some 17
    ∧ (⟨0, 1, some 16, none, some 12, some 10, some 1, some 255⟩ : LineControl).moduleCount = some 16 ∧ 16 < 17 ∧ 24 < 25 ∧ 20 < 21 ∧ 8 < 9 ∧ 255 < 256
    ∧ (⟨0, 2, none, none, none, none, none, none⟩ : LineControl).moduleCount = none ∧ (onLine (lineWith .setup) led).controls .crew
    ∧ ({ idle with levels := ⟨.dominant, .recessive, .recessive, .recessive⟩ } : State).levels.get 0 = .dominant := by decide

theorem witness_leaving_a_run : (onLine (lineWith .idle) led).controls (.line .a) ∧ (lineWith .idle).running = true
    ∧ (onLine (lineWith .stuck) led).coach.sensors.length = 128 ∧ (lineWith .stuck).modules.length = 16 ∧ (lineWith .stuck).activity = .stuck
    ∧ (∀ k, k ≠ 0 → ((onLine (lineWith .stuck) led).coach.lines.get k).activity ≠ .stuck)
    ∧ (⟨.names, 0, 15, [], 0, []⟩ : SeatFrame).block < 16 ∧ (lineWith (.frame ⟨.showContent, 3, 0, [], 0, []⟩)).running = true
    ∧ (⟨.level, 3, 0, [0#8], 0, []⟩ : SeatFrame).cmd = .level
    ∧ ((onCoach (fun c => { c with lines := c.lines.set 3 (lineWith .stuck) }) (onLine (lineWith .stuck) led)).coach.lines.get 3).activity = .stuck := by
  decide +kernel

theorem witness_frame_start : idle.inReset = false ∧ (lineWith .setup).activity ≠ .idle ∧ (lineWith .idle).activity = .idle
    ∧ idle.levels.get 0 = .recessive ∧ (lineWith .idle).moduleCount ≠ 0 ∧ (lineWith .idle).serviceNext = false
    ∧ ({ lineWith .idle with serviceNext := true, stale := 0x8000#16 } : SeatLine).stale ≠ 0
    ∧ ({ lineWith .idle with serviceNext := true, showQueue := [15] } : SeatLine).showQueue = [15]
    ∧ (({ lineWith .idle with modules := { levelPending := true } :: List.replicate 15 {} } : SeatLine).module 0).levelPending = true
    ∧ (∀ m, ((lineWith .idle).module m).levelPending = false) := by decide +kernel

/-- A service slot with two stale blocks: the one that is sent, and the other, which stays. -/
theorem witness_stale_blocks : let l : SeatLine := { lineWith .idle with serviceNext := true, stale := 0x8001#16 };
    l.stale ≠ 0 ∧ l.lowestStale = some 0 ∧ 15 < 16 ∧ 15 ≠ 0 ∧ l.stale.getLsbD 15 = true := by decide

/-- Bit times 13, 14, 15, 24, 25, 34 and 35 of a frame that began at 0, with 14 bit times of break. -/
theorem witness_frame_characters : [13, 14, 15, 24, 25, 34, 35].map (fun n => (lineWith (.frame poll)).state (2500 * n + 2499))
      = [.break', .delimiter, .sync, .sync, .address, .address, .dataIn]
    ∧ (lineWith (.frame ⟨.level, 3, 0, [7#8], 0, []⟩)).state (2500 * 44) = .dataOut ∧ (lineWith (.frame ⟨.level, 3, 0, [7#8], 0, []⟩)).state (2500 * 45) = .check
    ∧ (lineWith (.frame poll)).dominantSince = none ∧ (lineWith .idle).drives poll 14 = false ∧ (lineWith .idle).drives poll 15 = true
    ∧ (lineWith .idle).drives poll 16 = false ∧ 2500 * 16 + 1 ≠ 0 + 16 * 2500
    ∧ ({ lineWith .idle with dominantSince := some 5 } : SeatLine).dominantSince = some 5
    ∧ (∀ t ∈ [100000], t + 19 * 2500 / 2 ≤ 123750) ∧ (∃ t ∈ [100000], 123749 < t + 19 * 2500 / 2) ∧ [100000, 0, 0, 0].length ≤ 4
    ∧ (lineWith (.frame { poll with begun := [0, 0, 0, 0] })).state 100000 = .check := by decide +kernel

theorem witness_responses : idle.inReset = false ∧ (healthy poll .healthy).activity = .frame poll ∧ (healthy poll .healthy).modules.length = 16
    ∧ idle.coach.sensors.length = 128 ∧ ((healthy poll .healthy).module 0).health = .healthy ∧ ((healthy poll .waking).module 0).health = .waking
    ∧ ((healthy poll .faulty).module 0).health = .faulty ∧ (0#8 : Byte) ≠ checkChar (pollChars poll 0#16 0#16)
    ∧ (healthy ident .waking).activity = .frame ident ∧ (0#8 : Byte) ≠ checkChar [addressChar 0 .ident, 0#8, 255#8] := by decide +kernel

/-- An IDENT of a module whose kind was not known, one that names another kind, and one that names what is known. -/
theorem witness_responses_run : let s := onLine (healthy ident .healthy) idle
    let known := { healthy ident .healthy with modules := { health := .healthy, kind := some 7#8, places := some 2 } :: List.replicate 15 {} }
    (∃ t, exec (.pollResponse 0 1000#16 1000#16 (checkChar (pollChars poll 1000#16 1000#16))) (onLine (healthy poll .healthy) idle) = .next t)
    ∧ (∃ t, exec (.identResponse 0 7#8 2#8 (checkChar [addressChar 0 .ident, 7#8, 2#8])) s = .next t)
    ∧ ((healthy ident .healthy).module 0).kind = none ∧ (known.module 0).kind = some 7#8 ∧ (known.module 0).kind ≠ some 8#8
    ∧ (known.module 0).places = some 2 ∧ (known.module 0).places ≠ some 1
    ∧ max 1 (min 2 (255#8).toNat) = 2 ∧ max 1 (min 2 (0#8).toNat) = 1 :=
  ⟨⟨_, rfl⟩, ⟨_, rfl⟩, by decide +kernel⟩

/-- A WAKING module that recovers by an IDENT: served and not in the SHOW queue, served and in it, and not served; four stops make block 0
stale, and not block 1. -/
theorem witness_recovery : let w : SeatLine := healthy ident .waking;
    (w.module ident.module).health = .waking ∧ ident.module.val < w.moduleCount ∧ ident.module ∉ w.showQueue
    ∧ ident.module ∈ ({ w with showQueue := [0] } : SeatLine).showQueue
    ∧ ({ w with moduleCount := 0 } : SeatLine).moduleCount ≤ ident.module.val ∧ (1 : Fin 16) ≠ ident.module
    ∧ 4 * 0 < running.coach.journey.list.length ∧ ¬ 4 * 1 < running.coach.journey.list.length
    ∧ ((healthy ident .healthy).module ident.module).health ≠ .waking ∧ ((healthy ident .healthy).module ident.module).health ≠ .faulty := by
  decide +kernel

/-- Two seats name the module, and the lower number is the one reported. -/
theorem witness_module_reports : let s := onLine (healthy poll .faulty) (onCoach (fun c => { c with seats := [{ seatWith [] with number := 12 }, seatWith []] }) led);
    s.inReset = false ∧ ((s.coach.lines.get 0).module poll.module).health = .faulty
    ∧ (s.coach.moduleReport .moduleRecovered 0 poll.module).seat = some 9 ∧ (led.coach.moduleReport .moduleFault 0 0).seat = none
    ∧ ({ healthy poll .healthy with faultCount := 1 } : SeatLine).faultCount ≤ ((healthy poll .healthy).module 0).failures + 1
    ∧ ((healthy poll .waking).module 0).failures + 1 < ({ healthy poll .waking with faultCount := 2 } : SeatLine).faultCount := by decide +kernel

theorem witness_transfers : idle.inReset = false ∧ (lineWith (.frame poll)).activity = .frame poll ∧ poll.cmd = .poll ∧ ident.cmd = .ident
    ∧ (⟨.level, 0, 0, [0#8], 0, []⟩ : SeatFrame).cmd ≠ .poll ∧ (idle.now - poll.start) / (lineWith .idle).bitRate.period < (lineWith .idle).breakBits + 21
    ∧ (4 : Nat) ≤ 4 ∧ (0 : Nat) ≤ 2 := by decide

theorem witness_failed_transfer : (healthy poll .healthy).modules.length = 16 ∧ idle.coach.sensors.length = 128 ∧ poll.cmd ≠ .names
    ∧ ((healthy poll .healthy).module 0).failures + 1 < (healthy poll .healthy).faultCount
    ∧ ({ healthy poll .healthy with faultCount := 1 } : SeatLine).faultCount ≤ ((healthy poll .healthy).module 0).failures + 1
    ∧ (⟨.names, 0, 15, [], 0, []⟩ : SeatFrame).block < 16 := by decide +kernel

/-- A POLL that fails in the middle and at the end of the round, a SHOW whose module is queued again and one whose module is not; another
module and another line stand by. -/
theorem witness_failed_transfer_rest : let l : SeatLine := { healthy poll .healthy with moduleCount := 2 };
    l.round + 1 < l.moduleCount ∧ ¬ ({ l with round := 1 } : SeatLine).round + 1 < l.moduleCount ∧ (1 : Fin 16) ≠ poll.module ∧ (3 : Fin 4) ≠ 0
    ∧ (⟨.showContent, 3, 0, [], 0, []⟩ : SeatFrame).module ∉ l.showQueue
    ∧ (⟨.showContent, 3, 0, [], 0, []⟩ : SeatFrame).module ∈ ({ l with showQueue := [7, 3] } : SeatLine).showQueue
    ∧ (⟨.showContent, 3, 0, [], 0, []⟩ : SeatFrame).cmd ≠ .names ∧ (l.module 0).health = .healthy := by decide +kernel

theorem witness_stuck : idle.inReset = false ∧ idle.coach.sensors.length = 128 ∧ (lineWith .idle).modules.length = 16 ∧ (lineWith .stuck).activity = .stuck
    ∧ (lineWith .idle).activity = .idle ∧ (lineWith (.frame poll)).activity = .frame poll ∧ idle.levels.get 0 = .recessive
    ∧ ({ idle with levels := ⟨.dominant, .recessive, .recessive, .recessive⟩ } : State).levels.get 0 = .dominant
    ∧ (∀ k, k ≠ 0 → ((onLine (lineWith .stuck) idle).coach.lines.get k).activity ≠ .stuck) := by decide +kernel

theorem witness_level_change : idle.levels.get 0 = .recessive ∧ (lineWith .setup).running = false ∧ (lineWith .idle).activity = .idle
    ∧ (34999 - poll.start) / (lineWith (.frame poll)).bitRate.period < (lineWith (.frame poll)).breakBits
    ∧ (lineWith (.frame poll)).breakBits ≤ (35000 - poll.start) / (lineWith (.frame poll)).bitRate.period ∧ poll.start ≤ 35000
    ∧ ({ lineWith .idle with dominantSince := some 5 } : SeatLine).dominantSince = some 5 ∧ (lineWith .idle).dominantSince = none := by decide

/-! ## Witnesses: axle and position -/

theorem witness_position_fix : led.leads .a ∧ (2 : Nat) < 3 ∧ 4000000 < 4000001
    ∧ (onPosition (fun x => { x with fix := .fixed }) led).coach.position.fix = .fixed ∧ led.coach.position.fix ≠ .fixed
    ∧ (onPosition (fun x => { x with motion := .coasting (coasting 5 0) }) led).coach.position.motion = .coasting (coasting 5 0)
    ∧ led.coach.journey.phase = .empty ∧ led.coach.seats = [] ∧ led.coach.notices.queue = [] ∧ led.consist.lead = some .a := by decide

theorem witness_fix_jump : led.coach.journey.phase = .empty ∧ led.coach.seats = []
    ∧ (let d (m : Nat) : Int := (m : Int) - (led.coach.position.estimate / 65536000 : Nat)
       led.params.fixTol < (d (led.params.fixTol + 1)).natAbs ∧ ¬ led.params.fixTol < (d led.params.fixTol).natAbs)
    ∧ (onPosition (fun x => { x with fix := .degraded }) led).coach.position.fix ≠ .fixed := by decide

theorem witness_station_fix : running.leads .a ∧ running.coach.position.motion = .standstill ∧ running.coach.journey.phase = .inService
    ∧ running.coach.journey.atStop = none ∧ running.coach.journey.nextCalling = some 1
    ∧ running.coach.journey.list[1]? = some (stopRec 102 1000 true .ahead) ∧ (102 : Nat) ≠ 0 ∧ (102 : Nat) ≠ 65535 := by decide

/-- A fix at the estimate and one a metre from it, with the fix state FIXED and not, and one that names no stop or another. -/
theorem witness_fix_handed : (onPosition (fun x => { x with estimate := 65536000 }) led).coach.position.estimate = 1 * 65536000
    ∧ led.coach.position.estimate ≠ 1 * 65536000 ∧ led.coach.position.fix ≠ .fixed
    ∧ (onPosition (fun x => { x with fix := .fixed }) led).coach.position.fix = .fixed ∧ (0 : Nat) ≠ 2
    ∧ led.coach.position.motion = .standstill ∧ (onPosition (fun x => { x with motion := .moving }) led).coach.position.motion = .moving
    ∧ running.coach.journey.list[1]? = some (stopRec 102 1000 true .ahead) ∧ some 102 = some (stopRec 102 1000 true .ahead).code
    ∧ (none : Option Nat) ≠ some (stopRec 102 1000 true .ahead).code := by decide

/-- The axle channels low, and the direction TOWARD_A confirmed. -/
def rolling : State := onAxle (fun x => { x with pair := some (false, false), confirmed := some .towardA }) led

theorem witness_axle_edge : rolling.inReset = false ∧ rolling.coach.axle.pair = some (false, false)
    ∧ (decodeSample (false, false) (toggled .one (false, false)) = .edge .towardA ∨ decodeSample (false, false) (toggled .one (false, false)) = .edge .towardB)
    ∧ (decodeSample (false, false) (toggled .two (false, false)) = .edge .towardA ∨ decodeSample (false, false) (toggled .two (false, false)) = .edge .towardB)
    ∧ rolling.coach.axle.fault = false ∧ rolling.coach.axle.confirmed = some .towardA ∧ rolling.coach.axle.confirmed ≠ some .towardB
    ∧ rolling.coach.axle.runDir ≠ some .towardB ∧ 2 ≤ rolling.params.revEdges
    ∧ (onAxle (fun x => { x with held := List.replicate 14 0#32, runDir := some .towardB }) rolling).coach.axle.held.length + 1 < rolling.params.revEdges
    ∧ min 255 ((onAxle (fun x => { x with illegal := 7 }) rolling).coach.axle.illegal + 1) = 8 ∧ rolling.coach.position.motion = .standstill := by decide

/-- The first edge of a STAGED journey teaches the orientation; a later one finds it set. -/
theorem witness_edge_handed : let s := onJourney (fun j => { j with phase := .staged, orientation := .unset }) rolling;
    s.inReset = false ∧ s.coach.axle.fault = false ∧ s.coach.axle.confirmed = some .towardA ∧ s.coach.journey.phase = .staged
    ∧ s.coach.journey.orientation = .unset ∧ Orientation.aForward ≠ s.coach.journey.orientation
    ∧ rolling.coach.journey.phase = .empty := by decide

/-- The three fillings of the FIFO and the motion states, with the estimate at the end of its range that the edge moves toward. -/
theorem witness_edge_applied : rolling.coach.axle.fifo = [] ∧ (onAxle (fun x => { x with fifo := [5#32] }) rolling).coach.axle.fifo = [5#32]
    ∧ (onAxle (fun x => { x with fifo := [5#32, 6#32] }) rolling).coach.axle.fifo = [5#32, 6#32]
    ∧ rolling.coach.position.motion = .standstill ∧ (onPosition (fun x => { x with motion := .moving }) rolling).coach.position.motion = .moving
    ∧ (onPosition (fun x => { x with motion := .coasting (coasting 5 0) }) rolling).coach.position.motion = .coasting (coasting 5 0)
    ∧ (onJourney (fun j => { j with phase := .staged, orientation := .unset }) rolling).coach.journey.orientation ≠ .aForward
    ∧ (0 : Int) = max 0 (min (4000000000 * 65536) (((rolling.coach.position.estimate : Nat) : Int) + -5)) := by decide

theorem witness_direction_confirmed :
    ({ rolling with params := { revEdges := 1 } } : State).params.revEdges ≤ 1
    ∧ rolling.params.revEdges ≤ (onAxle (fun x => { x with held := List.replicate 15 0#32, runDir := some .towardB }) rolling).coach.axle.held.length + 1
    ∧ (onAxle (fun x => { x with held := List.replicate 15 0#32, runDir := some .towardB }) rolling).coach.axle.runDir = some .towardB
    ∧ (onAxle (fun x => { x with fault := true }) rolling).coach.axle.fault = true
    ∧ (onPosition (fun x => { x with motion := .coasting (coasting 5 0) }) rolling).coach.position.motion = .coasting (coasting 5 0) := by decide

theorem witness_window_close : (onAxle (fun x => { x with windowAt := some 2400000 }) rolling).coach.axle.windowAt = some 2400000
    ∧ rolling.coach.axle.faulted = false ∧ (onAxle (fun x => { x with edges := 4 }) rolling).coach.axle.edges = 4
    ∧ (onAxle (fun x => { x with fifo := [5#32, 5#32] }) rolling).coach.axle.fifo = [5#32, 5#32] ∧ rolling.coach.axle.edges = 0
    ∧ rolling.coach.axle.fifo.length < 2 ∧ (onAxle (fun x => { x with faulted := true }) rolling).coach.axle.faulted = true := by decide

theorem witness_records : led.coach.position.motion = .standstill ∧ (record (some 1700) false).speed = some 1700 ∧ (record none true).still = true
    ∧ (onPosition (fun x => { x with motion := .moving, accepted := 2000 }) led).coach.position.accepted = 2000
    ∧ 1700 ≤ 2000 + led.params.slideLimit ∧ 2000 ≤ 1700 + led.params.slideLimit ∧ 1699 + led.params.slideLimit < 2000
    ∧ ((onPosition (fun x => { x with motion := .coasting (coasting 50000 0) }) led).coach.takeRecord led.env (record none false)).position.motion
        = .coasting ⟨49937, true, 0, 1, false⟩ := by decide +kernel

theorem witness_coast_begins : (record none false).speed = none ∧ (record none false).still = false
    ∧ (onPosition (fun x => { x with motion := .moving, accepted := 50000 }) led).coach.position.motion = .moving
    ∧ 50000 - coastDecrement led.params 50000 ≠ 0 ∧ 1 < led.params.coastLimit ∧ led.env.lead = some .a
    ∧ (record (some 51000) false).speed = some 51000 ∧ 2000 ≤ 50000 ∧ 50000 + led.params.slideLimit < 51000
    ∧ 20 - coastDecrement led.params 20 = 0 ∧ ({ coastLimit := 1 } : Params).coastLimit ≤ 1 := by decide

theorem witness_coasting : 50000 - coastDecrement {} 50000 = 49937 ∧ 1 - coastDecrement {} 1 = 0
    ∧ agrees {} (record (some 49937) false) false 49937 = true ∧ agrees {} (record (some 49737) false) false 49937 = true
    ∧ agrees {} (record (some 49736) false) false 49937 = false ∧ (2 : Nat) ≤ (coasting 50000 2).agree ∧ (coasting 50000 1).agree < 2
    ∧ ({ coastLimit := 1 } : Params).coastLimit ≤ min 65535 ((coasting 5 0).windows + 1) := by decide

/-- The limit is reached at the second window, and has been reached in a coast that carries its mark. -/
theorem witness_coast_limit : ({ coastLimit := 2 } : Params).coastLimit ≤ min 65535 (({ coasting 50000 0 with windows := 1 } : Coast).windows + 1)
    ∧ ¬ ({ coastLimit := 2 } : Params).coastLimit ≤ min 65535 ((coasting 50000 0).windows + 1) ∧ (coasting 50000 0).limit = false
    ∧ ({ coasting 50000 0 with limit := true } : Coast).limit = true ∧ 50000 - coastDecrement {} 50000 ≠ 0
    ∧ agrees {} (record (some 49937) false) true 49937 = false := by decide

/-! ## Witnesses: notices, panels, map, reports -/

theorem witness_notices : led.controls .crew ∧ led.controls (.line .a) ∧ noticeOutside (post 4 2 0) = true ∧ noticeOutside (post 3 1 3601) = false
    ∧ noticeStopMissing (post 3 1 3601) = false ∧ noticeStopMissing { post 1 2 0 with arm := 1 } = true
    ∧ findCode running.coach.journey.list 101 = some 0 ∧ (stopRec 101 0 true .departed).callsAt 0 = true
    ∧ led.coach.notices.posted < 20 ∧ 20 ≤ (noticed (List.replicate 20 (notice 1 .lead .untilCancelled)) led).coach.notices.posted
    ∧ (∀ n ∈ led.coach.notices.queue, n.id ≠ 255)
    ∧ ((noticed [notice 255 .crew .untilCancelled] led).coach.notices.queue.find? fun n => n.id = 255) = some (notice 255 .crew .untilCancelled)
    ∧ (notice 255 .auto .untilCancelled).source = .auto ∧ (notice 255 .lead .untilCancelled).source = .lead := by decide +kernel

theorem witness_notices_with_a_stop : running.controls .crew ∧ running.controls (.line .a) ∧ findCode running.coach.journey.list 102 = some 1
    ∧ (stopRec 102 1000 true .ahead).callsAt running.consist.portion = true ∧ (stopRec 103 2000 false .ahead).callsAt running.consist.portion = false
    ∧ noticeOutside ⟨3, some 31, some 102, 1, 10000, 0, 0⟩ = false ∧ noticeStopMissing ⟨3, some 31, some 102, 1, 10000, 0, 0⟩ = false
    ∧ codeAt running.coach.journey.list running.coach.journey.nextCalling = some 102
    ∧ ((1000 : Int) - 10000) * 65536000 ≤ running.coach.position.estimate ∧ ¬ ((1000 : Int) - 999) * 65536000 ≤ running.coach.position.estimate
    ∧ running.coach.notices.posted < 20 ∧ running.coach.notices.queue.length < 256
    ∧ ([notice 255 .lead .untilCancelled, notice 1 .crew .untilCancelled].filter fun m => m.id = 255) = [notice 255 .lead .untilCancelled] := by decide

/-- An automatic entry that waits. -/
def automatic (kind : NoticeKind) (stop : Nat) : Notice :=
  ⟨5, kind, .auto, 1, some stop, none, .beforeStop 2500, .atArrival, .waiting, none, none, none⟩

theorem witness_automatic : running.coach.journey.nextCalling = some 1 ∧ running.coach.journey.list[1]? = some (stopRec 102 1000 true .ahead)
    ∧ nextCall running.coach.journey.list 0 2 = some 3 ∧ nextCall running.coach.journey.list 0 4 = none ∧ (automatic .nextStop 101).source = .auto
    ∧ (∀ y ∈ (seated led []).coach.seats, y.content = (seated led []).coach.contentOf led.env y)
    ∧ (automatic .nextStop 102).state = .waiting ∧ (((1000 : Int) - 2500) * 65536000 ≤ running.coach.position.estimate)
    ∧ (automatic .arriving 999).stop ≠ codeAt running.coach.journey.list running.coach.journey.nextCalling := by decide

/-- A SHOWN automatic entry that regeneration takes away and one that it keeps, and a queue whose ids stand on both sides of the counter's
end. -/
theorem witness_regeneration : let q : List Notice := [{ automatic .nextStop 101 with id := 255, state := .shown }];
    (noticed q running).coach.notices.shown = some { automatic .nextStop 101 with id := 255, state := .shown }
    ∧ takenAway running.env running.coach .amendment { automatic .nextStop 101 with id := 255, state := .shown } = true
    ∧ takenAway running.env running.coach .amendment (automatic .nextStop 102) = false
    ∧ (onNotices (fun n => { n with nextId := 255 }) (noticed q running)).coach.notices.freshId = 0
    ∧ (noticed q running).coach.notices.queue.length < 256 := by decide +kernel

/-- A posted entry for a stop, with what it waits for. -/
def bound (stop : Nat) (arm : ArmCondition) (ends : EndCondition) (state : NoticeState) : Notice :=
  { notice 3 .lead ends with stop := some stop, arm := arm, state := state }

/-- The ends of R150 and R148, each with an entry that meets it: no such stop, a stop that does not call, a stop left behind. -/
theorem witness_notices_end : NoticeChange.position ≠ .cleared
    ∧ (bound 101 .atOnce .onDeparture .armed).ends = .onDeparture ∧ (bound 101 .atOnce .onDeparture .armed).stop = some 101
    ∧ endCause (.departure 101) (bound 101 .atOnce .onDeparture .armed) ≠ none ∧ (bound 102 .atStop .atArrival .waiting).ends = .atArrival
    ∧ (bound 101 .atStop .untilCancelled .waiting).source ≠ .auto ∧ (automatic .nextStop 101).source = .auto ∧ (notice 1 .lead .onDeparture).stop = none
    ∧ findCode running.coach.journey.list 999 = none ∧ running.coach.journey.list[2]? = some (stopRec 103 2000 false .ahead)
    ∧ (stopRec 103 2000 false .ahead).callsAt running.env.portion = false
    ∧ findCode running.coach.journey.list 101 = some 0 ∧ running.coach.journey.list[0]? = some (stopRec 101 0 true .departed)
    ∧ (stopRec 101 0 true .departed).callsAt running.env.portion = true ∧ (stopRec 102 1000 true .ahead).status ≠ .departed
    ∧ (bound 101 .atStop .untilCancelled .waiting).state = .waiting ∧ (bound 101 (.beforeStop 5) .untilCancelled .armed).state ≠ .waiting
    ∧ (bound 101 .atOnce .untilCancelled .waiting).arm = .atOnce ∧ (bound 101 (.beforeStop 5) .untilCancelled .waiting).arm ≠ .atStop := by decide

theorem witness_selection : led.coach.notices.shown = none
    ∧ (noticed [{ notice 1 .lead .untilCancelled with state := .armed }] led).coach.notices.selected = some { notice 1 .lead .untilCancelled with state := .armed }
    ∧ (noticed [notice 1 .lead .untilCancelled] led).coach.notices.shown = some (notice 1 .lead .untilCancelled)
    ∧ (noticed [notice 1 .lead .untilCancelled] led).coach.notices.selected = none
    ∧ (notice 1 .lead .untilCancelled).priority < ({ notice 2 .lead .untilCancelled with state := .armed, priority := 3 } : Notice).priority
    ∧ (onNotices (fun n => { n with hold := some 5 }) led).coach.notices.hold ≠ none ∧ led.coach.notices.hold = none
    ∧ ({ notice 2 .lead .untilCancelled with state := .armed } : Notice).priority = (notice 1 .lead .untilCancelled).priority := by decide

/-- A change that arms a NEXT_STOP entry, one that arms none, and a page of a SHOWN entry with and without a stop and a text. -/
theorem witness_change_taken : let c := (noticed [automatic .nextStop 102] running).coach
    ((c.notice running.env .position).notices.queue.map Notice.state) = [.shown] ∧ (c.notice running.env .other).notices.queue = c.notices.queue
    ∧ (c.notice running.env .position).notices.pageDue = true ∧ running.coach.notices.pageDue = false
    ∧ (noticed [notice 1 .lead .untilCancelled] led).coach.notices.shown = some (notice 1 .lead .untilCancelled)
    ∧ (notice 1 .lead .untilCancelled).text = some 0 ∧ (bound 102 .atOnce .onDeparture .shown).stop = some 102
    ∧ running.coach.stopOf (some 102) = some (stopRec 102 1000 true .ahead) ∧ atStop.coach.stopOf (some 102) = some (stopRec 102 1000 true .current)
    ∧ running.coach.stopOf none = none ∧ (automatic .nextStop 102).text = none ∧ running.coach.journey.phase ≠ .empty
    ∧ led.coach.journey.phase = .empty ∧ led.coach.notices.shown = none ∧ led.coach.notices.texts[0]? = some []
    ∧ running.coach.position.fix ≠ .degraded ∧ (onPosition (fun x => { x with fix := .degraded }) running).coach.position.fix = .degraded := by
  decide +kernel

theorem witness_texts_and_clock : led.leads .a ∧ 31 < 32 ∧ (List.replicate 65 65#8).length = 65 ∧ (31#8).toNat < 32 ∧ 126 < (127#8).toNat
    ∧ (∀ c ∈ [32#8, 126#8], 32 ≤ c.toNat ∧ c.toNat ≤ 126) ∧ (List.replicate 64 65#8).length ≤ 64 := by decide +kernel

theorem witness_text_shown : (noticed [notice 1 .lead .untilCancelled] led).leads .a
    ∧ (noticed [notice 1 .lead .untilCancelled] led).coach.notices.shown = some (notice 1 .lead .untilCancelled)
    ∧ (notice 1 .lead .untilCancelled).text = some 0 := by decide

theorem witness_notice_timers : (onNotices (fun n => { n with hold := some 5 }) led).coach.notices.hold = some 5
    ∧ ((noticed [notice 1 .crew (.afterSeconds 3600)] led).coach.notices.queue.find? fun m => m.id = 1) = some (notice 1 .crew (.afterSeconds 3600))
    ∧ (notice 1 .crew (.afterSeconds 3600)).firstShown = some 1 ∧ led.coach.notices.clock = none ∧ (onNotices (fun n => { n with pageDue := true }) led).coach.notices.pageDue = true
    ∧ led.coach.notices.sending = none ∧ (onNotices (fun n => { n with clock := some ⟨1439, 59⟩, secondAt := some 5, chimeUntil := some 5, refreshAt := some 5 }) led).coach.notices.clock
        = some ⟨1439, 59⟩
    ∧ (onNotices (fun n => { n with sending := some ⟨[], 5⟩, pageDue := false }) led).coach.notices.pageDue = false := by decide

theorem witness_notice_expires : let s := noticed [notice 1 .lead (.afterSeconds 3600), notice 2 .crew (.afterSeconds 1)] led;
    s.inReset = false ∧ (s.coach.notices.queue.filter fun m => m.id = 1) = [notice 1 .lead (.afterSeconds 3600)]
    ∧ (s.coach.notices.queue.filter fun m => m.id = 2) = [notice 2 .crew (.afterSeconds 1)] ∧ (notice 1 .lead (.afterSeconds 3600)).source = .lead
    ∧ (notice 2 .crew (.afterSeconds 1)).source ≠ .lead ∧ (notice 1 .lead (.afterSeconds 3600)).firstShown = some 1 := by decide

theorem witness_map : led.coach.journey.phase = .empty ∧ running.coach.journey.phase ≠ .empty
    ∧ (running.coach.map.relayout running.env running.coach.journey).base = some 0
    ∧ (running.coach.map.relayout running.env running.coach.journey).layout.take 7 = [.stop 0, .track, .track, .stop 1, .track, .track, .stop 3]
    ∧ (running.coach.map.relayout running.env running.coach.journey).layout[47]? = some .unused
    ∧ (let m := running.coach.map.relayout running.env running.coach.journey
       m.stopDot 1 = some 3 ∧ m.stopDot 2 = none ∧ (1 : Nat) ≠ 0 ∧ (stopRec 101 0 true .departed).position < (stopRec 102 1000 true .ahead).position)
    ∧ running.coach.journey.atStop = none ∧ atStop.coach.journey.atStop = some 1
    ∧ 333 * 3 < 1 * 1000 ∧ 1 * 1000 ≤ 334 * 3
    ∧ ¬ (0 + running.env.params.jumpLimit < 6) ∧ 0 + running.env.params.jumpLimit < 7 := by decide +kernel

/-- A change of the estimate by one unit, a change of motion state, both and neither, with STEP_DISCARD OFF and ON. -/
theorem witness_hand_over : (onPosition (fun x => { x with estimate := 1 }) running).coach.position.estimate ≠ running.coach.position.estimate
    ∧ running.coach.position.motion = .standstill ∧ (onPosition (fun x => { x with motion := .moving }) running).coach.position.motion ≠ .standstill
    ∧ (onPosition (fun x => { x with motion := .coasting (coasting 5 0) }) running).coach.position.motion ≠ .standstill
    ∧ running.env.params.stepDiscard = false ∧ ({ stepDiscard := true } : Params).stepDiscard = true := by decide

/-- A strip whose marker has somewhere to go. -/
def strip (target marker : Nat) : State := onCoach (fun c => { c with map := { c.map with target := target, marker := marker, stepAt := some 5, frameAt := some 5 } }) running

theorem witness_strip : (strip 1 0).inReset = false ∧ (strip 1 0).coach.map.stepAt = some 5 ∧ (strip 1 0).coach.map.frameAt = some 5
    ∧ (strip 0 0).coach.map.target = (strip 0 0).coach.map.marker ∧ (strip 1 0).coach.journey.phase ≠ .empty
    ∧ (strip 1 0).coach.map.marker < (strip 1 0).coach.map.target ∧ (strip 46 47).coach.map.target < (strip 46 47).coach.map.marker := by decide

def report : Report := { kind := .departed, stop := some 101, position := 5 }

def reported (n : Nat) : State := onCoach (fun c => { c with reportsA := { c.reportsA with queue := List.replicate n report } }) led

theorem witness_reports : led.env.lead = some .a ∧ idle.env.lead = none ∧ idle.env.upB = true ∧ led.env.lead = some LinePort.b.other
    ∧ (reported 15).coach.reportsA.queue.length < 16 ∧ (reported 16).coach.reportsA.queue.length = 16
    ∧ ({ idle with portB := {} } : State).env.upB = false := by decide

theorem witness_fetch : led.takes (.line .a) ∧ (led.coach.reports .a).queue = [] ∧ (reported 1).takes (.line .a)
    ∧ ((reported 1).coach.reports .a).queue = [report] := by decide

theorem witness_conditions : led.takes (.line .b) ∧ (led.coach.reports .b).flags.restarted = true := by decide

theorem witness_restart : running.leads .a ∧ running.coach.position.motion = .standstill
    ∧ (onPosition (fun x => { x with motion := .coasting (coasting 5 0) }) running).coach.position.motion ≠ .standstill := by decide

theorem witness_restart_shown : (noticed [notice 1 .lead .untilCancelled] led).coach.notices.shown ≠ none
    ∧ (onNotices (fun n => { n with fields := (noticed [notice 1 .lead .untilCancelled] led).coach.pageFields led.env })
        (noticed [notice 1 .lead .untilCancelled] led)).coach.notices.fields = (noticed [notice 1 .lead .untilCancelled] led).coach.pageFields led.env := by decide

theorem witness_configure : running.leads .a ∧ running.coach.journey.phase ≠ .empty ∧ led.leads .a ∧ led.coach.journey.phase = .empty
    ∧ paramRange 0 = none ∧ paramRange 29 = none ∧ paramRange 1 = some (20, 500) ∧ paramRange 28 = some (0, 1) := by decide

theorem witness_every_step : ∃ t, step { led with pending := [.keepLead (.line .a)] } = .next t := ⟨_, rfl⟩

theorem witness_lead_has_link : LeadHasLink led :=
  ⟨fun p _ => by cases p <;> rfl, rfl⟩

theorem witness_invariants : led.portA.bounded ∧ led.portB.bounded ∧ led.coach.reportsA.queue.length ≤ 16
    ∧ led.coach.reportsA.flags.positionDegraded = (led.coach.position.fix == .degraded)
    ∧ led.coach.reportsA.flags.seatLineFault = (!led.coach.noneStuck) ∧ led.coach.position.estimate ≤ 4000000000 * 65536
    ∧ led.coach.sensors.length = 128 ∧ led.coach.notices.texts.length = 32 ∧ (∀ i, (led.coach.lines.get i).modules.length = 16) := by
  unfold PortState.bounded; decide +kernel

/-! ## Steps with outcomes from the spec -/

/-- The opcode table gives no row any bits. -/
theorem test_no_word_spells_a_command : decodeTableWord 0 0 = none ∧ State.reset.withFetchWord 8 255 = State.reset := by decide +kernel

/-- R176: a port that sends nothing sends 0x55. -/
theorem test_idle_character : (after (.idleCharacter .a) idle).portA.lastSent = some 0x55#8 ∧ (after (.idleCharacter .a) idle).portA.lastEnd = 480240
    ∧ State.reset.portA.lastSent = none := by decide +kernel

/-- R114: a line found stuck shows a dominant run of 30, until the next recessive level. -/
theorem test_stuck_run : let s := after (.lineStuck 0) (onLine (lineWith .idle) idle);
    (s.coach.lines.q0.dominantRun s.now, (after (.seatLineLevelChange 0 .recessive) s).coach.lines.q0.dominantRun (s.now + 5000)) = (30, 0) := by
  decide +kernel

/-- R143, R150: a departure ends an ON_DEPARTURE entry of the lead with cause DEPARTED and id 3. -/
theorem test_departed_is_reported : (((noticed [bound 102 .atOnce .onDeparture .armed] running).coach.notice running.env (.departure 102)).reportsA.queue.map
    fun r => (r.kind, r.stop, r.value)) = [(.noticeEnded, some 102, some (3 * 256 + 3))] := by decide +kernel

/-- 10, R178, R193, R27: kind 0x81, ACCEPTED, coach 0, then generation 6, coach 0, portion 0, lead A, unit 9, lease 3000 ms. -/
theorem test_claim_is_answered : answered (after (.claimLead (.line .a) 6 9) idle) = [0, 0, 6, 0, 0, 0, 1, 9, 0xB8, 0x0B]
    ∧ ((after (.claimLead (.line .a) 6 9) idle).portA.responses.map fun f => (f.hop.toNat, f.kind.toNat)) = [(0, 0x81)] := by decide +kernel

/-- R184: LEAD_LEASE of 100 ms is clamped to 500. -/
theorem test_configure_clamps : (answered (after (.configure (.line .a) 2 100) led)).drop 1 = [0, 2, 0xF4, 0x01, 0, 0]
    ∧ (after (.configure (.line .a) 2 100) led).params.leadLease = 500 := by decide +kernel

/-- 6.9: the address character of a POLL of module 5, and the check character of its response. -/
theorem test_poll_check : addressChar 5 .poll = 0x15#8 ∧ checkChar (pollChars ⟨.poll, 5, 0, [], 0, []⟩ 1000#16 2600#16) = 0xCC#8 := by decide

/-- 7.8: the first sample of a seat that is taken. -/
theorem test_first_sample_of_a_passenger : (sensor .vacant 0).sample {} 700 = ⟨.vacant, true, some 246400, some 255962, 0, 0⟩ := by decide +kernel

/-- 7.8: the sixth sample, which makes the place OCCUPIED. -/
theorem test_sixth_sample_of_a_passenger : (⟨.entering, true, some 218590, some 255792, 2, 0⟩ : Sensor).sample {} 700
    = ⟨.occupied, true, some 213666, some 255792, 0, 0⟩ := by decide +kernel

/-- 3.9: the window that ends at 1,300,000 has one edge, 200,000 microseconds after the last: 36 mm/s by period. -/
theorem test_window_by_period : ((after .windowClose (onAxle (fun x => { x with
    windowAt := some 31200000, edges := 1, fifo := [1060000#32, 1260000#32], stillCount := 1 }) led)).coach.axle.last.speed,
    (after .windowClose (onAxle (fun x => { x with windowAt := some 31200000, edges := 1, fifo := [1060000#32, 1260000#32] }) led)).coach.axle.fifo)
      = (some 36, [1260000#32]) := by decide +kernel

/-- 3.9: six edges in a window: 435 mm/s by count. -/
theorem test_window_by_count : (after .windowClose (onAxle (fun x => { x with windowAt := some 31200000, edges := 6 }) led)).coach.axle.last.speed
    = some 435 := by decide +kernel

/-- 4.7: window 6 ends the coast by agreement with 49,624 mm/s accepted, and the estimate moves by 4,962.4 mm. -/
theorem test_coast_ends_by_agreement :
    let c := (onPosition (fun x => { x with motion := .coasting (coasting 49686 2), fix := .fixed }) led).coach.takeRecord led.env (record (some 49580) false);
    (c.position.motion, c.position.accepted, c.position.estimate, c.reportsA.queue.map Report.note)
      = (Motion.moving, 49624, 49624 * 65536 / 10, [ReportNote.agreed]) := by decide +kernel

/-- R154: the clock passes from 1439:59 to 0:0. -/
theorem test_clock_wraps : (after .clockSecond (onNotices (fun n => { n with clock := some ⟨1439, 59⟩, secondAt := some 5 }) led)).coach.notices.clock
    = some ⟨0, 0⟩ := by decide +kernel

/-- R18, R20: the fix that puts the coach at stop 102 at standstill makes it arrive. -/
theorem test_station_fix_arrives : (after (.positionFix (.line .a) 1000 1 none) running).coach.journey.atStop = some 1
    ∧ ((after (.positionFix (.line .a) 1000 1 none) running).coach.reportsA.queue.map fun r => (r.kind, r.stop)).contains (.arrived, some 102)
      = true := by decide +kernel

/-- R89, R100: a booking from 102 to 104 is shown once its leg is current. -/
theorem test_booking_is_shown : (after (.reserve (.line .a) 9 1 102 104) (seated atStop [])).coach.seats.map (fun x => (x.entries.length, x.content.shown))
    = [(1, .reserved)] := by decide +kernel

/-- R36: the lead that yields leaves LEAD_LOST on the other port. -/
theorem test_yield : (after (.yieldLead (.line .a)) led).consist.lead = none
    ∧ (after (.yieldLead (.line .a)) led).coach.reportsB.flags.leadLost = true
    ∧ (after (.yieldLead (.line .a)) led).coach.reportsA.flags.leadLost = false := by decide +kernel

/-- R110, R111, 6.9: the address of a LEVEL for module 3 has three ones of its own; its check brings the sum with level 160 to 255. -/
theorem test_level_characters : (⟨.level, 3, 0, [160#8], 0, []⟩ : SeatFrame).chars = [0xA5#8, 0xB3#8, 0xA0#8, 0xAB#8] := by decide

/-- R105, R113: with four of a POLL's characters arrived the line is in CHECK, with three in DATA_IN. -/
theorem test_line_receives_the_check : (lineWith (.frame { poll with begun := [100000, 125000, 150000, 175000] })).state 198750 = .check
    ∧ (lineWith (.frame { poll with begun := [100000, 125000, 150000, 175000] })).state 198749 = .dataIn := by decide

/-- R116, R117, R121: a WAKING module that answers its IDENT is HEALTHY, queued once for a SHOW and marked for a LEVEL; four stops are one
stale block. -/
theorem test_recovery_by_ident :
    let l := (after (.identResponse 0 7#8 2#8 (checkChar [addressChar 0 .ident, 7#8, 2#8])) (onLine (healthy ident .waking) running)).coach.lines.q0;
    ((l.module 0).health, (l.module 0).levelPending, (l.module 0).identPending, l.showQueue, l.stale) = (Health.healthy, true, false, [0], 1#16) := by
  decide +kernel

/-- R114: a line held dominant during dominant bits of the part counts from the start of those bits. -/
theorem test_run_joins_own_bits : (after (.seatLineLevelChange 0 .dominant) { onLine (lineWith (.frame poll)) idle with now := 2500 * 15 + 100 }).coach.lines.q0.dominantSince
    = some (2500 * 15) := by decide +kernel

/-- R5, R14, R20: a departure passes over a stop that was passed and calls again, and takes the next one still AHEAD. -/
theorem test_departure_skips_passed : (departFrom 0 1 { atStop.coach.journey with
    list := [stopRec 101 0 true .departed, stopRec 102 1000 true .current, stopRec 103 2000 true .passed, stopRec 104 4000 true .ahead] }).nextCalling
      = some 3 := by decide

/-- R16, R21: a stop behind last departed that is run through leaves last departed where it is. -/
theorem test_last_departed_stays : (runThroughOf 0 0 { running.coach.journey with lastDeparted := some 1 }).lastDeparted = some 1 := by decide

/-- R63: the edge that leaves STANDSTILL inside the platform window makes no arrival. -/
theorem test_edge_makes_no_arrival : (after (.axleEdge .one 0#32) (onPosition (fun x => { x with estimate := 849999 * 65536 }) { rolling with
    coach := { rolling.coach with journey := running.coach.journey } })).coach.journey.atStop = none := by decide +kernel

/-- R170, R171: with STEP_DISCARD ON a change to STANDSTILL at 500 m takes the step that target 1 asks for, and stands there. -/
theorem test_step_discard :
    let s := onPosition (fun x => { x with estimate := 500 * 65536000 })
      (onCoach (fun c => { c with map := c.map.relayout running.env c.journey }) running);
    let m := (s.coach.handPosition { s.env with params := { stepDiscard := true } } { s.coach.position with motion := .moving }).map;
    (m.marker, m.target, m.stepAt) = (1, 1, some 1920000) := by decide +kernel

/-- R153, R156: a text replaced by itself makes a page due while its entry is SHOWN. -/
theorem test_same_text_is_sent_again :
    let s := noticed [notice 1 .lead .untilCancelled] led;
    (after (.setText (.line .a) 0 []) (onNotices (fun n => { n with fields := s.coach.pageFields s.env }) s)).coach.notices.pageDue = true := by decide +kernel

/-- R193, R197: a report with a stop and no seat, token or value. -/
theorem test_report_characters : ({ kind := .departed, stop := some 101, position := 5 } : Report).chars.map BitVec.toNat
    = [2, 1, 0, 101, 0, 255, 255, 255, 255, 255, 5, 0, 0, 0, 255, 255, 255, 255] := by decide

end Sys2Proof.Tests
end

section
/-! Proof of the statement on BEGIN LOAD (R7). -/

namespace Sys2Proof.Machine

/-- The command of BEGIN LOAD is that request, judged for the lead port. -/
theorem exec_beginLoad (p : Port) (n : Nat) (s : State) :
    exec (.beginLoad p n) s = live s (request p 8 (leadOnly p (beginLoadBody n))) := rfl

/-- A count outside 1 to 64 fails the one check of BEGIN LOAD. -/
theorem beginLoadBody_refused {n : Nat} (h : n = 0 ∨ 64 < n) (q : LinePort) (s : State) :
    beginLoadBody n q s = refuse .badField s := by
  rw [beginLoadBody, judge_cons, if_pos (decide_eq_true h)]

/-- A count of 1 to 64 gives the port a staging list of as many unwritten records. -/
theorem beginLoadBody_accepted {n : Nat} (hmin : 1 ≤ n) (hmax : n ≤ 64) (q : LinePort) (s : State) :
    beginLoadBody n q s
      = ({ s with
            consist := { s.consist with stagingOwner := some q }
            coach := { s.coach with journey := { s.coach.journey with staging := List.replicate n none } } },
          { status := .accepted }) := by
  have passes : ¬ (n = 0 ∨ 64 < n) := by omega
  rw [beginLoadBody, judge_cons, if_neg (by simpa using passes), judge_nil]

/-- A lead-only request of a line port that is not the lead is answered NOT_LEAD and changes nothing else (R37). -/
theorem live_leadOnly_other {s : State} {q : LinePort} (htakes : s.takes (.line q)) (hother : s.consist.lead ≠ some q) (kind : Nat)
    (take : LinePort → State → State × Reply) :
    live s (request (.line q) kind (leadOnly (.line q) take)) = .next (State.answer (.line q) kind .notLead [] s) := by
  rw [live_request htakes, State.renew_other hother, leadOnly_other hother, refuse]

/-- Settles O16: the lead check answers every port but the lead, then the count decides between BAD_FIELD and the empty staging list. -/
theorem beginLoadStartsAStagingList : Obligations.BeginLoadStartsAStagingList := by
  intro s q n htakes
  rw [exec_beginLoad]
  refine ⟨fun hother => live_leadOnly_other htakes hother 8 _, fun hlead hcount => ?outside, fun hlead hmin hmax => ?inside⟩
  case outside => rw [live_leadOnly ⟨htakes, hlead⟩, beginLoadBody_refused hcount, refuse]
  case inside => rw [live_leadOnly ⟨htakes, hlead⟩, beginLoadBody_accepted hmin hmax, State.renewed_coach]

end Sys2Proof.Machine
end

section
/-! Proofs of the statements on CLAIM LEAD, KEEP LEAD and YIELD LEAD (R30 to R32, R36). -/

namespace Sys2Proof.Machine

/-! ## Answers that carry the consist record (R27) -/

/-- A request answered with the consist record carries that of the state it leaves. -/
theorem live_withConsist {s : State} {p : Port} (htakes : s.takes p) (kind : Nat) (take : State → State × Reply) :
    live s (request p kind fun s => withConsist (take s))
      = .next (State.answer p kind (take (s.renew p)).2.status (take (s.renew p)).1.consistChars (take (s.renew p)).1) :=
  live_request htakes kind _

/-- Such a request of the lead port, if it is for the lead alone, is taken on the state with the lease started again. -/
theorem live_withConsist_leadOnly {s : State} {q : LinePort} (hleads : s.leads q) (kind : Nat) (take : LinePort → State → State × Reply) :
    live s (request (.line q) kind fun s => withConsist (leadOnly (.line q) take s))
      = .next (State.answer (.line q) kind (take q s.renewed).2.status (take q s.renewed).1.consistChars (take q s.renewed).1) := by
  obtain ⟨htakes, hlead⟩ := hleads
  rw [live_withConsist htakes, State.renew_lead hlead, leadOnly_lead (s := s.renewed) hlead]

/-- Such a request of the other line port is answered NOT_LEAD and changes nothing else (R37). -/
theorem live_withConsist_leadOnly_other {s : State} {q : LinePort} (htakes : s.takes (.line q)) (hother : s.consist.lead ≠ some q)
    (kind : Nat) (take : LinePort → State → State × Reply) :
    live s (request (.line q) kind fun s => withConsist (leadOnly (.line q) take s))
      = .next (State.answer (.line q) kind .notLead s.consistChars s) := by
  rw [live_withConsist htakes, State.renew_other hother, leadOnly_other hother, refuse]

/-! ## CLAIM LEAD: the judgement (R30) -/

/-- The command of CLAIM LEAD is that request, judged for a line port. -/
theorem exec_claimLead (p : Port) (g u : Nat) (s : State) :
    exec (.claimLead p g u) s = live s (request p 1 fun s => withConsist (lineOnly p (claimBody g u) s)) := rfl

/-- The checks of CLAIM LEAD in order: the link, the generation, the lead of the other port. -/
theorem claimBody_eq (g u : Nat) (q : LinePort) (s : State) :
    claimBody g u q s
      = if (s.port q).linkUp = false then refuse .notPermitted s
        else if g < s.consist.generation then refuse .staleGeneration s
        else if g = s.consist.generation ∧ s.consist.lead = some q.other then refuse .leadHeld s
        else (s.grant q g u, { status := .accepted }) := by
  simp only [claimBody, judge_cons, judge_nil, Bool.not_eq_true', decide_eq_true_eq]

/-- CLAIM LEAD is refused once its judgement, on the state with the lease restarted, is a refusal. -/
theorem exec_claimLead_refused {s : State} {p : LinePort} {g u : Nat} {st : Status} (htakes : s.takes (.line p))
    (hrefused : claimBody g u p (s.renew (.line p)) = refuse st (s.renew (.line p))) :
    exec (.claimLead (.line p) g u) s
      = .next (State.answer (.line p) 1 st (s.renew (.line p)).consistChars (s.renew (.line p))) := by
  rw [exec_claimLead, live_withConsist htakes, lineOnly_line, hrefused, refuse]

/-! ## CLAIM LEAD: the grant (R31) -/

/-- The consist record that a grant writes, the staging owner left aside: lead, unit id, generation and a whole lease. -/
def State.grantedConsist (q : LinePort) (g u : Nat) (s : State) : Consist :=
  { s.consist with generation := g, lead := some q, leadUnit := u, lease := s.wholeLease }

theorem Consist.renewal_iff (k : Consist) (q : LinePort) (g u : Nat) :
    k.renewal q g u = true ↔ k.lead = some q ∧ g = k.generation ∧ u = k.leadUnit := by
  simp [Consist.renewal, and_assoc]

/-- A grant writes the whole lease itself, so the restart of the lease before it does not show. -/
theorem State.grant_renew (q : LinePort) (g u : Nat) (s : State) : (s.renew (.line q)).grant q g u = s.grant q g u := by
  by_cases hlead : s.consist.lead = some q
  · rw [State.renew_lead hlead]; rfl
  · rw [State.renew_other hlead]

/-- A renewal writes the consist record and nothing else. -/
theorem State.grant_of_renewal {s : State} {q : LinePort} {g u : Nat} (hrenewal : s.consist.renewal q g u = true) :
    s.grant q g u = { s with consist := s.grantedConsist q g u } := if_pos hrenewal

/-- A grant that is no renewal also flags LEAD_CHANGED on its port, and on the port that held the lead, and discards the staging list. -/
theorem State.grant_of_change {s : State} {q : LinePort} {g u : Nat} (hchange : ¬ s.consist.renewal q g u = true) :
    s.grant q g u = { s with
      consist := { s.grantedConsist q g u with stagingOwner := none }
      coach := { s.coach with
        journey := { s.coach.journey with staging := [] }
        reportsA := if q = .a ∨ s.consist.lead = some .a then s.coach.reportsA.put .leadChanged true else s.coach.reportsA
        reportsB := if q = .b ∨ s.consist.lead = some .b then s.coach.reportsB.put .leadChanged true else s.coach.reportsB } } := by
  rw [State.grant, if_neg hchange]
  cases q with
  | a => by_cases hheld : s.consist.lead = some .b <;> simp [hheld, LinePort.other] <;> rfl
  | b => by_cases hheld : s.consist.lead = some .a <;> simp [hheld, LinePort.other] <;> rfl

/-- A claim that passes every check is granted, and the answer carries the consist record of the grant. -/
theorem exec_claimLead_granted {s : State} {p : LinePort} {g u : Nat} (htakes : s.takes (.line p)) (hup : (s.port p).linkUp = true)
    (hclaim : s.consist.generation < g ∨ (g = s.consist.generation ∧ s.consist.lead ≠ some p.other)) :
    exec (.claimLead (.line p) g u) s
      = .next (State.answer (.line p) 1 .accepted (s.grant p g u).consistChars (s.grant p g u)) := by
  have hcurrent : ¬ g < s.consist.generation := by omega
  have hfree : ¬ (g = s.consist.generation ∧ s.consist.lead = some p.other) := by
    rintro ⟨hsame, hheld⟩
    exact hclaim.elim (fun hnew => by omega) (fun hown => hown.2 hheld)
  have hjudged : claimBody g u p (s.renew (.line p)) = (s.grant p g u, { status := .accepted }) := by
    simp [claimBody_eq, hup, hcurrent, hfree, State.grant_renew]
  rw [exec_claimLead, live_withConsist htakes, lineOnly_line, hjudged]

/-- Settles O11: the refusals are the checks of R30 in order; a claim that passes them is granted, as a renewal or as a lead change. -/
theorem claimIsJudgedAndGranted : Obligations.ClaimIsJudgedAndGranted := by
  refine ⟨fun s p g u htakes => ⟨_, rfl, fun hdown => ?linkDown, fun hup hstale => ?stale, fun hup hsame hheld => ?held⟩,
    fun s p g u htakes hup hclaim => ⟨s.grantedConsist p g u, s.grant p g u, rfl, exec_claimLead_granted htakes hup hclaim,
      fun hlead hsame hunit => ?renewal, fun hchange => ?change⟩⟩
  case linkDown => exact exec_claimLead_refused htakes (by simp [claimBody_eq, hdown])
  case stale => exact exec_claimLead_refused htakes (by simp [claimBody_eq, hup, hstale])
  case held => exact exec_claimLead_refused htakes (by simp [claimBody_eq, hup, hsame, hheld])
  case renewal => exact State.grant_of_renewal ((Consist.renewal_iff _ _ _ _).2 ⟨hlead, hsame, hunit⟩)
  case change => exact State.grant_of_change (mt (Consist.renewal_iff _ _ _ _).1 hchange)

/-! ## KEEP LEAD and YIELD LEAD (R32, R36) -/

/-- The command of KEEP LEAD is that request of the lead port, which does nothing beyond the restart of the lease. -/
theorem exec_keepLead (p : Port) (s : State) :
    exec (.keepLead p) s
      = live s (request p 2 fun s => withConsist (leadOnly p (fun _ s => (s, { status := .accepted })) s)) := rfl

/-- The command of YIELD LEAD is that request of the lead port. -/
theorem exec_yieldLead (p : Port) (s : State) :
    exec (.yieldLead p) s
      = live s (request p 3 fun s => withConsist (leadOnly p (fun q s => (s.yieldLead q, { status := .accepted })) s)) := rfl

/-- YIELD LEAD stops the lease, so the restart of the lease before it does not show. -/
theorem State.yieldLead_renewed (q : LinePort) (s : State) : s.renewed.yieldLead q = s.yieldLead q := rfl

/-- Giving up the lead flags LEAD_LOST on the other port alone and discards the staging list. -/
theorem State.yieldLead_eq (q : LinePort) (s : State) :
    s.yieldLead q = { s with
      consist := { s.consist with lead := none, lease := none, stagingOwner := none }
      coach := { s.coach with
        journey := { s.coach.journey with staging := [] }
        reportsA := if q = .b then s.coach.reportsA.put .leadLost true else s.coach.reportsA
        reportsB := if q = .a then s.coach.reportsB.put .leadLost true else s.coach.reportsB } } := by
  cases q <;> rfl

/-- Settles O12: the lead check splits each request into the effect of the lead port and the NOT_LEAD of the other line port. -/
theorem keepLeadAndYieldLead : Obligations.KeepLeadAndYieldLead := by
  intro s q htakes
  rw [exec_keepLead, exec_yieldLead]
  refine ⟨fun hlead => ⟨s.renewed, rfl, ?keep⟩, fun hother => live_withConsist_leadOnly_other htakes hother 2 _,
    fun hlead => ⟨s.yieldLead q, State.yieldLead_eq q s, ?yield⟩, fun hother => live_withConsist_leadOnly_other htakes hother 3 _⟩
  case keep => rw [live_withConsist_leadOnly ⟨htakes, hlead⟩]
  case yield => rw [live_withConsist_leadOnly ⟨htakes, hlead⟩, State.yieldLead_renewed]

end Sys2Proof.Machine
end

section
/-! Rules that later proofs share: the four like units, and the level conditions and ranges that the coach side keeps (R62, R73, R114, R119, R127,
R153, R187). -/

namespace Sys2Proof

/-! ## The four like units -/

@[simp] theorem Quad.get_set_same {α : Type} (q : Quad α) (i : Fin 4) (x : α) : (q.set i x).get i = x :=
  match i with
  | 0 | 1 | 2 | 3 => rfl

theorem Quad.get_set_other {α : Type} (q : Quad α) {i k : Fin 4} (h : k ≠ i) (x : α) : (q.set i x).get k = q.get k := by
  match i, k with
  | 0, 0 | 1, 1 | 2, 2 | 3, 3 => exact absurd rfl h
  | 0, 1 | 0, 2 | 0, 3 | 1, 0 | 1, 2 | 1, 3 | 2, 0 | 2, 1 | 2, 3 | 3, 0 | 3, 1 | 3, 2 => rfl

@[simp] theorem Quad.get_map {α β : Type} (f : α → β) (q : Quad α) (i : Fin 4) : (q.map f).get i = f (q.get i) :=
  match i with
  | 0 | 1 | 2 | 3 => rfl

/-- One unit replaced, read at any number. -/
theorem Quad.get_set {α : Type} (q : Quad α) (i k : Fin 4) (x : α) : (q.set i x).get k = if k = i then x else q.get k := by
  by_cases h : k = i
  · rw [if_pos h, h, Quad.get_set_same]
  · rw [if_neg h, Quad.get_set_other q h]

end Sys2Proof

namespace Sys2Proof.Machine

/-- No line is STUCK exactly when each of the four is not. -/
theorem Coach.noneStuck_iff (c : Coach) : c.noneStuck = true ↔ ∀ i, (c.lines.get i).activity ≠ .stuck := by
  simp [Coach.noneStuck, Quad.toList, Fin.forall_fin_succ, Quad.get]

/-! ## What the invariants read of the coach side -/

/-- The report queues of the coach side are within 16 (R187). -/
def Coach.QueuesBounded (c : Coach) : Prop := c.reportsA.queue.length ≤ 16 ∧ c.reportsB.queue.length ≤ 16

/-- POSITION_DEGRADED stands on both ports exactly while the fix state is DEGRADED (R73). -/
def Coach.DegradedTrue (c : Coach) : Prop :=
  c.reportsA.flags.positionDegraded = (c.position.fix == .degraded) ∧ c.reportsB.flags.positionDegraded = (c.position.fix == .degraded)

/-- SEAT_LINE_FAULT stands on both ports exactly while a line is STUCK (R114). -/
def Coach.FaultTrue (c : Coach) : Prop :=
  c.reportsA.flags.seatLineFault = (!c.noneStuck) ∧ c.reportsB.flags.seatLineFault = (!c.noneStuck)

/-- The estimate is in its range and the tables of places, modules and texts are whole (R62, R119, R127, R153). -/
def Coach.InRange (c : Coach) : Prop :=
  c.position.estimate ≤ estimateTop ∧ c.sensors.length = 128 ∧ c.notices.texts.length = 32 ∧ ∀ i, (c.lines.get i).modules.length = 16

theorem levelFlagsTrue_iff (s : State) : LevelFlagsTrue s ↔ s.coach.DegradedTrue ∧ s.coach.FaultTrue := by
  simp only [LevelFlagsTrue, Coach.DegradedTrue, Coach.FaultTrue, and_assoc]

/-- A change of the coach side that keeps the invariants and touches neither SEAT_LINE_FAULT nor which lines are STUCK: what every operation
does but those of the stuck watch. -/
structure Coach.Steady (c d : Coach) : Prop where
  queues : c.QueuesBounded → d.QueuesBounded
  degraded : c.DegradedTrue → d.DegradedTrue
  ranges : c.InRange → d.InRange
  faultA : d.reportsA.flags.seatLineFault = c.reportsA.flags.seatLineFault
  faultB : d.reportsB.flags.seatLineFault = c.reportsB.flags.seatLineFault
  stuck : ∀ i, (d.lines.get i).activity = .stuck ↔ (c.lines.get i).activity = .stuck

theorem Coach.Steady.refl (c : Coach) : c.Steady c := ⟨id, id, id, rfl, rfl, fun _ => Iff.rfl⟩

theorem Coach.Steady.trans {c d f : Coach} (h : c.Steady d) (k : d.Steady f) : c.Steady f :=
  ⟨k.queues ∘ h.queues, k.degraded ∘ h.degraded, k.ranges ∘ h.ranges, k.faultA.trans h.faultA, k.faultB.trans h.faultB,
    fun i => (k.stuck i).trans (h.stuck i)⟩

/-- A fold keeps the invariants when each of its steps does. -/
theorem Coach.Steady.foldl {α : Type} {f : Coach → α → Coach} (h : ∀ (c : Coach) a, c.Steady (f c a)) (l : List α) (c : Coach) :
    c.Steady (l.foldl f c) := by
  induction l generalizing c with
  | nil => exact .refl c
  | cons a l ih => exact (h c a).trans (ih _)

theorem Coach.Steady.ite {p : Prop} [Decidable p] {c d f : Coach} (h : p → c.Steady d) (k : ¬ p → c.Steady f) :
    c.Steady (if p then d else f) := by
  split
  · exact h ‹_›
  · exact k ‹_›

/-! ## Changes that the invariants do not see -/

/-- A port's reports keep their bound and the two level conditions. -/
structure PortReports.Alike (r q : PortReports) : Prop where
  queue : r.queue.length ≤ 16 → q.queue.length ≤ 16
  degraded : q.flags.positionDegraded = r.flags.positionDegraded
  fault : q.flags.seatLineFault = r.flags.seatLineFault

theorem PortReports.Alike.refl (r : PortReports) : r.Alike r := ⟨id, rfl, rfl⟩

/-- A report raised keeps the queue at 16 at most and touches no level condition (R187). -/
theorem PortReports.push_alike (r : PortReports) (x : Report) : r.Alike (r.push x) := by
  unfold PortReports.push
  split
  · exact ⟨fun _ => by simp; omega, rfl, rfl⟩
  · exact ⟨fun _ => by simp; omega, rfl, rfl⟩

/-- A seat line is STUCK as before and its table of modules has its size. -/
structure SeatLine.Alike (l m : SeatLine) : Prop where
  stuck : m.activity = .stuck ↔ l.activity = .stuck
  modules : m.modules.length = l.modules.length

theorem SeatLine.Alike.refl (l : SeatLine) : l.Alike l := ⟨Iff.rfl, rfl⟩

/-- A change of the coach side in nothing that the invariants read, but for reports raised and an estimate within its range. -/
structure Coach.Quiet (c d : Coach) : Prop where
  reportsA : c.reportsA.Alike d.reportsA := by exact PortReports.Alike.refl _
  reportsB : c.reportsB.Alike d.reportsB := by exact PortReports.Alike.refl _
  fix : d.position.fix = c.position.fix := by rfl
  estimate : d.position.estimate = c.position.estimate ∨ d.position.estimate ≤ estimateTop := by exact .inl rfl
  sensors : d.sensors.length = c.sensors.length := by rfl
  texts : d.notices.texts.length = c.notices.texts.length := by rfl
  lines : ∀ i, (c.lines.get i).Alike (d.lines.get i) := by exact fun _ => SeatLine.Alike.refl _

/-- What the invariants do not see, they keep. -/
theorem Coach.Quiet.steady {c d : Coach} (h : c.Quiet d) : c.Steady d where
  queues hq := ⟨h.reportsA.queue hq.1, h.reportsB.queue hq.2⟩
  degraded hf := ⟨by rw [h.reportsA.degraded, h.fix, hf.1], by rw [h.reportsB.degraded, h.fix, hf.2]⟩
  ranges := by
    rintro ⟨hest, hsens, htexts, hlines⟩
    exact ⟨h.estimate.elim (fun he => he ▸ hest) id, h.sensors.trans hsens, h.texts.trans htexts,
      fun i => (h.lines i).modules.trans (hlines i)⟩
  faultA := h.reportsA.fault
  faultB := h.reportsB.fault
  stuck i := (h.lines i).stuck

/-- A change of one line into one that is STUCK as before, with its table of modules whole. -/
theorem Coach.onLine_quiet (i : Fin 4) (f : SeatLine → SeatLine) (c : Coach) (h : (c.lines.get i).Alike (f (c.lines.get i))) :
    c.Quiet (c.onLine i f) where
  lines k := by
    by_cases hk : k = i
    · subst hk
      simpa [Coach.onLine] using h
    · simpa [Coach.onLine, Quad.get_set_other _ hk] using SeatLine.Alike.refl _

/-! ## Reports and seat-line queues -/

theorem Coach.raise_steady (e : Env) (r : Report) (c : Coach) : c.Steady (c.raise e r) := by
  refine Coach.Quiet.steady { reportsA := ?_, reportsB := ?_ }
  · simp only [Coach.raise]; split
    · exact PortReports.push_alike _ _
    · exact .refl _
  · simp only [Coach.raise]; split
    · exact PortReports.push_alike _ _
    · exact .refl _

theorem Coach.raiseAll_steady (e : Env) (rs : List Report) (c : Coach) : c.Steady (c.raiseAll e rs) :=
  Coach.Steady.foldl (fun c r => c.raise_steady e r) rs c

theorem SeatLine.queueShow_alike (l : SeatLine) (m : Fin 16) : l.Alike (l.queueShow m) := by
  unfold SeatLine.queueShow
  split <;> exact ⟨Iff.rfl, rfl⟩

theorem Coach.contentChange_steady (c : Coach) (i : Fin 4) (m : Fin 16) : c.Steady (c.contentChange i m) :=
  (c.onLine_quiet i (fun l => l.queueShow m) (SeatLine.queueShow_alike _ m)).steady

theorem Coach.markStale_steady (c : Coach) : c.Steady c.markStale :=
  Coach.Quiet.steady { lines := fun i => by simp only [Coach.markStale, Quad.get_map]; exact ⟨Iff.rfl, rfl⟩ }

/-! ## Reservation unit -/

theorem Coach.forSeats_steady (e : Env) (f : Seat → EntryCtx → List Entry → List Entry × List Report) (c : Coach) :
    c.Steady (c.forSeats e f) :=
  (show c.Steady { c with seats := _ } from Coach.Quiet.steady {}).trans (Coach.raiseAll_steady e _ _)

theorem Coach.retireSeats_steady (c : Coach) : c.Steady c.retireSeats := Coach.Quiet.steady {}

theorem Coach.refresh_steady (e : Env) (c : Coach) : c.Steady (c.refresh e) :=
  (show c.Steady { c with seats := _ } from Coach.Quiet.steady {}).trans (Coach.Steady.foldl (fun c (s : Seat) => c.contentChange_steady s.line s.module) _ _)

theorem Coach.reserveCommit_steady (e : Env) (old : List StopRec) (c : Coach) : c.Steady (c.reserveCommit e old) :=
  (((c.forSeats_steady e _).trans (Coach.forSeats_steady e _ _)).trans (Coach.retireSeats_steady _)).trans (Coach.refresh_steady e _)

theorem Coach.reserveAmend_steady (e : Env) (c : Coach) : c.Steady (c.reserveAmend e) :=
  ((c.forSeats_steady e _).trans (Coach.retireSeats_steady _)).trans (Coach.refresh_steady e _)

theorem Coach.reserveArrival_steady (e : Env) (i : Nat) (c : Coach) : c.Steady (c.reserveArrival e i) :=
  (c.forSeats_steady e _).trans (Coach.refresh_steady e _)

theorem Coach.reserveDeparture_steady (e : Env) (code : Nat) (c : Coach) : c.Steady (c.reserveDeparture e code) :=
  ((c.forSeats_steady e _).trans (Coach.retireSeats_steady _)).trans (Coach.refresh_steady e _)

theorem Coach.reserveRunThrough_steady (e : Env) (i code : Nat) (c : Coach) : c.Steady (c.reserveRunThrough e i code) :=
  ((c.forSeats_steady e _).trans (Coach.retireSeats_steady _)).trans (Coach.refresh_steady e _)

theorem Coach.reservePosition_steady (e : Env) (c : Coach) : c.Steady (c.reservePosition e) :=
  (c.forSeats_steady e _).trans (Coach.refresh_steady e _)

theorem Coach.reserveFixed_steady (e : Env) (c : Coach) : c.Steady (c.reserveFixed e) :=
  (c.forSeats_steady e _).trans (Coach.refresh_steady e _)

theorem Coach.reservePlace_steady (e : Env) (p : PlaceId) (c : Coach) : c.Steady (c.reservePlace e p) :=
  (c.forSeats_steady e _).trans (Coach.refresh_steady e _)

theorem Coach.reserveEmpty_steady (e : Env) (c : Coach) : c.Steady (c.reserveEmpty e) :=
  (show c.Steady { c with seats := _ } from Coach.Quiet.steady {}).trans (Coach.refresh_steady e _)

theorem Coach.onEntries_steady (e : Env) (n : Nat) (f : List Entry → List Entry) (c : Coach) : c.Steady (c.onEntries e n f) :=
  (show c.Steady { c with seats := _ } from Coach.Quiet.steady {}).trans (Coach.refresh_steady e _)

theorem Coach.book_steady (e : Env) (s : Seat) (x : Entry) (c : Coach) : c.Steady (c.book e s x) :=
  (c.raiseAll_steady e _).trans (Coach.onEntries_steady e _ _ _)

theorem Coach.setUse_steady (n : Nat) (on : Bool) (e : Env) (c : Coach) : c.Steady (c.setUse n on e) :=
  (show c.Steady { c with seats := _ } from Coach.Quiet.steady {}).trans (Coach.refresh_steady e _)

theorem Coach.mapSeats_steady (ds : List SeatDesc) (c : Coach) : c.Steady (c.mapSeats ds) :=
  (show c.Steady { c with seats := _ } from Coach.Quiet.steady {}).trans (Coach.Steady.foldl (fun c (s : Seat) => c.contentChange_steady s.line s.module) _ _)

/-! ## Notice unit -/

theorem Coach.endNotices_steady (e : Env) (f : Notice → Option Nat) (c : Coach) : c.Steady (c.endNotices e f) :=
  (show c.Steady { c with notices := c.notices.drop _ } from Coach.Quiet.steady {}).trans (Coach.raiseAll_steady e _ _)

theorem Coach.createKind_steady (e : Env) (c : Coach) (k : NoticeKind) : c.Steady (c.createKind e k) := by
  unfold Coach.createKind
  split
  · exact .ite (fun _ => Coach.Quiet.steady {}) fun _ => .refl c
  · exact .refl c

theorem Coach.regenerate_steady (e : Env) (g : NoticeChange) (c : Coach) : c.Steady (c.regenerate e g) :=
  (show c.Steady { c with notices := c.notices.drop _ } from Coach.Quiet.steady {}).trans
    (Coach.Steady.foldl (fun c k => c.createKind_steady e k) _ _)

theorem Coach.selectNotice_steady (e : Env) (c : Coach) : c.Steady (c.selectNotice e) := by
  unfold Coach.selectNotice
  split
  · exact Coach.Quiet.steady {}
  · exact .refl c

theorem Coach.noticeQueueStep_steady (e : Env) (g : NoticeChange) (c : Coach) : c.Steady (c.noticeQueueStep e g) := by
  have tested : c.Steady ((c.endNotices e (endCause g)).endNotices e (listCause e (c.endNotices e (endCause g)) g)) :=
    (c.endNotices_steady e _).trans (Coach.endNotices_steady e _ _)
  unfold Coach.noticeQueueStep
  split
  · exact Coach.Quiet.steady {}
  · exact .ite (fun _ => tested.trans (Coach.regenerate_steady e _ _)) fun _ => tested

theorem Coach.notice_steady (e : Env) (g : NoticeChange) (c : Coach) : c.Steady (c.notice e g) := by
  have armed : c.Steady (if g.arms then (c.noticeQueueStep e g).armNotices e g else c.noticeQueueStep e g) :=
    .ite (fun _ => (c.noticeQueueStep_steady e g).trans (Coach.Quiet.steady {})) fun _ => c.noticeQueueStep_steady e g
  have paged : ∀ d : Coach, ∀ b, d.Steady ((d.selectNotice e).evalDoors.evalPage e b) := fun d b =>
    (d.selectNotice_steady e).trans (Coach.Quiet.steady {})
  exact .ite (fun _ => armed.trans (paged _ _)) fun _ => (armed.trans (paged _ _)).trans (Coach.refresh_steady e _)

theorem Coach.postNotice_steady (n : Notice) (e : Env) (c : Coach) : c.Steady (c.postNotice n e) :=
  (show c.Steady { c with notices := c.notices.create n } from Coach.Quiet.steady {}).trans (Coach.notice_steady e _ _)

theorem Coach.setText_steady (n : Nat) (t : List Byte) (e : Env) (c : Coach) : c.Steady (c.setText n t e) :=
  (show c.Steady { c with notices := { c.notices with texts := c.notices.texts.set n t } } from
    Coach.Quiet.steady { texts := List.length_set }).trans (Coach.notice_steady e _ _)

theorem Coach.setClock_steady (m n : Nat) (e : Env) (c : Coach) : c.Steady (c.setClock m n e) :=
  (show c.Steady { c with notices := { c.notices with clock := _, secondAt := _ } } from Coach.Quiet.steady {}).trans (Coach.notice_steady e _ _)

/-! ## Map and journey units -/

theorem Coach.mapWindow_steady (e : Env) (c : Coach) : c.Steady (c.mapWindow e) := Coach.Quiet.steady {}
theorem Coach.mapTarget_steady (e : Env) (c : Coach) : c.Steady (c.mapTarget e) := Coach.Quiet.steady {}
theorem Coach.mapMotion_steady (e : Env) (c : Coach) : c.Steady (c.mapMotion e) := Coach.Quiet.steady {}

theorem Coach.mapStepTimer_steady (e : Env) (c : Coach) : c.Steady (c.mapStepTimer e) :=
  .ite (fun _ => Coach.Quiet.steady {}) fun _ => Coach.Quiet.steady {}

theorem Coach.onJourney_steady (f : Journey → Journey) (c : Coach) : c.Steady (c.onJourney f) := Coach.Quiet.steady {}

theorem Coach.turn_steady (o : Orientation) (e : Env) (c : Coach) : c.Steady (c.turn o e) :=
  (c.onJourney_steady _).trans (Coach.notice_steady e _ _)

theorem Coach.arrive_steady (e : Env) (i : Nat) (r : StopRec) (d : Nat) (c : Coach) : c.Steady (c.arrive e i r d) :=
  ((((c.onJourney_steady _).trans (Coach.raise_steady e _ _)).trans (Coach.reserveArrival_steady e _ _)).trans
    (Coach.notice_steady e _ _)).trans (Coach.mapTarget_steady e _)

theorem Coach.depart_steady (e : Env) (i : Nat) (r : StopRec) (c : Coach) : c.Steady (c.depart e i r) :=
  ((((c.onJourney_steady _).trans (Coach.raise_steady e _ _)).trans (Coach.reserveDeparture_steady e _ _)).trans
    (Coach.notice_steady e _ _)).trans (Coach.mapWindow_steady e _)

theorem Coach.runThrough_steady (e : Env) (i : Nat) (r : StopRec) (c : Coach) : c.Steady (c.runThrough e i r) :=
  ((((c.onJourney_steady _).trans (Coach.raise_steady e _ _)).trans (Coach.reserveRunThrough_steady e _ _ _)).trans
    (Coach.notice_steady e _ _)).trans (Coach.mapWindow_steady e _)

theorem Coach.evalDeparture_steady (e : Env) (c : Coach) : c.Steady (c.evalDeparture e) := by
  unfold Coach.evalDeparture
  split
  · split
    · exact .ite (fun _ => c.depart_steady e _ _) fun _ => .refl c
    · exact .refl c
  · exact .refl c

theorem Coach.evalRunThrough_steady (e : Env) (n : Nat) (c : Coach) : c.Steady (c.evalRunThrough e n) := by
  induction n generalizing c with
  | zero => exact .refl c
  | succ n ih =>
    unfold Coach.evalRunThrough
    split
    · split
      · exact .ite (fun _ => (c.runThrough_steady e _ _).trans (ih _)) fun _ => .refl c
      · exact .refl c
    · exact .refl c

theorem Coach.evalArrival_steady (e : Env) (c : Coach) : c.Steady (c.evalArrival e) := by
  unfold Coach.evalArrival
  split
  · split
    · exact .ite (fun _ => c.arrive_steady e _ _ _) fun _ => .refl c
    · exact .refl c
  · exact .refl c

theorem Coach.whileRunning_steady {f : Coach → Coach} (h : ∀ c : Coach, c.Steady (f c)) (c : Coach) : c.Steady (c.whileRunning f) :=
  .ite (fun _ => h c) fun _ => .refl c

theorem Coach.evaluate_steady (e : Env) (c : Coach) : c.Steady (c.evaluate e) :=
  (((Coach.whileRunning_steady (Coach.evalDeparture_steady e) c).trans (Coach.whileRunning_steady (Coach.evalRunThrough_steady e _) _)).trans
    (Coach.whileRunning_steady (fun d => d.onJourney_steady _) _)).trans (Coach.whileRunning_steady (Coach.evalArrival_steady e) _)

theorem Coach.committed_steady (e : Env) (old : List StopRec) (b : Bool) (c : Coach) : c.Steady (c.committed e old b) :=
  (((c.markStale_steady.trans (Coach.reserveCommit_steady e _ _)).trans (Coach.notice_steady e _ _)).trans (Coach.mapWindow_steady e _)).trans
    (Coach.evaluate_steady e _)

theorem Coach.amended_steady (e : Env) (c : Coach) : c.Steady (c.amended e) :=
  (((c.reserveAmend_steady e).trans (Coach.notice_steady e _ _)).trans (Coach.mapWindow_steady e _)).trans (Coach.evaluate_steady e _)

theorem Coach.amend_steady (i : Nat) (q : AmendReq) (b : Bool) (e : Env) (c : Coach) : c.Steady (c.amend i q b e) :=
  (Coach.Steady.ite (fun _ => c.onJourney_steady _) fun _ => (c.onJourney_steady _).trans (Coach.onJourney_steady _ _)).trans
    (Coach.amended_steady e _)

theorem Coach.handEmpty_steady (e : Env) (c : Coach) : c.Steady (c.handEmpty e) :=
  ((c.reserveEmpty_steady e).trans (Coach.notice_steady e _ _)).trans (Coach.mapWindow_steady e _)

/-! ## Position and axle units -/

theorem moveEstimate_le (x : Nat) (d : Int) : moveEstimate x d ≤ estimateTop := by
  unfold moveEstimate
  omega

theorem addEdge_fix (b : Bool) (q : Nat) (p : Position) : (addEdge b q p).fix = p.fix := by
  unfold addEdge
  split <;> rfl

theorem addEdge_estimate (b : Bool) (q : Nat) (p : Position) :
    (addEdge b q p).estimate = p.estimate ∨ (addEdge b q p).estimate ≤ estimateTop := by
  unfold addEdge
  split
  · exact .inl rfl
  · exact .inr (moveEstimate_le _ _)

/-- A change of the position unit that keeps its fix state and moves its estimate within the range at most. -/
theorem Coach.onPosition_steady {f : Position → Position} {c : Coach} (hfix : (f c.position).fix = c.position.fix)
    (hest : (f c.position).estimate = c.position.estimate ∨ (f c.position).estimate ≤ estimateTop) : c.Steady (c.onPosition f) :=
  Coach.Quiet.steady { fix := hfix, estimate := hest }

theorem Coach.handPosition_steady (e : Env) (b : Position) (c : Coach) : c.Steady (c.handPosition e b) := by
  unfold Coach.handPosition
  have moved : ∀ p : Bool, c.Steady (if p then (c.reservePosition e).notice e .position else c) := fun p =>
    .ite (fun _ => (c.reservePosition_steady e).trans (Coach.notice_steady e _ _)) fun _ => .refl c
  have targeted : ∀ (p : Bool) (d : Coach), d.Steady (if p then d.mapTarget e else d) := fun p d =>
    .ite (fun _ => d.mapTarget_steady e) fun _ => .refl d
  have rendered : ∀ (p : Bool) (d : Coach), d.Steady (if p then d.mapMotion e else d) := fun p d =>
    .ite (fun _ => d.mapMotion_steady e) fun _ => .refl d
  have handed := fun p q r => ((moved p).trans (targeted q _)).trans (rendered r _)
  exact .ite (fun _ => (handed _ _ _).trans (Coach.evaluate_steady e _)) fun _ => handed _ _ _

/-- POSITION_DEGRADED follows the fix state it is set with (R73). -/
theorem Coach.fix_flag_steady (f : FixState) (c : Coach) :
    c.Steady ((c.onPosition fun p => { p with fix := f }).flagBoth .positionDegraded (f == .degraded)) :=
  ⟨id, fun _ => ⟨rfl, rfl⟩, id, rfl, rfl, fun _ => Iff.rfl⟩

theorem Coach.setFix_steady (e : Env) (f : FixState) (c : Coach) : c.Steady (c.setFix e f) := by
  have handed : ∀ d : Coach, d.Steady ((if f = .fixed then d.reserveFixed e else d).notice e .other) := fun d =>
    (Coach.Steady.ite (fun _ => d.reserveFixed_steady e) fun _ => .refl d).trans (Coach.notice_steady e _ _)
  exact .ite (fun _ => .refl c) fun _ => (c.fix_flag_steady f).trans (handed _)

theorem Coach.learnOrientation_steady (e : Env) (d : EdgeDir) (c : Coach) : c.Steady (c.learnOrientation e d) :=
  .ite (fun _ => (c.onJourney_steady _).trans (Coach.notice_steady e _ _)) fun _ => .refl c

theorem Coach.applyEdge_steady (e : Env) (d : EdgeDir) (c : Coach) (t : Stamp) : c.Steady (c.applyEdge e d t) := by
  have added : ∀ (b : Bool) (q : Nat) (y : Coach) (x : Axle), y.Steady { y with position := addEdge b q y.position, axle := x } :=
    fun b q y x => Coach.Quiet.steady { fix := addEdge_fix b q _, estimate := addEdge_estimate b q _ }
  exact ((c.learnOrientation_steady e d).trans (added _ _ _ _)).trans (Coach.handPosition_steady e _ _)

theorem Coach.axle_steady (x : Axle) (c : Coach) : c.Steady { c with axle := x } := Coach.Quiet.steady {}

theorem Coach.axleEdge_steady (e : Env) (ch : AxleChannel) (t : Stamp) (c : Coach) : c.Steady (c.axleEdge e ch t) := by
  unfold Coach.axleEdge
  split
  · exact .refl c
  · dsimp only
    split
    · exact .ite (fun _ => c.axle_steady _) fun _ => (c.axle_steady _).trans (Coach.Steady.foldl (fun c t => c.applyEdge_steady e _ t) _ _)
    · exact c.axle_steady _

theorem Coach.zeroExit_steady (e : Env) (c : Coach) : c.Steady (c.zeroExit e) :=
  ((show c.Steady c.toStandstill from Coach.Quiet.steady {}).trans (Coach.setFix_steady e _ _)).trans (Coach.raise_steady e _ _)

theorem Coach.agreementExit_steady (e : Env) (v : Nat) (c : Coach) : c.Steady (c.agreementExit e v) :=
  (Coach.onPosition_steady rfl (.inl rfl)).trans (Coach.raise_steady e _ _)

theorem Coach.coastLimit_steady (e : Env) (k : Coast) (c : Coach) : c.Steady (c.coastLimit e k) :=
  .ite (fun _ => (Coach.onPosition_steady rfl (.inl rfl)).trans (Coach.setFix_steady e _ _)) fun _ => Coach.onPosition_steady rfl (.inl rfl)

theorem Coach.coastClose_steady (e : Env) (r : WindowRecord) (b : Bool) (k : Coast) (c : Coach) : c.Steady (c.coastClose e r b k) := by
  refine .trans ?_ (.ite (fun _ => Coach.zeroExit_steady e _) fun _ =>
    .ite (fun _ => Coach.agreementExit_steady e _ _) fun _ => Coach.coastLimit_steady e _ _)
  exact Coach.onPosition_steady rfl (.inr (moveEstimate_le _ _))

theorem Coach.coastBegin_steady (e : Env) (r : WindowRecord) (c : Coach) : c.Steady (c.coastBegin e r) := by
  refine .trans ?_ ((Coach.raise_steady e _ _).trans (Coach.coastClose_steady e _ _ _ _))
  exact Coach.onPosition_steady rfl (.inr (moveEstimate_le _ _))

theorem Coach.takeRecord_steady (e : Env) (r : WindowRecord) (c : Coach) : c.Steady (c.takeRecord e r) := by
  unfold Coach.takeRecord
  split
  · exact Coach.onPosition_steady rfl (.inl rfl)
  · refine .ite (fun _ => Coach.Quiet.steady {}) fun _ => ?_
    split
    · exact c.coastBegin_steady e r
    · exact .ite (fun _ => c.coastBegin_steady e r) fun _ => Coach.onPosition_steady rfl (.inl rfl)
  · exact c.coastClose_steady e r _ _

theorem Coach.windowClose_steady (e : Env) (c : Coach) : c.Steady (c.windowClose e) :=
  (((c.axle_steady _).trans (Coach.takeRecord_steady e _ _)).trans (Coach.onPosition_steady rfl (.inl rfl))).trans
    (Coach.handPosition_steady e _ _)

theorem Coach.stationArrival_steady (e : Env) (p : Nat) (k : Option Nat) (c : Coach) : c.Steady (c.stationArrival e p k) := by
  unfold Coach.stationArrival
  split
  · split
    · exact .ite (fun _ => c.arrive_steady e _ _ _) fun _ => .refl c
    · exact .refl c
  · exact .refl c

/-- A fix at a position that the route has keeps the estimate in its range (R62, R74). -/
theorem Coach.applyFix_steady (e : Env) {p : Nat} (hp : p ≤ Config.routeTop) (k m : Option Nat) (c : Coach) : c.Steady (c.applyFix e p k m) := by
  have top : p * Config.perMetre ≤ estimateTop := by
    simp only [Config.routeTop, Config.perMetre, estimateTop, Config.perMillimetre] at hp ⊢
    omega
  have placed : ∀ d : Coach, d.Steady ((d.onPosition (placeEstimate p)).setFix e .fixed) := fun d =>
    (Coach.onPosition_steady rfl (.inr top)).trans (Coach.setFix_steady e _ _)
  have moved : ∀ d : Coach, d.Steady (((d.reservePosition e).notice e .position).mapTarget e) := fun d =>
    ((d.reservePosition_steady e).trans (Coach.notice_steady e _ _)).trans (Coach.mapTarget_steady e _)
  unfold Coach.applyFix
  have handed : ∀ (b : Bool) (d : Coach), d.Steady (if b then ((d.reservePosition e).notice e .position).mapTarget e else d) := fun b d =>
    .ite (fun _ => moved d) fun _ => .refl d
  have evaluated : ∀ (b : Bool) (d : Coach), d.Steady (if b then d.evaluate e else d) := fun b d =>
    .ite (fun _ => d.evaluate_steady e) fun _ => .refl d
  have raised : ∀ (n : Nat) (r : Report), c.Steady (if e.params.fixTol < n then c.raise e r else c) := fun n r =>
    .ite (fun _ => c.raise_steady e r) fun _ => .refl c
  exact ((((raised _ _).trans (placed _)).trans (handed _ _)).trans (Coach.stationArrival_steady e p m _)).trans (evaluated _ _)

/-! ## Occupancy unit -/

theorem Coach.changeSensor_steady (e : Env) (p : PlaceId) (f : Sensor → Sensor) (c : Coach) : c.Steady (c.changeSensor e p f) := by
  have set : c.Steady { c with sensors := c.sensors.set p.index (f (c.sensor p)) } := Coach.Quiet.steady { sensors := List.length_set }
  exact .ite (fun _ => set) fun _ => set.trans (Coach.reservePlace_steady e _ _)

theorem Coach.samplePlace_steady (e : Env) (n : Nat) (c : Coach) (p : PlaceId) : c.Steady (c.samplePlace e n p) := c.changeSensor_steady e p _

theorem Coach.reseedPlaces_steady (e : Env) (ps : List PlaceId) (c : Coach) : c.Steady (ps.foldl (Coach.reseedPlace e) c) :=
  Coach.Steady.foldl (fun c p => c.changeSensor_steady e p _) _ _

theorem Coach.losePlaces_steady (e : Env) (ps : List PlaceId) (c : Coach) : c.Steady (ps.foldl (Coach.losePlace e) c) :=
  Coach.Steady.foldl (fun c p => c.changeSensor_steady e p _) _ _

/-! ## Seat lines -/

theorem SeatLine.Alike.trans {l m n : SeatLine} (h : l.Alike m) (k : m.Alike n) : l.Alike n :=
  ⟨k.stuck.trans h.stuck, k.modules.trans h.modules⟩

theorem SeatLine.onModule_alike (m : Fin 16) (f : Module → Module) (l : SeatLine) : l.Alike (l.onModule m f) :=
  ⟨Iff.rfl, List.length_set⟩

theorem SeatLine.handBack_alike (f : SeatFrame) (l : SeatLine) : l.Alike (l.handBack f) := by
  unfold SeatLine.handBack
  split
  · exact ⟨Iff.rfl, rfl⟩
  · split <;> exact ⟨Iff.rfl, rfl⟩
  · exact l.onModule_alike _ _
  · exact .refl l
  · exact .refl l

theorem SeatLine.advance_alike (f : SeatFrame) (l : SeatLine) : l.Alike (l.advance f) := by
  unfold SeatLine.advance
  split <;> exact ⟨Iff.rfl, rfl⟩

theorem SeatLine.write_alike (r : LineControl) (l : SeatLine) : l.Alike (l.write r) := by
  unfold SeatLine.write
  cases r.moduleCount with
  | none => exact ⟨Iff.rfl, rfl⟩
  | some n => exact ⟨Iff.rfl, List.length_mapIdx⟩

theorem SeatLine.levelChange_alike (now : Nat) (v : Level) (l : SeatLine) : l.Alike (l.levelChange now v) := by
  cases v with
  | recessive => exact ⟨Iff.rfl, rfl⟩
  | dominant =>
    refine ⟨?_, rfl⟩
    simp only [SeatLine.levelChange, SeatLine.hearing]
    cases l.activity <;> simp

/-- A frame in progress means that the line is not STUCK. -/
theorem Coach.frameOn_some {c : Coach} {i : Fin 4} {f : SeatFrame} (h : c.frameOn i = some f) : (c.lines.get i).activity = .frame f := by
  unfold Coach.frameOn at h
  split at h
  · simp_all
  · cases h

theorem Coach.frameOf_some {c : Coach} {i : Fin 4} {k : SeatCmd} {f : SeatFrame} (h : c.frameOf i k = some f) :
    (c.lines.get i).activity = .frame f ∧ f.cmd = k := by
  obtain ⟨hf, hk⟩ := Option.filter_eq_some_iff.1 h
  exact ⟨Coach.frameOn_some hf, by simpa using hk⟩

/-- A change of one line that is not STUCK and does not become so. -/
theorem Coach.onLine_steady {i : Fin 4} {f : SeatLine → SeatLine} {c : Coach} (was : (c.lines.get i).activity ≠ .stuck)
    (stays : (f (c.lines.get i)).activity ≠ .stuck) (modules : (f (c.lines.get i)).modules.length = (c.lines.get i).modules.length) :
    c.Steady (c.onLine i f) :=
  (c.onLine_quiet i f ⟨iff_of_false stays was, modules⟩).steady

theorem Coach.onModule_steady (i : Fin 4) (m : Fin 16) (f : Module → Module) (c : Coach) : c.Steady (c.onLine i (SeatLine.onModule m f)) :=
  (c.onLine_quiet i _ (SeatLine.onModule_alike m f _)).steady

theorem Coach.countFailure_steady (e : Env) (i : Fin 4) (f : SeatFrame) (err : LineError) (c : Coach) : c.Steady (c.countFailure e i f err) := by
  refine .ite (fun _ => .refl c) fun _ => ?_
  have counted := fun g => c.onModule_steady i f.module g
  exact .ite (fun _ => ((counted _).trans (Coach.losePlaces_steady e _ _)).trans (Coach.raise_steady e _ _)) fun _ => counted _

theorem SeatLine.endSlot_alike {l : SeatLine} (h : l.activity ≠ .stuck) (now : Nat) (f : SeatFrame) : l.Alike ((l.advance f).toIdle now) :=
  ⟨iff_of_false (by simp [SeatLine.toIdle]) h, (l.advance_alike f).modules⟩

theorem Coach.failTransfer_steady (e : Env) {i : Fin 4} (f : SeatFrame) (err : LineError) {c : Coach} (h : (c.lines.get i).activity ≠ .stuck) :
    c.Steady (c.failTransfer e i f err) := by
  have counted := c.countFailure_steady e i f err
  have back := (((c.countFailure e i f err).lines.get i).handBack_alike f)
  have unstuck := mt (counted.stuck i).1 h
  exact counted.trans (Coach.onLine_quiet i _ _ (back.trans (SeatLine.endSlot_alike (mt back.stuck.1 unstuck) e.now f))).steady

theorem Coach.recover_steady (e : Env) (i : Fin 4) (f : SeatFrame) (c : Coach) : c.Steady (c.recover e i f) := by
  refine .ite (fun _ => ?_) fun _ => .refl c
  have alike : ∀ (l : SeatLine) (g : Module → Module) (n : Nat), l.Alike (((l.queueShow f.module).onModule f.module g).markStale n) :=
    fun l g n => ((l.queueShow_alike f.module).trans ((l.queueShow f.module).onModule_alike f.module g)).trans ⟨Iff.rfl, rfl⟩
  have recovered : ∀ (d : Coach) (g : Module → Module) (n : Nat),
      d.Steady (d.onLine i fun l => ((l.queueShow f.module).onModule f.module g).markStale n) := fun d g n =>
    (d.onLine_quiet i (fun l => ((l.queueShow f.module).onModule f.module g).markStale n) (alike _ g n)).steady
  have reseeded := fun ps g n => (c.reseedPlaces_steady e ps).trans (recovered _ g n)
  exact .ite (fun _ => (reseeded _ _ _).trans (Coach.raise_steady e _ _)) fun _ => reseeded _ _ _

theorem Coach.succeed_steady (e : Env) (i : Fin 4) (f : SeatFrame) (c : Coach) : c.Steady (c.succeed e i f) :=
  (c.recover_steady e i f).trans (Coach.onModule_steady i _ _ _)

theorem Coach.endSlot_steady (e : Env) {i : Fin 4} (f : SeatFrame) {c : Coach} (h : (c.lines.get i).activity ≠ .stuck) :
    c.Steady (c.endSlot e i f) := (c.onLine_quiet i _ (SeatLine.endSlot_alike h e.now f)).steady

theorem Coach.pollEnds_steady (e : Env) {i : Fin 4} (f : SeatFrame) (c0 c1 : BitVec 16) (check : Byte) {c : Coach}
    (h : (c.lines.get i).activity ≠ .stuck) : c.Steady (c.pollEnds e i f c0 c1 check) := by
  refine .ite (fun _ => ?_) fun _ => c.failTransfer_steady e f _ h
  have sampled := ((c.succeed_steady e i f).trans (Coach.samplePlace_steady e c0.toNat _ ⟨i, f.module, 0⟩)).trans
    (Coach.Steady.ite (p := (((c.succeed e i f).lines.get i).module f.module).places = some 1) (fun _ => .refl _)
      fun _ => Coach.samplePlace_steady e c1.toNat _ ⟨i, f.module, 1⟩)
  exact sampled.trans (Coach.endSlot_steady e f (mt (sampled.stuck i).1 h))

theorem Coach.takeIdent_steady (e : Env) (i : Fin 4) (f : SeatFrame) (kind places : Byte) (c : Coach) :
    c.Steady (c.takeIdent e i f kind places) := by
  have reseeded : ∀ (b : Bool) (ps : List PlaceId), c.Steady (if b then ps.foldl (Coach.reseedPlace e) c else c) := fun b ps =>
    .ite (fun _ => c.reseedPlaces_steady e ps) fun _ => .refl c
  have lost : ∀ d : Coach, d.Steady (if placeCount places = 1 then d.losePlace e ⟨i, f.module, 1⟩ else d) := fun d =>
    .ite (fun _ => d.changeSensor_steady e _ _) fun _ => .refl d
  exact ((reseeded _ _).trans (lost _)).trans (Coach.onModule_steady i _ _ _)

theorem Coach.identEnds_steady (e : Env) {i : Fin 4} (f : SeatFrame) (kind places check : Byte) {c : Coach}
    (h : (c.lines.get i).activity ≠ .stuck) : c.Steady (c.identEnds e i f kind places check) := by
  refine .ite (fun _ => ?_) fun _ => c.failTransfer_steady e f _ h
  have taken := (c.succeed_steady e i f).trans (Coach.takeIdent_steady e i f kind places _)
  exact taken.trans (Coach.endSlot_steady e f (mt (taken.stuck i).1 h))

theorem Coach.startFrame_steady (e : Env) {i : Fin 4} {c : Coach} (h : (c.lines.get i).activity ≠ .stuck) : c.Steady (c.startFrame e i) := by
  unfold Coach.startFrame
  dsimp only
  split
  · rename_i f l' hserved
    refine Coach.onLine_steady h (by simp) ?_
    split at hserved
    · unfold Coach.serviceFrame at hserved
      dsimp only at hserved
      split at hserved <;> simp_all
      all_goals (obtain ⟨-, rfl⟩ := hserved; simp [SeatLine.onModule, SeatLine.setModule])
    · cases hserved
  · exact Coach.onLine_steady h (by simp) rfl

theorem Coach.runLine_steady (e : Env) (i : Fin 4) (c : Coach) : c.Steady (c.runLine e i) :=
  .ite (fun h => Coach.onLine_steady (by simp [h]) (by simp [SeatLine.toIdle]) (by simp [SeatLine.toIdle])) fun _ => .refl c

/-! ## The stuck watch (R114) -/

/-- A change of the coach side that keeps each of the three invariants. -/
structure Coach.Keeps (c d : Coach) : Prop where
  queues : c.QueuesBounded → d.QueuesBounded
  flags : c.DegradedTrue ∧ c.FaultTrue → d.DegradedTrue ∧ d.FaultTrue
  ranges : c.InRange → d.InRange

theorem Coach.Keeps.refl (c : Coach) : c.Keeps c := ⟨id, id, id⟩

theorem Coach.Keeps.trans {c d f : Coach} (h : c.Keeps d) (k : d.Keeps f) : c.Keeps f :=
  ⟨k.queues ∘ h.queues, k.flags ∘ h.flags, k.ranges ∘ h.ranges⟩

theorem Coach.Steady.noneStuck {c d : Coach} (h : c.Steady d) : d.noneStuck = c.noneStuck := by
  rw [Bool.eq_iff_iff, Coach.noneStuck_iff, Coach.noneStuck_iff]
  exact forall_congr' fun i => not_congr (h.stuck i)

theorem Coach.Steady.keeps {c d : Coach} (h : c.Steady d) : c.Keeps d where
  queues := h.queues
  flags := fun ⟨hdegraded, hA, hB⟩ =>
    ⟨h.degraded hdegraded, by rw [h.faultA, h.noneStuck, hA], by rw [h.faultB, h.noneStuck, hB]⟩
  ranges := h.ranges

/-- A change of one line whose table of modules stays whole keeps the ranges, STUCK or not. -/
theorem Coach.onLine_inRange {i : Fin 4} {f : SeatLine → SeatLine} {c : Coach}
    (modules : (f (c.lines.get i)).modules.length = (c.lines.get i).modules.length) (hr : c.InRange) : (c.onLine i f).InRange := by
  obtain ⟨hest, hsens, htexts, hlines⟩ := hr
  refine ⟨hest, hsens, htexts, fun k => ?_⟩
  rw [Coach.onLine, Quad.get_set]
  split
  · rw [modules, hlines]
  · exact hlines k

/-- SEAT_LINE_FAULT set to whether a line is STUCK is true on both ports. -/
theorem Coach.flagFault_true {c : Coach} {b : Bool} (h : b = !c.noneStuck) : (c.flagBoth .seatLineFault b).FaultTrue := by
  subst h
  exact ⟨rfl, rfl⟩

/-- A line becomes STUCK, its places are lost, and SEAT_LINE_FAULT is set on both ports. -/
theorem Coach.setFault_keeps {i : Fin 4} {f : SeatLine → SeatLine} {c d : Coach} (becomes : (f (c.lines.get i)).activity = .stuck)
    (modules : (f (c.lines.get i)).modules.length = (c.lines.get i).modules.length) (lost : (c.onLine i f).Steady d) :
    c.Keeps (d.flagBoth .seatLineFault true) := by
  have stands : (d.lines.get i).activity = .stuck := (lost.stuck i).2 (by simpa [Coach.onLine] using becomes)
  have found : d.noneStuck = false := by
    rw [Bool.eq_false_iff]
    exact fun hn => (Coach.noneStuck_iff _).1 hn i stands
  exact ⟨fun hq => lost.queues hq, fun hf => ⟨lost.degraded hf.1, Coach.flagFault_true (by rw [found]; rfl)⟩,
    fun hr => lost.ranges (Coach.onLine_inRange modules hr)⟩

theorem Coach.stick_keeps (e : Env) (i : Fin 4) (c : Coach) : c.Keeps (c.stick e i) := by
  unfold Coach.stick
  dsimp only
  split
  · rename_i f hf
    exact (c.failTransfer_steady e f _ (by simp [Coach.frameOn_some hf])).keeps.trans
      (Coach.setFault_keeps rfl (by simp) (Coach.losePlaces_steady e _ _))
  · exact Coach.setFault_keeps rfl (by simp) (Coach.losePlaces_steady e _ _)

/-- A line that was STUCK is set free, the places lost or not: SEAT_LINE_FAULT stays while another line is STUCK and is cleared with none. -/
theorem Coach.clearFault_keeps {i : Fin 4} {f : SeatLine → SeatLine} {c d : Coach} (was : (c.lines.get i).activity = .stuck)
    (modules : (f (c.lines.get i)).modules.length = (c.lines.get i).modules.length) (lost : (c.onLine i f).Steady d) : c.Keeps d.clearFault := by
  have found : c.noneStuck = false := by
    rw [Bool.eq_false_iff]
    exact fun hn => (Coach.noneStuck_iff _).1 hn i was
  have rest := fun hr => lost.ranges (Coach.onLine_inRange modules hr)
  unfold Coach.clearFault
  split
  · rename_i hnone
    exact ⟨fun hq => lost.queues hq, fun hf => ⟨lost.degraded hf.1, Coach.flagFault_true (by rw [hnone]; rfl)⟩, rest⟩
  · rename_i hsome
    refine ⟨fun hq => lost.queues hq, fun ⟨hdegraded, hA, hB⟩ => ⟨lost.degraded hdegraded, ?_, ?_⟩, rest⟩
    · rw [lost.faultA, Bool.eq_false_iff.2 hsome, ← found]; exact hA
    · rw [lost.faultB, Bool.eq_false_iff.2 hsome, ← found]; exact hB

theorem Coach.unstick_keeps (e : Env) {i : Fin 4} {c : Coach} (was : (c.lines.get i).activity = .stuck) : c.Keeps (c.unstick e i) :=
  Coach.clearFault_keeps (f := fun l => SeatLine.toIdle e.now { l with round := 0, dominantSince := none }) was rfl (.refl _)

theorem Coach.leaveRun_keeps (e : Env) (i : Fin 4) {a : LineActivity} (ha : a ≠ .stuck) (c : Coach) : c.Keeps (c.leaveRun e i a) := by
  unfold Coach.leaveRun
  dsimp only
  split
  · have modules : ∀ l : SeatLine, (match l.activity with | .frame f => l.handBack f | _ => l).modules.length = l.modules.length := by
      intro l
      split
      · exact (SeatLine.handBack_alike _ _).modules
      · rfl
    split
    · refine Coach.clearFault_keeps ‹_› ?_ (Coach.losePlaces_steady e _ _)
      exact modules _
    · refine (Coach.Steady.trans (Coach.onLine_steady ‹_› ha ?_) (Coach.losePlaces_steady e _ _)).keeps
      exact modules _
  · rename_i h
    exact (Coach.onLine_steady (fun hs => h (.inr hs)) ha rfl).keeps

theorem Coach.controlLine_keeps (i : Fin 4) (r : LineControl) (e : Env) (c : Coach) : c.Keeps (c.controlLine i r e) := by
  refine (c.onLine_quiet i _ (SeatLine.write_alike r _)).steady.keeps.trans ?_
  unfold Coach.controlLine Coach.lineAction
  split
  · exact Coach.leaveRun_keeps e i (by simp) _
  · exact Coach.leaveRun_keeps e i (by simp) _
  · exact (Coach.runLine_steady e i _).keeps
  · exact .refl _

/-! ## RESTART COACH and the page -/

theorem PortReports.restarted_alike (r : PortReports) : r.Alike r.restarted := ⟨fun _ => Nat.zero_le _, rfl, rfl⟩

theorem Coach.restart_keeps (e : Env) (c : Coach) : c.Keeps (c.restart e) := by
  have cleared : c.Keeps (Coach.flagBoth .positionDegraded false { c with journey := emptied c.journey, position := c.position.restarted }) :=
    ⟨id, fun hf => ⟨⟨rfl, rfl⟩, hf.2⟩, fun ⟨_, h⟩ => ⟨Nat.zero_le _, h⟩⟩
  have handed := (cleared.trans (Coach.handEmpty_steady e _).keeps)
  exact handed.trans (Coach.Quiet.steady
    { reportsA := PortReports.restarted_alike _, reportsB := PortReports.restarted_alike _ }).keeps

end Sys2Proof.Machine
end

section
/-! Proofs of the statements on what every step keeps (R27, R33, R62, R73, R114, R119, R127, R153, R179 to R182, R187), and on device reset. -/

namespace Sys2Proof.Machine

/-- A change of the part that keeps every invariant. -/
structure State.Keeps (s t : State) : Prop where
  lead : LeadHasLink s → LeadHasLink t
  buffers : BuffersBounded s → BuffersBounded t
  coach : s.coach.Keeps t.coach

theorem State.Keeps.refl (s : State) : s.Keeps s := ⟨id, id, .refl _⟩

theorem State.Keeps.trans {s t u : State} (h : s.Keeps t) (k : t.Keeps u) : s.Keeps u :=
  ⟨k.lead ∘ h.lead, k.buffers ∘ h.buffers, h.coach.trans k.coach⟩

theorem State.Keeps.ite {p : Prop} [Decidable p] {s t u : State} (h : p → s.Keeps t) (k : ¬ p → s.Keeps u) :
    s.Keeps (if p then t else u) := by
  split
  · exact h ‹_›
  · exact k ‹_›

/-- A fold keeps the invariants when each of its steps does. -/
theorem State.Keeps.foldl {α : Type} {f : State → α → State} (h : ∀ (s : State) a, s.Keeps (f s a)) (l : List α) (s : State) :
    s.Keeps (l.foldl f s) := by
  induction l generalizing s with
  | nil => exact .refl s
  | cons a l ih => exact (h s a).trans (ih _)

/-! ## Changes of the coach side alone -/

theorem State.onCoach_keeps {f : Env → Coach → Coach} (h : ∀ e (c : Coach), c.Keeps (f e c)) (s : State) : s.Keeps (s.onCoach f) :=
  ⟨id, id, h _ _⟩

theorem State.onCoach_steady {f : Env → Coach → Coach} (h : ∀ e (c : Coach), c.Steady (f e c)) (s : State) : s.Keeps (s.onCoach f) :=
  s.onCoach_keeps fun e c => (h e c).keeps

/-- The clock, the queue, the choices and the levels of the wires are in no invariant. -/
theorem State.outside_keeps (s : State) (pending : List Instr) (choices now : Nat) (inReset : Bool) (levels : Quad Level) :
    s.Keeps { s with pending, choices, now, inReset, levels } := ⟨id, id, .refl _⟩

theorem State.runTo_keeps (s : State) (d : Nat) : s.Keeps (s.runTo d) := ⟨id, id, .refl _⟩

theorem State.setLevel_keeps (s : State) (i : Fin 4) (v : Level) : s.Keeps (s.setLevel i v) := ⟨id, id, .refl _⟩

/-! ## Requests -/

/-- A request processed: the ports are untouched, and the invariants of lead and coach side kept. -/
structure State.Processes (s t : State) : Prop where
  portA : t.portA = s.portA := by rfl
  portB : t.portB = s.portB := by rfl
  crew : t.crew = s.crew := by rfl
  lead : LeadHasLink s → LeadHasLink t := by exact id
  coach : s.coach.Keeps t.coach := by exact Coach.Keeps.refl _

theorem State.Processes.refl (s : State) : s.Processes s := {}

theorem State.Processes.onCoach {f : Env → Coach → Coach} {s : State} (h : ∀ e (c : Coach), c.Steady (f e c)) : s.Processes (s.onCoach f) :=
  { coach := (h _ _).keeps }

theorem State.Processes.acceptCoach {f : Env → Coach → Coach} {s : State} (h : ∀ e (c : Coach), c.Steady (f e c)) :
    s.Processes (acceptCoach f s).1 := .onCoach h

theorem State.Processes.trans {s t u : State} (h : s.Processes t) (k : t.Processes u) : s.Processes u :=
  ⟨k.portA.trans h.portA, k.portB.trans h.portB, k.crew.trans h.crew, k.lead ∘ h.lead, h.coach.trans k.coach⟩

theorem State.Processes.keeps {s t : State} (h : s.Processes t) : s.Keeps t :=
  ⟨h.lead, fun hb => by simpa only [BuffersBounded, h.portA, h.portB, h.crew] using hb, h.coach⟩

/-- A judged request is refused, which changes nothing, or taken. -/
theorem judge_processes {ks : List (Bool × Status)} {take : State → State × Reply} {s : State}
    (h : (∀ k ∈ ks, k.1 = false) → s.Processes (take s).1) : s.Processes (judge ks take s).1 := by
  obtain ⟨st, -, hrefused⟩ | ⟨hpass, htaken⟩ := judge_cases ks take s
  · rw [hrefused]; exact .refl s
  · rw [htaken]; exact h hpass

theorem lineOnly_processes {p : Port} {take : LinePort → State → State × Reply} {s : State} (h : ∀ q, s.Processes (take q s).1) :
    s.Processes (lineOnly p take s).1 := by
  cases p with
  | crew => exact .refl s
  | line q => exact h q

theorem leadOnly_processes {p : Port} {take : LinePort → State → State × Reply} {s : State} (h : ∀ q, s.Processes (take q s).1) :
    s.Processes (leadOnly p take s).1 :=
  lineOnly_processes fun q => by
    split
    · exact h q
    · exact .refl s

theorem leadOrCrew_processes {p : Port} {take : State → State × Reply} {s : State} (h : s.Processes (take s).1) :
    s.Processes (leadOrCrew p take s).1 := by
  cases p with
  | crew => exact h
  | line q =>
    unfold leadOrCrew
    dsimp only
    split
    · exact h
    · exact .refl s

/-- A request of the lead port finds the lease running and starts it again (R33). -/
theorem State.renew_keeps (p : Port) (s : State) : s.Keeps (s.renew p) := by
  refine .ite (fun hlead => ⟨fun ⟨hlink, _⟩ => ⟨hlink, ?_⟩, id, .refl _⟩) fun _ => .refl s
  cases p with
  | crew => cases hlead
  | line q => simp [show s.consist.lead = some q by simpa [State.isLead] using hlead]

theorem PortState.respond_bounded {x : PortState} {f : Frame} (h : x.bounded) (hplace : x.responses.length < 2) (hup : x.linkUp = true) :
    PortState.bounded { x with responses := x.responses ++ [f] } := by
  obtain ⟨hforward, hrequests, -, -⟩ := h
  exact ⟨hforward, hrequests, by simp; omega, fun hdown => by simp [hup] at hdown⟩

/-- The ports of a state are bounded once the ports of both lines and the crew port are. -/
theorem BuffersBounded.setPort {s : State} (h : BuffersBounded s) (q : LinePort) {x : PortState} (hx : (s.port q).bounded → x.bounded) :
    BuffersBounded (s.setPort q x) := by
  obtain ⟨hA, hB, hcrew⟩ := h
  cases q with
  | a => exact ⟨hx hA, hB, hcrew⟩
  | b => exact ⟨hA, hx hB, hcrew⟩

/-- A port whose link is as it was, or UP, changes. -/
theorem LeadHasLink.setPort {s : State} (h : LeadHasLink s) (q : LinePort) {x : PortState}
    (hx : (s.port q).linkUp = true → x.linkUp = true) : LeadHasLink (s.setPort q x) := by
  obtain ⟨hlink, hlease⟩ := h
  refine ⟨fun p hp => ?_, by simpa using hlease⟩
  have up := hlink p (by simpa using hp)
  cases p <;> cases q <;> first | exact hx up | exact up

theorem State.setPort_keeps {s : State} (q : LinePort) {x : PortState} (hlink : (s.port q).linkUp = true → x.linkUp = true)
    (hbounded : (s.port q).bounded → x.bounded) : s.Keeps (s.setPort q x) :=
  ⟨fun h => h.setPort q hlink, fun h => h.setPort q hbounded, by rw [State.setPort_coach]; exact .refl _⟩

/-- A response placed in a buffer that has a free place keeps the buffers within their bounds (R180 to R182). -/
theorem State.respond_keeps {p : Port} {s : State} (hplace : s.hasPlace p = true) (f : Frame) : s.Keeps (s.respond p f) := by
  have place : (s.responses p).length < 2 := by simpa [State.hasPlace] using hplace
  cases p with
  | crew => exact ⟨id, fun ⟨hA, hB, hrequests, _⟩ => ⟨hA, hB, hrequests, by simpa [State.respond, State.responses] using Nat.le_of_lt_succ (Nat.succ_lt_succ place)⟩, .refl _⟩
  | line q =>
    exact .ite (fun hup => s.setPort_keeps q (fun h => h) fun h => PortState.respond_bounded h place hup) fun _ => .refl s

/-- Processing leaves the buffer of responses as it was. -/
theorem State.Processes.responses {s t : State} (h : s.Processes t) (p : Port) : t.responses p = s.responses p := by
  cases p with
  | crew => simp only [State.responses, h.crew]
  | line q => cases q <;> simp only [State.responses, State.port, h.portA, h.portB]

theorem State.Processes.hasPlace {s t : State} (h : s.Processes t) (p : Port) : t.hasPlace p = s.hasPlace p := by
  rw [State.hasPlace, h.responses, State.hasPlace]

@[simp] theorem State.renew_responses (p : Port) (s : State) : (s.renew p).responses p = s.responses p := by
  cases p <;> simp [State.responses]

@[simp] theorem State.renew_hasPlace (p : Port) (s : State) : (s.renew p).hasPlace p = s.hasPlace p := by
  rw [State.hasPlace, State.renew_responses, State.hasPlace]

theorem request_keeps {p : Port} {kind : Nat} {take : State → State × Reply} (h : ∀ s : State, s.Processes (take s).1) (s : State) :
    s.Keeps (request p kind take s) := by
  refine .ite (fun hplace => ?_) fun _ => .refl s
  have processed := h (s.renew p)
  exact ((s.renew_keeps p).trans processed.keeps).trans (State.respond_keeps (by rw [processed.hasPlace, State.renew_hasPlace, hplace]) _)

/-! ## The lead -/

/-- A port's reports after a condition other than the level conditions is set. -/
theorem PortReports.put_alike (r : PortReports) {k : Condition} (hdegraded : k ≠ .positionDegraded) (hfault : k ≠ .seatLineFault) (v : Bool) :
    r.Alike (r.put k v) := by
  cases k <;> first | exact ⟨id, rfl, rfl⟩ | contradiction

theorem State.flagPort_steady (p : LinePort) {k : Condition} (hdegraded : k ≠ .positionDegraded) (hfault : k ≠ .seatLineFault) (s : State) :
    s.coach.Steady (s.flagPort p k).coach := by
  have alike := (s.coach.reports p).put_alike hdegraded hfault true
  cases p with
  | a => exact Coach.Quiet.steady { reportsA := alike }
  | b => exact Coach.Quiet.steady { reportsB := alike }

theorem State.discardStaging_steady (s : State) : s.coach.Steady s.discardStaging.coach := Coach.Quiet.steady {}

theorem State.discardStaging_processes (s : State) : s.Processes s.discardStaging := { coach := s.discardStaging_steady.keeps }

/-- With no lead and no lease nothing is asked of the links. -/
theorem leadHasLink_none {s : State} (hlead : s.consist.lead = none) (hlease : s.consist.lease = none) : LeadHasLink s :=
  ⟨by simp [hlead], by simp [hlead, hlease]⟩

theorem State.loseLead_keeps (s : State) : s.Keeps s.loseLead where
  lead _ := leadHasLink_none rfl rfl
  buffers := id
  coach :=
    ((State.flagPort_steady .a (by simp) (by simp) s.clearLead).trans
      ((State.flagPort_steady .b (by simp) (by simp) _).trans (State.discardStaging_steady _))).keeps

theorem State.yieldLead_processes (q : LinePort) (s : State) : s.Processes (s.yieldLead q) where
  lead _ := leadHasLink_none rfl rfl
  coach := ((State.flagPort_steady q.other (by simp) (by simp) s.clearLead).trans (State.discardStaging_steady _)).keeps

/-- A grant of a port whose link is UP: the lead is that port and the lease runs (R31). -/
theorem State.grant_processes {q : LinePort} {s : State} (g u : Nat) (hup : (s.port q).linkUp = true) : s.Processes (s.grant q g u) where
  portA := s.grant_portA q g u
  portB := s.grant_portB q g u
  crew := s.grant_crew q g u
  lead _ := by
    have hconsist : (s.grant q g u).consist.lead = some q ∧ (s.grant q g u).consist.lease = s.wholeLease := by
      by_cases hrenewal : s.consist.renewal q g u = true
      · rw [State.grant_of_renewal hrenewal]; exact ⟨rfl, rfl⟩
      · rw [State.grant_of_change hrenewal]; exact ⟨rfl, rfl⟩
    refine ⟨fun p hp => ?_, by simp [hconsist, State.wholeLease]⟩
    obtain rfl : q = p := by simpa [hconsist] using hp
    cases q <;> simpa using hup
  coach := by
    unfold State.grant
    dsimp only
    split
    · exact .refl _
    · refine (Coach.Steady.trans ?_ (State.discardStaging_steady _)).keeps
      split
      · exact (State.flagPort_steady q (s := { s with consist := _ }) (by simp) (by simp)).trans (State.flagPort_steady _ (by simp) (by simp) _)
      · exact State.flagPort_steady q (s := { s with consist := _ }) (by simp) (by simp)

theorem claimBody_processes (g u : Nat) (q : LinePort) (s : State) : s.Processes (claimBody g u q s).1 := by
  refine judge_processes fun hpass => State.grant_processes g u ?_
  simpa using hpass _ (.head _)

/-! ## SET CONSIST and END LOAD -/

/-- The consist record changes in neither lead nor lease. -/
theorem State.consist_processes {s : State} {k : Consist} (hlead : k.lead = s.consist.lead) (hlease : k.lease = s.consist.lease) :
    s.Processes { s with consist := k } where
  lead := fun ⟨hlink, hsome⟩ => ⟨fun p hp => hlink p (hlead ▸ hp), by simpa only [hlead, hlease] using hsome⟩

theorem State.setCoachNumber_processes (n : Nat) (s : State) : s.Processes (s.setCoachNumber n) := by
  have written : s.Processes { s with consist := { s.consist with coachNumber := n } } := State.consist_processes rfl rfl
  unfold State.setCoachNumber
  split
  · exact .refl s
  · exact written.trans (.onCoach fun e c => c.notice_steady e _)

theorem State.setPortion_processes (p : Fin 4) (s : State) : s.Processes (s.setPortion p) := by
  have written : s.Processes { s with consist := { s.consist with portion := p } } := State.consist_processes rfl rfl
  unfold State.setPortion
  dsimp only
  split
  · exact .refl s
  · split
    · exact written
    · exact written.trans (.onCoach fun e c => (c.onJourney_steady _).trans (Coach.amended_steady e _))

theorem setConsistBody_processes (n p g : Nat) (s : State) : s.Processes (setConsistBody n p g s).1 :=
  judge_processes fun _ => (s.setCoachNumber_processes n).trans (State.setPortion_processes _ _)

theorem endLoadBody_processes (q : LinePort) (s : State) : s.Processes (endLoadBody q s).1 := by
  have committed : ∀ (j : Journey) old fresh,
      s.Processes (s.onCoach fun e c => ({ c with journey := j } : Coach).committed e old fresh).discardStaging := fun j old fresh =>
    (State.Processes.onCoach fun e c => (c.onJourney_steady fun _ => j).trans (Coach.committed_steady e old fresh _)).trans
      (State.discardStaging_processes _)
  unfold endLoadBody
  split
  · exact .refl s
  · split
    · exact .refl s
    · split
      · exact .refl s
      · exact committed _ _ _

/-! ## The other requests -/

theorem amendStopBody_processes (r : AmendReq) (s : State) : s.Processes (amendStopBody r s).1 := by
  unfold amendStopBody
  dsimp only
  split
  · exact .refl s
  · split
    · exact .refl s
    · split
      · exact .refl s
      · exact judge_processes fun _ => .acceptCoach (Coach.amend_steady _ _ _)

theorem bookSeat_processes (b : Booking) (x : Seat) (s : State) : s.Processes (bookSeat b x s).1 := by
  refine .trans ?_ (judge_processes fun _ => .onCoach fun e c => c.book_steady e _ _)
  exact .onCoach fun e c => c.onEntries_steady e _ _

theorem reserveBody_processes (n : Nat) (b : Booking) (s : State) : s.Processes (reserveBody n b s).1 := by
  unfold reserveBody
  dsimp only
  split
  · exact .refl s
  · split
    · exact .refl s
    · split
      · exact .refl s
      · exact judge_processes fun _ => bookSeat_processes b _ s

theorem cancelBody_processes (k : Nat) (s : State) : s.Processes (cancelBody k s).1 := by
  unfold cancelBody
  split
  · exact .refl s
  · exact .onCoach fun e c => c.onEntries_steady e _ _

theorem releaseBody_processes (k : Nat) (s : State) : s.Processes (releaseBody k s).1 := by
  unfold releaseBody
  split
  · exact .refl s
  · exact judge_processes fun _ => .acceptCoach fun e c => c.onEntries_steady e _ _

/-- A reading changes nothing. -/
theorem read_processes {s : State} {r : State × Reply} (h : r.1 = s) : s.Processes r.1 := by rw [h]; exact .refl s

theorem readStopBody_state (i : Nat) (s : State) : (readStopBody i s).1 = s := by
  unfold readStopBody
  dsimp only
  split
  · rfl
  · split <;> rfl

theorem readSeatBody_state (n : Nat) (s : State) : (readSeatBody n s).1 = s := by
  unfold readSeatBody
  split <;> rfl

theorem readStatusBody_state (p : Port) (n : Nat) (s : State) : (readStatusBody p n s).1 = s := by
  unfold readStatusBody
  split <;> rfl

theorem positionFixBody_processes (f : Fix) (s : State) : s.Processes (positionFixBody f s).1 := by
  refine judge_processes fun _ => ?_
  unfold takeFix
  dsimp only
  split
  · exact .refl s
  · exact .onCoach fun e c => c.applyFix_steady e (Nat.min_le_left _ _) _ _

theorem setClockBody_processes (m n : Nat) (s : State) : s.Processes (setClockBody m n s).1 :=
  judge_processes fun _ => .acceptCoach (Coach.setClock_steady m n)

theorem setTextBody_processes (n : Nat) (t : List Byte) (s : State) : s.Processes (setTextBody n t s).1 :=
  judge_processes fun _ => .acceptCoach (Coach.setText_steady n t)

theorem postNoticeBody_processes (b : Bool) (r : NoticeReq) (s : State) : s.Processes (postNoticeBody b r s).1 :=
  judge_processes fun _ => .onCoach (Coach.postNotice_steady _)

theorem cancelNoticeBody_processes (b : Bool) (id : Nat) (s : State) : s.Processes (cancelNoticeBody b id s).1 := by
  unfold cancelNoticeBody
  split
  · exact .refl s
  · exact judge_processes fun _ => .acceptCoach fun e c => c.notice_steady e _

theorem setOrientationBody_processes (o : Nat) (s : State) : s.Processes (setOrientationBody o s).1 := by
  unfold setOrientationBody
  split
  · exact .acceptCoach (Coach.turn_steady _)
  · exact .refl s

theorem State.configure_processes (n v : Nat) (s : State) : s.Processes (s.configure n v) where
  coach := (s.coach.axle_steady _).keeps

theorem configureBody_processes (id v : Nat) (s : State) : s.Processes (configureBody id v s).1 := by
  unfold configureBody
  split
  · exact .refl s
  · split
    · exact .refl s
    · exact s.configure_processes _ _

theorem restartCoachBody_processes (s : State) : s.Processes (restartCoachBody s).1 :=
  State.Processes.trans (t := s.onCoach Coach.restart) { coach := Coach.restart_keeps _ _ } (State.discardStaging_processes _)

/-- What the report unit holds for a port changes, but for its level conditions, and its queue keeps its bound. -/
theorem State.onReports_processes {q : LinePort} {f : PortReports → PortReports} {s : State}
    (h : (s.coach.reports q).Alike (f (s.coach.reports q))) : s.Processes (s.onReports q f) := by
  cases q with
  | a => exact { coach := (Coach.Quiet.steady { reportsA := h }).keeps }
  | b => exact { coach := (Coach.Quiet.steady { reportsB := h }).keeps }

theorem fetchReportBody_processes (q : LinePort) (s : State) : s.Processes (fetchReportBody q s).1 := by
  unfold fetchReportBody
  split
  · exact .refl s
  · rename_i r rest hqueue
    refine State.onReports_processes (f := fun x => { x with queue := rest }) ⟨fun h => ?_, rfl, rfl⟩
    rw [hqueue] at h
    exact Nat.le_of_succ_le h

/-- An acknowledge sets a level condition again while its cause lasts (R190). -/
theorem Coach.acknowledged_true {c : Coach} (m : Conditions) {f : Conditions} (hdegraded : f.positionDegraded = (c.position.fix == .degraded))
    (hfault : f.seatLineFault = !c.noneStuck) :
    (c.acknowledged m f).positionDegraded = (c.position.fix == .degraded) ∧ (c.acknowledged m f).seatLineFault = !c.noneStuck := by
  simp only [Coach.acknowledged, Conditions.clear, hdegraded, hfault]
  constructor
  · cases (c.position.fix == .degraded) <;> simp
  · cases c.noneStuck <;> simp

theorem ackConditionsBody_processes (m : Byte) (q : LinePort) (s : State) : s.Processes (ackConditionsBody m q s).1 := by
  cases q with
  | a =>
    refine { coach := ⟨id, fun ⟨⟨dA, dB⟩, fA, fB⟩ => ?_, id⟩ }
    obtain ⟨hd, hf⟩ := s.coach.acknowledged_true (.ofByte m) dA fA
    exact ⟨⟨hd, dB⟩, hf, fB⟩
  | b =>
    refine { coach := ⟨id, fun ⟨⟨dA, dB⟩, fA, fB⟩ => ?_, id⟩ }
    obtain ⟨hd, hf⟩ := s.coach.acknowledged_true (.ofByte m) dB fB
    exact ⟨⟨dA, hd⟩, fA, hf⟩

theorem setAttentionMaskBody_processes (m : Byte) (q : LinePort) (s : State) : s.Processes (setAttentionMaskBody m q s).1 :=
  State.onReports_processes (f := fun x => { x with mask := .ofByte m }) ⟨id, rfl, rfl⟩

theorem misfitBody_state (p : Port) (k : Nat) (s : State) : (misfitBody p k s).1 = s := by
  unfold misfitBody
  dsimp only
  split <;> rfl

theorem broadcastBody_processes (q : LinePort) (d : Decoded) (s : State) : s.Processes (broadcastBody q d s).1 := by
  unfold broadcastBody
  split
  · exact leadOnly_processes fun _ => setClockBody_processes _ _ s
  · exact leadOnly_processes fun _ => setTextBody_processes _ _ s
  · exact leadOrCrew_processes (postNoticeBody_processes _ _ s)
  · exact .refl s

/-! ## Ports -/

theorem State.forwardOut_keeps (q : LinePort) (f : Frame) (s : State) : s.Keeps (s.forwardOut q f) := by
  refine .ite (fun ⟨hup, hplace⟩ => s.setPort_keeps q id ?_) fun _ => .refl s
  rintro ⟨-, hrequests, hresponses, -⟩
  exact ⟨by simp; omega, hrequests, hresponses, fun hdown => by simp [hup] at hdown⟩

theorem State.joinRequests_keeps (q : LinePort) (w : Waiting) (s : State) : s.Keeps (s.joinRequests q w) := by
  refine .ite (fun hplace => s.setPort_keeps q id ?_) fun _ => .refl s
  rintro ⟨hforward, -, hresponses, hdown⟩
  exact ⟨hforward, by simp; omega, hresponses, hdown⟩

theorem State.joinCrew_keeps (w : Waiting) (s : State) : s.Keeps (s.joinCrew w) :=
  .ite (fun hplace => ⟨id, fun ⟨hA, hB, _, hresponses⟩ => ⟨hA, hB, by simp; omega, hresponses⟩, .refl _⟩) fun _ => .refl s

theorem State.takeFrame_keeps (q : LinePort) (f : Frame) (s : State) : s.Keeps (s.takeFrame q f) :=
  .ite (fun _ => s.forwardOut_keeps _ _) fun _ => .ite (fun _ => (s.joinRequests_keeps _ _).trans (State.forwardOut_keeps _ _ _)) fun _ =>
    .ite (fun _ => s.joinRequests_keeps _ _) fun _ => .ite (fun _ => .refl s) fun _ => s.forwardOut_keeps _ _

theorem State.lineCharacter_keeps (q : LinePort) (s : State) (c : Byte) : s.Keeps (s.lineCharacter q c) := by
  have received := s.setPort_keeps q
    (x := { s.port q with linkUp := true, silenceAt := s.now + Config.silence, rx := (receive true (s.port q).rx c).1 }) (fun _ => rfl)
    fun ⟨hforward, hrequests, hresponses, _⟩ => ⟨hforward, hrequests, hresponses, fun hdown => by cases hdown⟩
  unfold State.lineCharacter
  dsimp only
  split
  · exact received.trans (State.takeFrame_keeps _ _ _)
  · exact received

/-- The receiver and the transmitter of the crew port are in no invariant. -/
theorem State.crew_keeps {x : CrewState} {s : State} (hrequests : x.requests.length ≤ s.crew.requests.length)
    (hresponses : x.responses.length ≤ s.crew.responses.length) : s.Keeps { s with crew := x } :=
  ⟨id, fun ⟨hA, hB, hq, hr⟩ => ⟨hA, hB, Nat.le_trans hrequests hq, Nat.le_trans hresponses hr⟩, .refl _⟩

theorem State.crewCharacter_keeps (s : State) (c : Byte) : s.Keeps (s.crewCharacter c) := by
  have received : s.Keeps { s with crew := { s.crew with rx := (receive false s.crew.rx c).1 } } := State.crew_keeps (Nat.le_refl _) (Nat.le_refl _)
  unfold State.crewCharacter
  dsimp only
  split
  · exact received.trans (.ite (fun _ => .refl _) fun _ => State.joinCrew_keeps _ _)
  · exact received

/-- A link that goes DOWN empties what its port sends, and takes the lead that it holds with it (R35). -/
theorem State.linkDown_keeps (p : LinePort) (s : State) :
    s.Keeps (if ((s.runTo (s.port p).silenceAt).setPort p (s.port p).down).consist.lead = some p
      then ((s.runTo (s.port p).silenceAt).setPort p (s.port p).down).loseLead
      else (s.runTo (s.port p).silenceAt).setPort p (s.port p).down) := by
  have down : PortState.bounded (s.port p) → (s.port p).down.bounded := fun ⟨_, hrequests, _⟩ =>
    ⟨Nat.zero_le _, hrequests, Nat.zero_le _, fun _ => ⟨rfl, rfl, rfl⟩⟩
  have buffers : BuffersBounded s → BuffersBounded ((s.runTo (s.port p).silenceAt).setPort p (s.port p).down) := fun h =>
    BuffersBounded.setPort (s := s.runTo (s.port p).silenceAt) h p (by simpa using down)
  have coach : s.coach.Keeps ((s.runTo (s.port p).silenceAt).setPort p (s.port p).down).coach := by simpa using Coach.Keeps.refl s.coach
  split
  · have lost := State.loseLead_keeps ((s.runTo (s.port p).silenceAt).setPort p (s.port p).down)
    exact ⟨fun _ => leadHasLink_none rfl rfl, lost.buffers ∘ buffers, coach.trans lost.coach⟩
  · rename_i hother
    refine ⟨fun ⟨hlink, hlease⟩ => ⟨fun q hq => ?_, by simpa using hlease⟩, buffers, coach⟩
    have up := hlink q (by simpa using hq)
    have differs : q ≠ p := by rintro rfl; exact hother hq
    cases p <;> cases q <;> first | exact absurd rfl differs | exact up

/-- The next frame of a transmitter leaves the forward or the response buffer, of which it was the oldest (R180). -/
theorem PortState.nextFrame_some {x y : PortState} {f : Frame} (h : x.nextFrame = some (f, y)) :
    (∃ fs, x.forward = f :: fs ∧ y = { x with forward := fs, lastForward := true })
      ∨ ∃ rs, x.responses = f :: rs ∧ y = { x with responses := rs, lastForward := false } := by
  unfold PortState.nextFrame at h
  split at h
  · cases h
  · cases h; exact .inl ⟨_, ‹_›, rfl⟩
  · cases h; exact .inr ⟨_, ‹_›, rfl⟩
  · split at h
    · cases h; exact .inr ⟨_, ‹_›, rfl⟩
    · cases h; exact .inl ⟨_, ‹_›, rfl⟩

/-- What a free transmitter does at the start of a frame: nothing, or it sends the next frame and leaves the buffers without it. -/
theorem PortState.begin_cases (now : Nat) (x : PortState) :
    x.begin now = x ∨ ∃ f y, x.nextFrame = some (f, y) ∧ x.begin now = { y with sending := some ⟨f, now + f.lineTime⟩ } := by
  unfold PortState.begin
  split
  · exact .inr ⟨_, _, ‹_›, rfl⟩
  · exact .inl rfl

theorem PortState.begin_linkUp (now : Nat) (x : PortState) : (x.begin now).linkUp = x.linkUp := by
  obtain h | ⟨f, y, hnext, h⟩ := x.begin_cases now
  · rw [h]
  · obtain ⟨_, -, rfl⟩ | ⟨_, -, rfl⟩ := PortState.nextFrame_some hnext <;> rw [h]

/-- A frame leaves the buffer it waited in, which keeps the buffers within their bounds. -/
theorem PortState.begin_bounded (now : Nat) {x : PortState} (h : x.bounded) : (x.begin now).bounded := by
  obtain hsame | ⟨f, y, hnext, hbegun⟩ := x.begin_cases now
  · rwa [hsame]
  · obtain ⟨hforward, hrequests, hresponses, hdown⟩ := h
    obtain ⟨fs, hfrom, rfl⟩ | ⟨rs, hfrom, rfl⟩ := PortState.nextFrame_some hnext
    · rw [hfrom] at hforward hdown
      rw [hbegun]
      exact ⟨Nat.le_of_succ_le hforward, hrequests, hresponses, fun h => by cases (hdown h).1⟩
    · rw [hfrom] at hresponses hdown
      rw [hbegun]
      exact ⟨hforward, hrequests, Nat.le_of_succ_le hresponses, fun h => by cases (hdown h).2.1⟩

theorem CrewState.begin_requests (now : Nat) (x : CrewState) : (x.begin now).requests = x.requests := by
  unfold CrewState.begin
  split <;> rfl

theorem CrewState.begin_responses (now : Nat) (x : CrewState) : (x.begin now).responses.length ≤ x.responses.length := by
  unfold CrewState.begin
  split
  · rename_i f fs _ h
    simp [h]
  · exact Nat.le_refl _

theorem State.freeTransmitter_keeps (p : Port) (x : Sending) (s : State) : s.Keeps (s.freeTransmitter p x) := by
  cases p with
  | crew => exact State.crew_keeps (Nat.le_refl _) (Nat.le_refl _)
  | line q => exact s.setPort_keeps q id id

theorem State.popRequest_keeps (p : Port) (s : State) : s.Keeps (s.popRequest p) := by
  cases p with
  | crew => exact State.crew_keeps (by simp) (Nat.le_refl _)
  | line q =>
    exact s.setPort_keeps q id fun ⟨hforward, hrequests, hresponses, hdown⟩ => ⟨hforward, by simp; omega, hresponses, hdown⟩

/-! ## Seat lines and timers -/

theorem State.Keeps.onFrame {i : Fin 4} {k : SeatCmd} {f : SeatFrame → State → State} {s : State}
    (h : ∀ x, (s.coach.lines.get i).activity = .frame x → s.Keeps (f x s)) : s.Keeps (s.onFrame i k f) := by
  unfold State.onFrame
  split
  · exact h _ (Coach.frameOf_some ‹_›).1
  · exact .refl s

theorem State.coach_keeps {f : Env → Coach → Coach} {s : State} (h : ∀ e, s.coach.Keeps (f e s.coach)) : s.Keeps (s.onCoach f) :=
  ⟨id, id, h _⟩

theorem State.frameSent_keeps {i : Fin 4} {x : SeatFrame} {s : State} (h : (s.coach.lines.get i).activity = .frame x) (f : SeatFrame) :
    s.Keeps (s.frameSent i f) :=
  (s.runTo_keeps _).trans (State.coach_keeps fun e => (Coach.endSlot_steady e f (by simp [h])).keeps)

theorem State.failFrame_keeps {i : Fin 4} {x : SeatFrame} {s : State} (h : (s.coach.lines.get i).activity = .frame x) (f : SeatFrame)
    (err : LineError) : s.Keeps (s.failFrame i f err) :=
  State.coach_keeps fun e => (Coach.failTransfer_steady e f err (by simp [h])).keeps

theorem Coach.onNotices_steady {f : NoticeUnit → NoticeUnit} (c : Coach) (h : (f c.notices).texts = c.notices.texts) :
    c.Steady (c.onNotices f) := Coach.Quiet.steady { texts := by rw [Coach.onNotices, h] }

theorem Coach.beginPage_steady (e : Env) (c : Coach) : c.Steady (c.beginPage e) := Coach.Quiet.steady {}

theorem Coach.driveFrame_steady (t : Nat) (c : Coach) : c.Steady (c.driveFrame t) := Coach.Quiet.steady {}

/-! ## Every command -/

/-- The outcome of a command keeps the invariants. -/
def State.KeptBy (s : State) (o : Host.Outcome State Fault Refusal) : Prop := ∀ t, o = .next t → s.Keeps t

theorem State.keptBy_next {s t : State} (h : s.Keeps t) : s.KeptBy (.next t) := by
  rintro u ⟨⟩
  exact h

/-- A change taken while RESET is high keeps the invariants; held in reset, nothing changes. -/
theorem State.keptBy_live {s : State} {f : State → State} (h : s.Keeps (f s)) : s.KeptBy (live s f) := by
  unfold live
  split
  · exact State.keptBy_next (.refl s)
  · exact State.keptBy_next h

theorem State.keptBy_request {p : Port} {kind : Nat} {take : State → State × Reply} (h : ∀ s : State, s.Processes (take s).1) (s : State) :
    s.KeptBy (live s (request p kind take)) := State.keptBy_live (request_keeps h s)

/-! ## The requests that judge on what they find, and the events -/

theorem State.stagingBegun_processes (s : State) (q : LinePort) (n : Nat) :
    s.Processes { s with
      consist := { s.consist with stagingOwner := some q }
      coach := { s.coach with journey := { s.coach.journey with staging := List.replicate n none } } } :=
  (State.consist_processes (s := s) (k := { s.consist with stagingOwner := some q }) rfl rfl).trans
    (State.Processes.onCoach (f := fun _ c => c.onJourney fun j => { j with staging := List.replicate n none }) fun _ c => c.onJourney_steady _)

theorem seatLineControlBody_processes (r : LineControl) (s : State) : s.Processes (seatLineControlBody r s).1 :=
  judge_processes fun _ => { coach := Coach.controlLine_keeps _ r _ _ }

/-- The clock runs on and the coach side takes a change. -/
theorem State.timed_steady {f : Env → Coach → Coach} (h : ∀ e (c : Coach), c.Steady (f e c)) (s : State) (d : Nat) :
    s.Keeps ((s.runTo d).onCoach f) := (s.runTo_keeps d).trans (State.onCoach_steady h _)

theorem leaseExpiry_kept (s : State) : s.KeptBy (execLeaseExpiry s) := by
  refine State.keptBy_live ?_
  split
  · exact (s.runTo_keeps _).trans (State.loseLead_keeps _)
  · exact .refl s

theorem clockSecond_kept (s : State) : s.KeptBy (execClockSecond s) := by
  refine State.keptBy_live ?_
  split
  · exact s.timed_steady (fun _ c => Coach.onNotices_steady c rfl) _
  · exact .refl s

theorem lineStuck_kept (i : Fin 4) (s : State) : s.KeptBy (execLineStuck i s) :=
  State.keptBy_live (.ite (fun _ => ((s.setLevel_keeps i .dominant).trans (State.runTo_keeps _ _)).trans
    (State.onCoach_keeps (fun e c => c.stick_keeps e i) _)) fun _ => .refl s)

theorem stuckRelease_kept (i : Fin 4) (s : State) : s.KeptBy (execStuckRelease i s) :=
  State.keptBy_live (.ite (fun hstuck => ((s.setLevel_keeps i .recessive).trans (State.runTo_keeps _ _)).trans
    (State.coach_keeps fun e => Coach.unstick_keeps e hstuck)) fun _ => .refl s)

theorem levelChange_kept (i : Fin 4) (v : Level) (s : State) : s.KeptBy (execSeatLineLevelChange i v s) :=
  State.keptBy_live (.ite (fun _ => .refl s) fun _ => (s.setLevel_keeps i v).trans
    (State.onCoach_steady (fun e c => (c.onLine_quiet i _ (SeatLine.levelChange_alike e.now v _)).steady) _))

theorem seatFrameStart_kept (i : Fin 4) (s : State) : s.KeptBy (execSeatFrameStart i s) := by
  refine State.keptBy_live (.ite (fun hmay => (s.runTo_keeps _).trans (State.coach_keeps fun e => ?_)) fun _ => .refl s)
  have idle : (s.coach.lines.get i).activity = .idle := by
    simp only [State.mayBegin, Bool.and_eq_true, decide_eq_true_eq] at hmay
    exact hmay.1.1
  exact (Coach.startFrame_steady e (by simp [idle])).keeps

/-- A transfer that fails at a moment of its frame. -/
theorem State.timedFailure_keeps {i : Fin 4} {f : SeatFrame} {s : State} (h : s.coach.frameOn i = some f) (d : Nat) (err : LineError) :
    s.Keeps ((s.runTo d).failFrame i f err) :=
  (s.runTo_keeps d).trans (State.failFrame_keeps (s := s.runTo d) (Coach.frameOn_some h) f err)

theorem lineFrameReceived_kept (p : LinePort) (cs : List Byte) (s : State) : s.KeptBy (execLineFrameReceived p cs s) :=
  State.keptBy_live (State.Keeps.foldl (State.lineCharacter_keeps p) _ s)

theorem crewFrameReceived_kept (cs : List Byte) (s : State) : s.KeptBy (execCrewFrameReceived cs s) :=
  State.keptBy_live (State.Keeps.foldl State.crewCharacter_keeps _ s)

theorem linkDown_kept (p : LinePort) (s : State) : s.KeptBy (execLinkDown p s) :=
  State.keptBy_live (.ite (fun _ => s.linkDown_keeps p) fun _ => .refl s)

theorem invalidCharacter_kept (p : Port) (s : State) : s.KeptBy (execInvalidCharacter p s) := by
  refine State.keptBy_live ?_
  cases p with
  | crew => exact State.crew_keeps (Nat.le_refl _) (Nat.le_refl _)
  | line q =>
    exact s.setPort_keeps q id fun ⟨hforward, hrequests, hresponses, hdown⟩ =>
      ⟨hforward, hrequests, hresponses, fun h => ⟨(hdown h).1, (hdown h).2.1, rfl⟩⟩

theorem frameSendStart_kept (p : Port) (s : State) : s.KeptBy (execFrameSendStart p s) := by
  refine State.keptBy_live ?_
  cases p with
  | crew => exact State.crew_keeps (Nat.le_of_eq (congrArg List.length (s.crew.begin_requests s.now))) (s.crew.begin_responses s.now)
  | line q => exact s.setPort_keeps q (fun h => by rwa [PortState.begin_linkUp]) (PortState.begin_bounded s.now)

theorem badKindRequest_kept (p : Port) (k : Byte) (s : State) : s.KeptBy (execBadKindRequest p k s) :=
  State.keptBy_live (f := fun s => if requestKind k ∨ 128 ≤ k.toNat then s else request p k.toNat (refuse .badKind) s)
    (.ite (fun _ => .refl s) fun _ => request_keeps .refl s)

theorem frameSendEnd_kept (p : Port) (s : State) : s.KeptBy (execFrameSendEnd p s) := by
  refine State.keptBy_live ?_
  split
  · exact (s.runTo_keeps _).trans (State.freeTransmitter_keeps p _ _)
  · exact .refl s

theorem windowClose_kept (s : State) : s.KeptBy (execWindowClose s) := by
  refine State.keptBy_live ?_
  split
  · exact s.timed_steady (fun e c => (c.windowClose_steady e).trans (Coach.axle_steady _ _)) _
  · exact .refl s

theorem responseTimeout_kept (i : Fin 4) (n : Nat) (s : State) : s.KeptBy (execResponseTimeout i n s) := by
  refine State.keptBy_live ?_
  split
  · exact .ite (fun _ => State.timedFailure_keeps ‹_› _ _) fun _ => .refl s
  · exact .refl s

theorem framing_kept (i : Fin 4) (s : State) : s.KeptBy (execFraming i s) := by
  refine State.keptBy_live ?_
  split
  · exact .ite (fun _ => State.failFrame_keeps (Coach.frameOn_some ‹_›) _ _) fun _ => .refl s
  · exact .refl s

theorem echoMismatch_kept (i : Fin 4) (s : State) : s.KeptBy (execEchoMismatch i s) := by
  refine State.keptBy_live ?_
  dsimp only
  split
  · exact .ite (fun _ => State.timedFailure_keeps ‹_› _ _) fun _ => .refl s
  · exact .refl s

theorem showMinExpiry_kept (s : State) : s.KeptBy (execShowMinExpiry s) := by
  refine State.keptBy_live ?_
  split
  · exact s.timed_steady (fun e c => (c.onNotices_steady (f := fun u => { u with hold := none }) rfl).trans (Coach.notice_steady e _ _)) _
  · exact .refl s

theorem afterSecondsExpiry_kept (n : Nat) (s : State) : s.KeptBy (execAfterSecondsExpiry n s) := by
  refine State.keptBy_live ?_
  split
  · exact s.timed_steady (fun e c => c.notice_steady e _) _
  · exact .refl s

theorem chimeEnd_kept (s : State) : s.KeptBy (execChimeEnd s) := by
  refine State.keptBy_live ?_
  split
  · exact s.timed_steady (fun _ c => c.onNotices_steady rfl) _
  · exact .refl s

theorem pageEnd_kept (s : State) : s.KeptBy (execPageEnd s) := by
  refine State.keptBy_live ?_
  split
  · exact s.timed_steady (fun _ c => c.onNotices_steady rfl) _
  · exact .refl s

theorem pageRefresh_kept (s : State) : s.KeptBy (execPageRefresh s) := by
  refine State.keptBy_live ?_
  split
  · exact s.timed_steady (fun _ c => c.onNotices_steady rfl) _
  · exact .refl s

theorem frameSent_kept (i : Fin 4) (k : SeatCmd) (s : State) : s.KeptBy (live s fun s => s.onFrame i k (State.frameSent i)) :=
  State.keptBy_live (.onFrame fun x h => State.frameSent_keeps h x)

theorem driveFrameBoundary_kept (s : State) : s.KeptBy (execDriveFrameBoundary s) := by
  refine State.keptBy_live ?_
  split
  · exact s.timed_steady (fun _ c => c.driveFrame_steady _) _
  · exact .refl s

theorem stepTimerExpiry_kept (s : State) : s.KeptBy (execStepTimerExpiry s) := by
  refine State.keptBy_live ?_
  split
  · exact s.timed_steady (fun e c => c.mapStepTimer_steady e) _
  · exact .refl s

theorem pollResponse_kept (i : Fin 4) (a b : BitVec 16) (k : Byte) (s : State) : s.KeptBy (execPollResponse i a b k s) :=
  State.keptBy_live (.onFrame fun x h => State.coach_keeps (s := s) fun e => (Coach.pollEnds_steady e x _ _ _ (by simp [h])).keeps)

theorem identResponse_kept (i : Fin 4) (a b k : Byte) (s : State) : s.KeptBy (execIdentResponse i a b k s) :=
  State.keptBy_live (.onFrame fun x h => State.coach_keeps (s := s) fun e => (Coach.identEnds_steady e x _ _ _ (by simp [h])).keeps)

theorem idleCharacter_kept (q : LinePort) (s : State) : s.KeptBy (execIdleCharacter q s) :=
  State.keptBy_live (.ite (fun _ => (s.runTo_keeps _).trans (State.setPort_keeps (s := s.runTo (s.port q).idleAt) q (by simp)
    (fun h => by rwa [State.runTo_port] at h))) fun _ => .refl s)

/-! ## Device reset -/

theorem State.reset_invariants :
    LeadHasLink State.reset ∧ BuffersBounded State.reset ∧ ReportsBounded State.reset ∧ LevelFlagsTrue State.reset ∧ RangesKept State.reset := by
  refine ⟨leadHasLink_none rfl rfl, ?_, ⟨by decide, by decide⟩, ⟨rfl, rfl, rfl, rfl⟩, by decide, List.length_replicate, List.length_replicate, ?_⟩
  · have idle : PortState.bounded {} := ⟨by decide, by decide, by decide, fun _ => ⟨rfl, rfl, rfl⟩⟩
    exact ⟨idle, idle, by decide, by decide⟩
  · intro i
    match i with
    | 0 | 1 | 2 | 3 => exact List.length_replicate

/-- Device reset gives a state that meets every invariant, whatever went before. -/
theorem State.deviceReset_keeps (s : State) : s.Keeps { State.reset with pending := s.pending, choices := s.choices, levels := s.levels } := by
  obtain ⟨hlead, hbuffers, hreports, hflags, hranges⟩ := State.reset_invariants
  exact ⟨fun _ => hlead, fun _ => hbuffers, fun _ => hreports, fun _ => (levelFlagsTrue_iff _).1 hflags, fun _ => hranges⟩

theorem State.resetRelease_keeps (a b : Bool) (s : State) :
    s.Keeps (State.onCoach (fun e c => (c.release a b).beginPage e) { s with inReset := false, now := 0 }) :=
  (s.outside_keeps s.pending s.choices 0 false s.levels).trans
    (State.onCoach_steady (fun e c => (show c.Steady (c.release a b) from Coach.Quiet.steady {}).trans (Coach.beginPage_steady e _)) _)

/-- Every command keeps every invariant. -/
theorem exec_keeps (i : Instr) (s : State) : s.KeptBy (exec i s) :=
  match i with
  | .deviceReset => State.keptBy_next s.deviceReset_keeps
  | .resetRelease a b => State.keptBy_next (.ite (fun _ => s.resetRelease_keeps a b) fun _ => .refl s)
  | .linkUp p c => State.keptBy_live (f := fun s => if (s.port p).linkUp then s else s.lineCharacter p c)
      (.ite (fun _ => .refl s) fun _ => s.lineCharacter_keeps p c)
  | .linkDown p => linkDown_kept p s
  | .idleCharacter p => idleCharacter_kept p s
  | .lineFrameReceived p cs => lineFrameReceived_kept p cs s
  | .frameSendStart p => frameSendStart_kept p s
  | .frameSendEnd p => frameSendEnd_kept p s
  | .crewFrameReceived cs => crewFrameReceived_kept cs s
  | .broadcastTaken p k x => State.keptBy_live (f := fun s => (broadcastBody p (decodeRequest (.line p) k x) s).1)
      (broadcastBody_processes p _ s).keeps
  | .badKindRequest p k => badKindRequest_kept p k s
  | .claimLead _ g u => State.keptBy_request (take := fun s => withConsist (lineOnly _ (claimBody g u) s))
      (fun s => lineOnly_processes fun q => claimBody_processes g u q s) s
  | .keepLead p => State.keptBy_request (take := fun s => withConsist (leadOnly p _ s)) (fun s => leadOnly_processes fun _ => .refl s) s
  | .yieldLead p => State.keptBy_request (take := fun s => withConsist (leadOnly p _ s))
      (fun s => leadOnly_processes fun q => s.yieldLead_processes q) s
  | .setConsist r n p g => State.keptBy_request (take := fun s => withConsist (leadOnly r _ s))
      (fun s => leadOnly_processes fun _ => setConsistBody_processes n p g s) s
  | .setOrientation _ o => State.keptBy_request (fun s => leadOnly_processes fun _ => setOrientationBody_processes o s) s
  | .configure _ n v => State.keptBy_request (fun s => leadOnly_processes fun _ => configureBody_processes n v s) s
  | .seatMap _ _ ds => State.keptBy_request (fun _ => leadOnly_processes fun _ => judge_processes fun _ =>
      .acceptCoach fun _ c => c.mapSeats_steady ds) s
  | .beginLoad _ _ => State.keptBy_request (fun s => leadOnly_processes fun _ => judge_processes fun _ => s.stagingBegun_processes _ _) s
  | .stopRecords _ _ _ => State.keptBy_request (fun _ => leadOnly_processes fun _ => judge_processes fun _ =>
      .acceptCoach fun _ c => c.onJourney_steady _) s
  | .endLoad _ => State.keptBy_request (fun s => leadOnly_processes fun q => endLoadBody_processes q s) s
  | .amendStop _ r => State.keptBy_request (fun s => leadOnly_processes fun _ => amendStopBody_processes r s) s
  | .readStop _ n => State.keptBy_request (fun s => lineOnly_processes fun _ => read_processes (readStopBody_state n s)) s
  | .reserve _ n _ _ _ => State.keptBy_request (fun s => leadOnly_processes fun _ => reserveBody_processes n _ s) s
  | .cancel _ k => State.keptBy_request (fun s => leadOnly_processes fun _ => cancelBody_processes k s) s
  | .release _ k => State.keptBy_request (fun s => leadOnly_processes fun _ => releaseBody_processes k s) s
  | .setOutOfUse _ n on => State.keptBy_request (fun _ => leadOrCrew_processes (judge_processes fun _ => .acceptCoach (Coach.setUse_steady n on))) s
  | .readSeat _ n => State.keptBy_request (fun s => read_processes (readSeatBody_state n s)) s
  | .reseedSeats _ _ => State.keptBy_request (fun _ => leadOrCrew_processes (judge_processes fun _ =>
      .onCoach fun e c => c.reseedPlaces_steady e _)) s
  | .seatLineControl _ r => State.keptBy_request (fun s => leadOrCrew_processes (seatLineControlBody_processes r s)) s
  | .positionFix _ x k y => State.keptBy_request (fun s => leadOnly_processes fun _ => positionFixBody_processes ⟨x, k, y⟩ s) s
  | .postNotice _ r => State.keptBy_request (fun s => leadOrCrew_processes (postNoticeBody_processes _ r s)) s
  | .cancelNotice _ n => State.keptBy_request (fun s => leadOrCrew_processes (cancelNoticeBody_processes _ n s)) s
  | .setText _ n x => State.keptBy_request (fun s => leadOnly_processes fun _ => setTextBody_processes n x s) s
  | .setClock _ m n => State.keptBy_request (fun s => leadOnly_processes fun _ => setClockBody_processes m n s) s
  | .readNotices _ _ _ => State.keptBy_request (fun s => lineOnly_processes fun _ => judge_processes fun _ => .refl s) s
  | .readStatus p n => State.keptBy_request (fun s => read_processes (readStatusBody_state p n s)) s
  | .fetchReport _ => State.keptBy_request (fun s => lineOnly_processes fun q => fetchReportBody_processes q s) s
  | .ackConditions _ m => State.keptBy_request (fun s => lineOnly_processes fun q => ackConditionsBody_processes m q s) s
  | .setAttentionMask _ m => State.keptBy_request (fun s => lineOnly_processes fun q => setAttentionMaskBody_processes m q s) s
  | .restartCoach _ => State.keptBy_request (fun s => leadOnly_processes fun _ => restartCoachBody_processes s) s
  | .leaseExpiry => leaseExpiry_kept s
  | .axleEdge ch t => State.keptBy_live (f := fun s => State.onCoach (fun e c => c.axleEdge e ch t) { s with now := momentOf s.now t })
      ((s.outside_keeps s.pending s.choices _ s.inReset s.levels).trans (State.onCoach_steady (fun e c => c.axleEdge_steady e ch t) _))
  | .illegalTransition => State.keptBy_live (s.onCoach_steady fun _ c => c.axle_steady _)
  | .windowClose => windowClose_kept s
  | .seatFrameStart i => seatFrameStart_kept i s
  | .pollResponse i a b k => pollResponse_kept i a b k s
  | .identResponse i a b k => identResponse_kept i a b k s
  | .showSent i => frameSent_kept i .showContent s
  | .levelSent i => frameSent_kept i .level s
  | .namesSent i => frameSent_kept i .names s
  | .responseTimeout i n => responseTimeout_kept i n s
  | .framing i => framing_kept i s
  | .echoMismatch i => echoMismatch_kept i s
  | .lineStuck i => lineStuck_kept i s
  | .stuckRelease i => stuckRelease_kept i s
  | .showMinExpiry => showMinExpiry_kept s
  | .afterSecondsExpiry n => afterSecondsExpiry_kept n s
  | .chimeEnd => chimeEnd_kept s
  | .clockSecond => clockSecond_kept s
  | .pageStart => State.keptBy_live (.ite (fun _ => s.onCoach_steady Coach.beginPage_steady) fun _ => .refl s)
  | .pageEnd => pageEnd_kept s
  | .pageRefresh => pageRefresh_kept s
  | .stepTimerExpiry => stepTimerExpiry_kept s
  | .driveFrameBoundary => driveFrameBoundary_kept s
  | .validCharacter p c => State.keptBy_live (f := fun s => s.lineCharacter p c) (s.lineCharacter_keeps p c)
  | .invalidCharacter p => invalidCharacter_kept p s
  | .seatLineLevelChange i v => levelChange_kept i v s

/-! ## Every step -/

theorem takeRequest_keeps (p : Port) (s : State) : s.KeptBy (takeRequest p s) := by
  have popped := s.popRequest_keeps p
  unfold takeRequest
  split
  · exact State.keptBy_next (.refl s)
  · split
    · exact fun t ht => popped.trans (exec_keeps _ _ t ht)
    · exact State.keptBy_next (popped.trans (request_keeps (fun s => read_processes (misfitBody_state p _ s)) _))

theorem takeDue_keeps (d : Due) (s : State) : s.KeptBy (takeDue d s) := by
  cases d with
  | command i => exact exec_keeps i s
  | request p => exact takeRequest_keeps p s

theorem idle_keeps (s : State) : s.KeptBy (idle s) := by
  unfold idle
  split
  · exact State.keptBy_next (.refl s)
  · split
    · exact State.keptBy_next (s.outside_keeps s.pending s.choices _ s.inReset s.levels)
    · exact takeDue_keeps _ s
    · exact fun t ht => (s.outside_keeps s.pending _ s.now s.inReset s.levels).trans (takeDue_keeps _ _ t ht)

/-- Every step keeps every invariant: it takes a command of the queue, or what falls due. -/
theorem step_keeps {s t : State} (h : step s = .next t) : s.Keeps t := by
  unfold step at h
  split at h
  · exact (s.outside_keeps _ s.choices s.now s.inReset s.levels).trans (exec_keeps _ _ t h)
  · exact idle_keeps s t h

/-- Settles O57: lead and buffers are kept by every step. -/
theorem everyStepKeepsLeadAndBuffers : Obligations.EveryStepKeepsLeadAndBuffers :=
  fun _ _ h => ⟨(step_keeps h).lead, (step_keeps h).buffers⟩

/-- Settles O58: the report queues and the level conditions, read off the coach side, are kept by every step. -/
theorem everyStepKeepsReportsAndLevelFlags : Obligations.EveryStepKeepsReportsAndLevelFlags := fun s t h =>
  ⟨(step_keeps h).coach.queues, fun hflags => (levelFlagsTrue_iff t).2 ((step_keeps h).coach.flags ((levelFlagsTrue_iff s).1 hflags))⟩

/-- Settles O59: the ranges, read off the coach side, are kept by every step. -/
theorem everyStepKeepsTheRanges : Obligations.EveryStepKeepsTheRanges := fun _ _ h => (step_keeps h).coach.ranges

/-- Settles O60. -/
theorem resetSatisfiesTheInvariants : Obligations.ResetSatisfiesTheInvariants := State.reset_invariants

end Sys2Proof.Machine
end

section
/-! Proofs of the statements on the queue and on device reset (R1; log entries 1, 5 and 31). -/

namespace Sys2Proof.Machine

/-- Settles O1. -/
theorem stepTakesTheFrontCommand : Obligations.StepTakesTheFrontCommand := fun _ _ _ => rfl

/-! ## Device reset (R1) -/

/-- A place of the table after device reset is UNKNOWN and unseeded (R141). -/
theorem sensor_reset (p : PlaceId) : State.reset.coach.sensor p = ⟨.unknown, false, none, none, 0, 0⟩ := by
  simp only [Coach.sensor, State.reset, List.getD_eq_getElem?_getD, List.getElem?_replicate]
  split <;> rfl

/-- Settles O3: the state is State.reset with queue, choices and wires kept, read field by field. -/
theorem deviceResetGivesTheResetValues : Obligations.DeviceResetGivesTheResetValues := by
  intro s
  refine ⟨{ State.reset with pending := s.pending, choices := s.choices, levels := s.levels }, rfl, rfl, rfl, rfl, rfl, rfl, rfl, rfl, ?ports, rfl,
    rfl, rfl, rfl, rfl, sensor_reset, ?lines, rfl, rfl, ?reports⟩
  case ports => intro p; cases p <;> rfl
  case lines =>
    intro i
    match i with
    | 0 | 1 | 2 | 3 => exact ⟨rfl, rfl⟩
  case reports => intro p; cases p <;> exact ⟨rfl, rfl⟩

/-- While RESET is low a command other than the two of RESET itself finds the blocks held (log entry 5). -/
theorem exec_held {i : Instr} {s : State} (h : s.inReset = true) (hreset : i ≠ .deviceReset) (hrelease : ∀ a b, i ≠ .resetRelease a b) :
    exec i s = .next s := by
  cases s
  obtain rfl := h
  cases i with
  | deviceReset => exact absurd rfl hreset
  | resetRelease a b => exact absurd rfl (hrelease a b)
  | _ => rfl

theorem execResetRelease_high {s : State} (h : s.inReset = false) (a b : Bool) : exec (.resetRelease a b) s = .next s := by
  simp [exec, execResetRelease, h]

/-- A page that begins: its fields as they stand, ten bit times of 1250 periods for each character, and the next page 10 s later (R155, R156). -/
theorem Coach.beginPage_eq (e : Env) (c : Coach) :
    c.beginPage e = { c with notices := { c.notices with
      fields := c.pageFields e
      pageDue := false
      sending := some
        ⟨(c.pageFields e).page c.notices.clock, e.now + ((c.pageFields e).page c.notices.clock).length * 12500⟩
      refreshAt := some (e.now + 240000000) } } := by
  simp only [Coach.beginPage, Coach.onNotices, Config.panelBit, Nat.mul_assoc]
  rfl

/-- Settles O4: every block is held while RESET is low; its release is that of the axle, the strip and the first page. -/
theorem resetHoldsThePartUntilItsRelease : Obligations.ResetHoldsThePartUntilItsRelease := by
  refine ⟨fun i s => exec_held, fun s a b => ⟨_, _, rfl, rfl, fun h => execResetRelease_high h a b, fun h => ?released⟩⟩
  case released =>
    simp only [exec, execResetRelease, h, if_true, State.onCoach, Coach.beginPage_eq, State.env, Nat.zero_add]
    rfl

end Sys2Proof.Machine
end

section
/-! Proofs of the statements on the ports: characters, frames, links and transmitters (R35, R176 to R182, R193; log entries 3, 24, 30, 33, 34, 48). -/

namespace Sys2Proof.Machine

open Sys2Proof.Config

/-- A command that is taken only while RESET is high takes its effect then. -/
theorem exec_of_live {s : State} {i : Instr} {f : State → State} (h : s.inReset = false) (hi : exec i s = live s f) : exec i s = .next (f s) :=
  hi.trans (live_running h f)

/-! ## The receiver (R177) -/

/-- What a receiver makes of the characters of a frame so far, the last of them just unescaped: it goes on, or hands over the frame, or drops
it (R177, R193). -/
def completion (withHop : Bool) (chars : List Byte) : Option Receiving × Option Frame :=
  let h := headerLength withHop
  let n := (chars.getD (h - 1) 0).toNat
  if chars.length < h then (some { chars }, none)
  else if 240 < n then (none, none)
  else if chars.length < h + n + 2 then (some { chars }, none)
  else if chars.drop (h + n) = crcChars (chars.take (h + n)) then (none, frameOf withHop (chars.take (h + n)))
  else (none, none)

theorem receive_delimiter (withHop : Bool) (rx : Option Receiving) : receive withHop rx 0x7E#8 = (some {}, none) := rfl

theorem receive_outside (withHop : Bool) {c : Byte} (h : c ≠ 0x7E#8) : receive withHop none c = (none, none) := by
  simp [receive, h]

theorem receive_escape (withHop : Bool) (cs : List Byte) : receive withHop (some ⟨cs, false⟩) 0x7D#8 = (some ⟨cs, true⟩, none) := by
  simp [receive]

/-- A character inside a frame that opens no escape is unescaped and joins the characters of the frame. -/
theorem receive_inside (withHop : Bool) (r : Receiving) {c : Byte} (h : c ≠ 0x7E#8) (hescape : r.escape = true ∨ c ≠ 0x7D#8) :
    receive withHop (some r) c = completion withHop (r.chars ++ [if r.escape then c ^^^ 0x20#8 else c]) := by
  have opens : ¬ (!r.escape && decide (c = 0x7D#8)) = true := by
    rcases hescape with he | hc
    · simp [he]
    · simp [hc]
  simp only [receive, if_neg h, if_neg opens, completion]

theorem receiveAll_append (withHop : Bool) (rx : Option Receiving) (as bs : List Byte) :
    receiveAll withHop rx (as ++ bs)
      = ((receiveAll withHop (receiveAll withHop rx as).1 bs).1,
          (receiveAll withHop rx as).2 ++ (receiveAll withHop (receiveAll withHop rx as).1 bs).2) := by
  induction as generalizing rx with
  | nil => rfl
  | cons a as ih => simp [receiveAll, ih, List.append_assoc]

/-- The wire form of one character of a frame is received as that character. -/
theorem receiveAll_escapeChar (withHop : Bool) (cs : List Byte) (b : Byte) :
    receiveAll withHop (some ⟨cs, false⟩) (escapeChar b)
      = ((completion withHop (cs ++ [b])).1, (completion withHop (cs ++ [b])).2.toList) := by
  by_cases hb : b = 0x7E#8 ∨ b = 0x7D#8
  · have back : b ^^^ 0x20#8 ≠ 0x7E#8 := by rcases hb with rfl | rfl <;> decide
    have twice : b ^^^ 0x20#8 ^^^ 0x20#8 = b := by rw [BitVec.xor_assoc, BitVec.xor_self, BitVec.xor_zero]
    simp [escapeChar, hb, receiveAll, receive_escape, receive_inside withHop ⟨cs, true⟩ back, twice]
  · obtain ⟨h7E, h7D⟩ := not_or.1 hb
    simp [escapeChar, hb, receiveAll, receive_inside withHop ⟨cs, false⟩ h7E (.inr h7D)]

/-! ## The characters of a frame (R193) -/

@[simp] theorem crcChars_length (cs : List Byte) : (crcChars cs).length = 2 := rfl

theorem Frame.content_length (withHop : Bool) (f : Frame) : (f.content withHop).length = headerLength withHop + f.payload.length := by
  cases withHop <;> simp [Frame.content, headerLength] <;> omega

/-- The last header character is the length of the payload. -/
theorem Frame.content_lengthChar (withHop : Bool) (f : Frame) (rest : List Byte) :
    (f.content withHop ++ rest).getD (headerLength withHop - 1) 0 = BitVec.ofNat 8 f.payload.length := by
  cases withHop <;> rfl

theorem frameOf_content {withHop : Bool} {f : Frame} (h : withHop = false → f.hop = 0) : frameOf withHop (f.content withHop) = some f := by
  obtain ⟨hop, kind, payload⟩ := f
  cases withHop with
  | true => rfl
  | false => obtain rfl : hop = 0 := h rfl; rfl

/-- A part of the characters of a frame leaves the receiver waiting for the rest. -/
theorem completion_part (withHop : Bool) {f : Frame} (hlength : f.payload.length ≤ 240) {as bs : List Byte}
    (hfull : as ++ bs = f.content withHop ++ crcChars (f.content withHop)) (hbs : bs ≠ []) :
    completion withHop as = (some ⟨as, false⟩, none) := by
  have lengths := congrArg List.length hfull
  simp only [List.length_append, Frame.content_length, crcChars_length] at lengths
  have short : as.length < headerLength withHop + f.payload.length + 2 := by
    have := List.length_pos_iff.2 hbs
    omega
  unfold completion
  dsimp only
  split
  · rfl
  · rename_i hheader
    have header : headerLength withHop - 1 < as.length := by
      cases withHop <;> simp only [headerLength] at hheader ⊢ <;> simp at hheader ⊢ <;> omega
    have known : as.getD (headerLength withHop - 1) 0 = BitVec.ofNat 8 f.payload.length := by
      rw [← f.content_lengthChar withHop (crcChars (f.content withHop)), ← hfull, List.getD_eq_getElem?_getD, List.getD_eq_getElem?_getD,
        List.getElem?_append_left header]
    have count : (BitVec.ofNat 8 f.payload.length).toNat = f.payload.length := by simp; omega
    rw [known, count, if_neg (by omega), if_pos short]

/-- The whole of the characters of a frame hands it over. -/
theorem completion_whole {withHop : Bool} {f : Frame} (hlength : f.payload.length ≤ 240) (hhop : withHop = false → f.hop = 0) :
    completion withHop (f.content withHop ++ crcChars (f.content withHop)) = (none, some f) := by
  have count : (BitVec.ofNat 8 f.payload.length).toNat = f.payload.length := by simp; omega
  have size := f.content_length withHop
  unfold completion
  dsimp only
  rw [Frame.content_lengthChar, count, if_neg (by simp; omega), if_neg (by omega), if_neg (by simp; omega), ← size, List.drop_left,
    List.take_left, if_pos rfl, frameOf_content hhop]

/-- The rest of a frame is received after a part of it, and hands the frame over with its last character. -/
theorem receiveAll_rest {withHop : Bool} {f : Frame} (hlength : f.payload.length ≤ 240) (hhop : withHop = false → f.hop = 0) (bs as : List Byte)
    (hfull : as ++ bs = f.content withHop ++ crcChars (f.content withHop)) (hbs : bs ≠ []) :
    receiveAll withHop (some ⟨as, false⟩) (bs.flatMap escapeChar) = (none, [f]) := by
  induction bs generalizing as with
  | nil => exact absurd rfl hbs
  | cons b bs ih =>
    have joined : as ++ [b] ++ bs = f.content withHop ++ crcChars (f.content withHop) := by simpa using hfull
    rw [List.flatMap_cons, receiveAll_append, receiveAll_escapeChar]
    cases bs with
    | nil =>
      rw [List.append_nil] at joined
      simp [joined, completion_whole hlength hhop, receiveAll]
    | cons b' bs =>
      simp only [completion_part withHop hlength joined (by simp), Option.toList_none, List.nil_append]
      exact ih _ joined (by simp)

theorem receiveAll_wire {withHop : Bool} (rx : Option Receiving) {f : Frame} (hlength : f.payload.length ≤ 240)
    (hhop : withHop = false → f.hop = 0) : receiveAll withHop rx (0x7E#8 :: f.wire withHop) = (none, [f]) := by
  have nonempty : f.content withHop ++ crcChars (f.content withHop) ≠ [] := by simp [crcChars]
  simp only [receiveAll, receive_delimiter, Option.toList_none, List.nil_append]
  exact receiveAll_rest hlength hhop _ [] rfl nonempty

/-- The characters of a header and a payload whose length the header gives are the content of the frame they make. -/
theorem content_of_frameOf {withHop : Bool} {cs : List Byte} {f : Frame} (h : frameOf withHop cs = some f)
    (hcount : cs.length = headerLength withHop + (cs.getD (headerLength withHop - 1) 0).toNat) :
    f.content withHop = cs ∧ f.payload.length = (cs.getD (headerLength withHop - 1) 0).toNat := by
  have lengthChar : ∀ (n : Byte) (payload : List Byte), payload.length = n.toNat → BitVec.ofNat 8 payload.length = n := fun n payload hn => by
    rw [hn, BitVec.ofNat_toNat, BitVec.setWidth_eq]
  unfold frameOf at h
  split at h
  · rename_i hop kind n payload
    cases h
    have same : payload.length = n.toNat := by
      simp [headerLength] at hcount
      omega
    exact ⟨by simp [Frame.content, lengthChar n payload same], same⟩
  · rename_i kind n payload
    cases h
    have same : payload.length = n.toNat := by
      simp [headerLength] at hcount
      omega
    exact ⟨by simp [Frame.content, lengthChar n payload same], same⟩
  · cases h

/-- A frame is handed over only with the whole of its content and the CRC over it. -/
theorem completion_some {withHop : Bool} {cs : List Byte} {x : Option Receiving} {f : Frame} (h : completion withHop cs = (x, some f)) :
    x = none ∧ f.payload.length ≤ 240 ∧ cs = f.content withHop ++ crcChars (f.content withHop) := by
  unfold completion at h
  dsimp only at h
  split at h
  · cases h
  · split at h
    · cases h
    · split at h
      · cases h
      · split at h
        · rename_i hheader hcount hlong hcrc
          obtain ⟨rfl, hframe⟩ := Prod.mk.inj h
          have lengthChar : (cs.take (headerLength withHop + (cs.getD (headerLength withHop - 1) 0).toNat)).getD (headerLength withHop - 1) 0
              = cs.getD (headerLength withHop - 1) 0 := by
            have inside : headerLength withHop - 1 < headerLength withHop + (cs.getD (headerLength withHop - 1) 0).toNat := by
              cases withHop <;> simp only [headerLength] <;> simp <;> omega
            rw [List.getD_eq_getElem?_getD, List.getElem?_take, if_pos inside, ← List.getD_eq_getElem?_getD]
          obtain ⟨hcontent, hpayload⟩ := content_of_frameOf hframe (by rw [lengthChar, List.length_take]; omega)
          rw [lengthChar] at hpayload
          exact ⟨rfl, by omega, by rw [hcontent, ← hcrc, List.take_append_drop]⟩
        · cases h

theorem receive_some {withHop : Bool} {rx x : Option Receiving} {c : Byte} {f : Frame} (h : receive withHop rx c = (x, some f)) :
    c ≠ 0x7E#8 ∧ ∃ r, rx = some r ∧ completion withHop (r.chars ++ [if r.escape then c ^^^ 0x20#8 else c]) = (x, some f) := by
  by_cases hc : c = 0x7E#8
  · rw [hc, receive_delimiter] at h
    cases h
  · refine ⟨hc, ?_⟩
    cases rx with
    | none => rw [receive_outside withHop hc] at h; cases h
    | some r =>
      by_cases hopens : r.escape = false ∧ c = 0x7D#8
      · obtain ⟨hr, rfl⟩ := hopens
        obtain ⟨cs, escape⟩ := r
        obtain rfl : escape = false := hr
        rw [receive_escape] at h
        cases h
      · rw [receive_inside withHop r hc (by simpa [Classical.or_iff_not_imp_left] using hopens)] at h
        exact ⟨r, rfl, h⟩

/-- Settles O5: each wire form is received as its character, and only the whole of a frame with its CRC hands it over. -/
theorem frameRoundTrip : Obligations.FrameRoundTrip := by
  refine ⟨fun withHop rx f hlength hhop => receiveAll_wire rx hlength hhop, fun withHop rx x c f h => ?_⟩
  obtain ⟨hc, r, hr, hcompletion⟩ := receive_some h
  obtain ⟨hx, hlength, hchars⟩ := completion_some hcompletion
  exact ⟨hx, hlength, hc, r, hr, hchars⟩

/-! ## Characters of a line port (R176, R177) -/

/-- A port that has just heard a valid character: the link UP, the silence timed anew, and what its receiver makes of it. -/
def State.heard (q : LinePort) (rx : Option Receiving) (s : State) : State :=
  s.setPort q { s.port q with linkUp := true, silenceAt := s.now + 4800000, rx }

/-- The frames that characters complete, handled in their order. -/
def State.takeFrames (q : LinePort) (fs : List Frame) (s : State) : State := fs.foldl (fun s f => s.takeFrame q f) s

theorem State.lineCharacter_eq (q : LinePort) (s : State) (c : Byte) :
    s.lineCharacter q c
      = (s.heard q (receive true (s.port q).rx c).1).takeFrames q (receive true (s.port q).rx c).2.toList := by
  unfold State.lineCharacter
  dsimp only
  split <;> rename_i h <;> rw [h] <;> rfl

@[simp] theorem State.heard_port (q : LinePort) (rx : Option Receiving) (s : State) :
    (s.heard q rx).port q = { s.port q with linkUp := true, silenceAt := s.now + 4800000, rx } := by simp [State.heard]

@[simp] theorem State.heard_port_other (q : LinePort) (rx : Option Receiving) (s : State) : (s.heard q rx).port q.other = s.port q.other := by
  simp [State.heard]

theorem State.heard_heard (q : LinePort) (rx rx' : Option Receiving) (s : State) : (s.heard q rx).heard q rx' = s.heard q rx' := by
  cases q <;> rfl

/-- A frame is handled without a look at what its port has heard of others. -/
theorem State.takeFrame_heard (q : LinePort) (f : Frame) (rx : Option Receiving) (s : State) :
    (s.takeFrame q f).heard q rx = (s.heard q rx).takeFrame q f := by
  have forwards : ∀ (g : Frame) (s : State), (s.forwardOut q.other g).heard q rx = (s.heard q rx).forwardOut q.other g := fun g s => by
    unfold State.forwardOut
    rw [State.heard_port_other]
    dsimp only
    split <;> cases q <;> rfl
  have joins : ∀ (w : Waiting) (s : State), (s.joinRequests q w).heard q rx = (s.heard q rx).joinRequests q w := fun w s => by
    unfold State.joinRequests
    rw [State.heard_port]
    dsimp only
    split <;> cases q <;> rfl
  unfold State.takeFrame
  split
  · exact forwards _ _
  · split
    · rw [forwards, joins]
    · split
      · exact joins _ _
      · split
        · rfl
        · exact forwards _ _

theorem State.takeFrames_heard (q : LinePort) (fs : List Frame) (rx : Option Receiving) (s : State) :
    (s.takeFrames q fs).heard q rx = (s.heard q rx).takeFrames q fs := by
  induction fs generalizing s with
  | nil => rfl
  | cons f fs ih => rw [State.takeFrames, List.foldl_cons, ← State.takeFrames, ih, State.takeFrame_heard]; rfl

/-- The receiver of the port is none of the frame's business. -/
theorem State.takeFrame_rx (q : LinePort) (f : Frame) (s : State) : ((s.takeFrame q f).port q).rx = (s.port q).rx := by
  have forwards : ∀ (g : Frame) (s : State), ((s.forwardOut q.other g).port q).rx = (s.port q).rx := fun g s => by
    unfold State.forwardOut
    dsimp only
    split
    · cases q <;> rfl
    · rfl
  have joins : ∀ (w : Waiting) (s : State), ((s.joinRequests q w).port q).rx = (s.port q).rx := fun w s => by
    unfold State.joinRequests
    dsimp only
    split
    · cases q <;> rfl
    · rfl
  unfold State.takeFrame
  split
  · exact forwards _ _
  · split
    · rw [forwards, joins]
    · split
      · exact joins _ _
      · split
        · rfl
        · exact forwards _ _

theorem State.takeFrames_rx (q : LinePort) (fs : List Frame) (s : State) : ((s.takeFrames q fs).port q).rx = (s.port q).rx :=
  foldl_keeps (fun s : State => (s.port q).rx) _ (fun s f => s.takeFrame_rx q f) fs s

theorem State.takeFrame_now (q : LinePort) (f : Frame) (s : State) : (s.takeFrame q f).now = s.now := by
  unfold State.takeFrame
  repeat' split
  all_goals simp

theorem State.takeFrames_now (q : LinePort) (fs : List Frame) (s : State) : (s.takeFrames q fs).now = s.now :=
  foldl_keeps State.now _ (fun s f => s.takeFrame_now q f) fs s

/-- Characters in a row, all at one moment: the port has heard the last, and the frames they complete are handled (log entry 33). -/
theorem State.lineCharacters_eq (q : LinePort) (c : Byte) (cs : List Byte) (s : State) :
    (c :: cs).foldl (State.lineCharacter q) s
      = (s.heard q (receiveAll true (s.port q).rx (c :: cs)).1).takeFrames q (receiveAll true (s.port q).rx (c :: cs)).2 := by
  induction cs generalizing c s with
  | nil => simpa [receiveAll] using s.lineCharacter_eq q c
  | cons c' cs ih =>
    rw [List.foldl_cons, ih, State.lineCharacter_eq, State.takeFrames_rx, State.takeFrames_heard, State.heard_heard, State.heard_port]
    simp only [State.takeFrames, ← List.foldl_append]
    rfl

theorem exec_lineFrameReceived {s : State} (h : s.inReset = false) (p : LinePort) {f : Frame} (hlength : f.payload.length ≤ 240) :
    exec (.lineFrameReceived p (f.wire true)) s = .next ((s.heard p none).takeFrame p f) := by
  rw [exec_of_live h (f := fun s => (0x7E#8 :: f.wire true).foldl (State.lineCharacter p) s) rfl, State.lineCharacters_eq,
    receiveAll_wire _ hlength (by simp)]
  rfl

/-! ## Frames by kind and hop (R178 to R182) -/

theorem Frame.isResponse_iff (f : Frame) : f.isResponse = true ↔ 128 ≤ f.kind.toNat := by simp [Frame.isResponse]

theorem State.takeFrame_response {f : Frame} (h : 128 ≤ f.kind.toNat) (q : LinePort) (s : State) : s.takeFrame q f = s.forwardOut q.other f := by
  rw [State.takeFrame, if_pos (f.isResponse_iff.2 h)]

theorem State.takeFrame_request {f : Frame} (h : f.kind.toNat < 128) (q : LinePort) (s : State) :
    s.takeFrame q f = if f.hop = 255 then (s.joinRequests q ⟨true, f.kind, f.payload⟩).forwardOut q.other f
      else if f.hop = 1 then s.joinRequests q ⟨false, f.kind, f.payload⟩
      else if f.hop = 0 then s
      else s.forwardOut q.other { f with hop := f.hop - 1 } := by
  rw [State.takeFrame, if_neg (by rw [Frame.isResponse_iff]; omega)]

@[simp] theorem State.joinRequests_port_other (q : LinePort) (w : Waiting) (s : State) : (s.joinRequests q w).port q.other = s.port q.other := by
  unfold State.joinRequests
  dsimp only
  split <;> simp

/-! ## The crew port (R182) -/

/-- The crew port with what its receiver makes of a valid character. -/
def State.crewHeard (rx : Option Receiving) (s : State) : State := { s with crew := { s.crew with rx } }

/-- The frames that characters complete on the crew port, handled in their order. -/
def State.takeCrewFrames (fs : List Frame) (s : State) : State := fs.foldl (fun s f => s.takeCrewFrame f) s

theorem State.crewCharacter_eq (s : State) (c : Byte) :
    s.crewCharacter c = (s.crewHeard (receive false s.crew.rx c).1).takeCrewFrames (receive false s.crew.rx c).2.toList := by
  unfold State.crewCharacter
  dsimp only
  split <;> rename_i h <;> rw [h] <;> rfl

theorem State.takeCrewFrame_heard (f : Frame) (rx : Option Receiving) (s : State) :
    (s.takeCrewFrame f).crewHeard rx = (s.crewHeard rx).takeCrewFrame f := by
  unfold State.takeCrewFrame
  split
  · rfl
  · unfold State.joinCrew
    split <;> rename_i room
    · rw [if_pos (show (s.crewHeard rx).crew.requests.length < 2 from room)]
      rfl
    · rw [if_neg (show ¬ (s.crewHeard rx).crew.requests.length < 2 from room)]

theorem State.takeCrewFrames_heard (fs : List Frame) (rx : Option Receiving) (s : State) :
    (s.takeCrewFrames fs).crewHeard rx = (s.crewHeard rx).takeCrewFrames fs := by
  induction fs generalizing s with
  | nil => rfl
  | cons f fs ih => rw [State.takeCrewFrames, List.foldl_cons, ← State.takeCrewFrames, ih, State.takeCrewFrame_heard]; rfl

theorem State.takeCrewFrame_rx (f : Frame) (s : State) : (s.takeCrewFrame f).crew.rx = s.crew.rx := by
  unfold State.takeCrewFrame State.joinCrew
  split
  · rfl
  · split <;> rfl

theorem State.takeCrewFrames_rx (fs : List Frame) (s : State) : (s.takeCrewFrames fs).crew.rx = s.crew.rx :=
  foldl_keeps (fun s : State => s.crew.rx) _ (fun s f => s.takeCrewFrame_rx f) fs s

theorem State.crewCharacters_eq (cs : List Byte) (s : State) :
    cs.foldl State.crewCharacter s = (s.crewHeard (receiveAll false s.crew.rx cs).1).takeCrewFrames (receiveAll false s.crew.rx cs).2 := by
  induction cs generalizing s with
  | nil => rfl
  | cons c cs ih =>
    rw [List.foldl_cons, ih, State.crewCharacter_eq, State.takeCrewFrames_rx, State.takeCrewFrames_heard]
    simp only [State.takeCrewFrames, ← List.foldl_append]
    rfl

theorem exec_crewFrameReceived {s : State} (h : s.inReset = false) {f : Frame} (hlength : f.payload.length ≤ 240) (hhop : f.hop = 0) :
    exec (.crewFrameReceived (f.wire false)) s = .next ((s.crewHeard none).takeCrewFrame f) := by
  rw [exec_of_live h (f := fun s => (0x7E#8 :: f.wire false).foldl State.crewCharacter s) rfl, State.crewCharacters_eq,
    receiveAll_wire _ hlength (fun _ => hhop)]
  rfl

theorem hop_predecessor {h : Byte} (two : 2 ≤ h.toNat) : h - 1 = BitVec.ofNat 8 (h.toNat - 1) := by
  have := h.isLt
  apply BitVec.eq_of_toNat_eq
  simp [BitVec.toNat_sub]
  omega

/-- Settles O6: the characters of the frame are heard, then the frame is handled by its kind and hop. -/
theorem frameIsHandledByKindAndHop : Obligations.FrameIsHandledByKindAndHop := by
  refine ⟨fun s p f live hlength => ?_, fun s f live hlength hhop => ?_⟩
  · have taken := exec_lineFrameReceived live p hlength
    have hop : ∀ n : Byte, f.hop = n ↔ f.hop.toNat = n.toNat := fun n => BitVec.toNat_inj.symm
    refine ⟨s.heard p none, fun g v => if (s.port p.other).linkUp = true ∧ (s.port p.other).forward.length < 2
          then v.setPort p.other { s.port p.other with forward := (s.port p.other).forward ++ [g] } else v,
      fun b => (s.heard p none).joinRequests p ⟨b, f.kind, f.payload⟩, rfl, fun _ _ => rfl, fun b => ?_, fun hk => ?_, fun hk hh => ?_,
      fun hk hh => ?_, fun hk hh => ?_, fun hk two _ => ?_⟩
    · simp [State.joinRequests]
    · rw [taken, State.takeFrame_response hk]
      simp [State.forwardOut]
    · rw [taken, State.takeFrame_request hk, if_pos ((hop 255).2 hh)]
      simp [State.forwardOut]
    · have h255 : f.hop ≠ 255 := by rw [Ne, hop]; simp; omega
      rw [taken, State.takeFrame_request hk, if_neg h255, if_pos ((hop 1).2 hh)]
    · have h255 : f.hop ≠ 255 := by rw [Ne, hop]; simp; omega
      have h1 : f.hop ≠ 1 := by rw [Ne, hop]; simp; omega
      rw [taken, State.takeFrame_request hk, if_neg h255, if_neg h1, if_pos ((hop 0).2 hh)]
    · have h255 : f.hop ≠ 255 := by rw [Ne, hop]; simp; omega
      have h1 : f.hop ≠ 1 := by rw [Ne, hop]; simp; omega
      have h0 : f.hop ≠ 0 := by rw [Ne, hop]; simp; omega
      rw [taken, State.takeFrame_request hk, if_neg h255, if_neg h1, if_neg h0, hop_predecessor two]
      simp [State.forwardOut]
  · have taken := exec_crewFrameReceived live hlength hhop
    refine ⟨s.crewHeard none, rfl, fun hk => ?_, fun hk => ?_⟩
    · rw [taken, State.takeCrewFrame, if_pos (f.isResponse_iff.2 hk)]
    · rw [taken, State.takeCrewFrame, if_neg (by rw [Frame.isResponse_iff]; omega), State.joinCrew]
      rfl

/-! ## The link (R35, R176, R179, R180) -/

@[simp] theorem State.takeFrame_coach (q : LinePort) (f : Frame) (s : State) : (s.takeFrame q f).coach = s.coach := by
  unfold State.takeFrame
  repeat' split
  all_goals simp

@[simp] theorem State.takeFrame_consist (q : LinePort) (f : Frame) (s : State) : (s.takeFrame q f).consist = s.consist := by
  unfold State.takeFrame
  repeat' split
  all_goals simp

@[simp] theorem State.takeFrame_crew (q : LinePort) (f : Frame) (s : State) : (s.takeFrame q f).crew = s.crew := by
  unfold State.takeFrame
  repeat' split
  all_goals simp

@[simp] theorem State.takeFrame_params (q : LinePort) (f : Frame) (s : State) : (s.takeFrame q f).params = s.params := by
  unfold State.takeFrame
  repeat' split
  all_goals simp

/-- A port that is heard again is heard as it was before. -/
theorem State.heard_takeFrames_port (q : LinePort) (fs : List Frame) (rx : Option Receiving) (s : State) :
    (((s.heard q rx).takeFrames q fs).port q).linkUp = true ∧ (((s.heard q rx).takeFrames q fs).port q).silenceAt = s.now + 4800000 := by
  rw [← State.takeFrames_heard, State.heard_port, State.takeFrames_now]
  exact ⟨rfl, rfl⟩

/-- What a valid character does to the part: the link of its port is UP and its silence timed anew; the rest of the part is not touched
but for the buffers of the ports. -/
theorem State.lineCharacter_effect (q : LinePort) (c : Byte) (s : State) :
    ((s.lineCharacter q c).port q).linkUp = true ∧ ((s.lineCharacter q c).port q).silenceAt = s.now + 4800000
      ∧ (s.lineCharacter q c).coach = s.coach ∧ (s.lineCharacter q c).consist = s.consist ∧ (s.lineCharacter q c).crew = s.crew
      ∧ (s.lineCharacter q c).params = s.params ∧ (s.lineCharacter q c).now = s.now := by
  rw [State.lineCharacter_eq]
  obtain ⟨hup, hsilence⟩ := s.heard_takeFrames_port q (receive true (s.port q).rx c).2.toList (receive true (s.port q).rx c).1
  refine ⟨hup, hsilence, ?_, ?_, ?_, ?_, ?_⟩
  · exact (foldl_keeps State.coach _ (by simp) _ _).trans (by simp [State.heard])
  · exact (foldl_keeps State.consist _ (by simp) _ _).trans (by simp [State.heard])
  · exact (foldl_keeps State.crew _ (by simp) _ _).trans (by simp [State.heard])
  · exact (foldl_keeps State.params _ (by simp) _ _).trans (by simp [State.heard])
  · rw [State.takeFrames_now]
    simp [State.heard]

theorem exec_validCharacter {s : State} (h : s.inReset = false) (p : LinePort) (c : Byte) :
    exec (.validCharacter p c) s = .next (s.lineCharacter p c) := exec_of_live h (f := fun s => s.lineCharacter p c) rfl

theorem exec_linkUp {s : State} (h : s.inReset = false) {p : LinePort} (hdown : (s.port p).linkUp = false) (c : Byte) :
    exec (.linkUp p c) s = .next (s.lineCharacter p c) := by
  rw [exec_of_live h (f := fun s => if (s.port p).linkUp then s else s.lineCharacter p c) rfl, if_neg (by simp [hdown])]

theorem exec_linkDown {s : State} (h : s.inReset = false) {p : LinePort} (hup : (s.port p).linkUp = true) :
    exec (.linkDown p) s = .next (if s.consist.lead = some p
      then ((s.runTo (s.port p).silenceAt).setPort p (s.port p).down).loseLead
      else (s.runTo (s.port p).silenceAt).setPort p (s.port p).down) := by
  have effect := exec_of_live h (i := .linkDown p) (f := fun s => if (s.port p).linkUp then
      let t := (s.runTo (s.port p).silenceAt).setPort p (s.port p).down
      if t.consist.lead = some p then t.loseLead else t
    else s) rfl
  rw [effect, if_pos hup]
  simp

/-- Settles O7: characters by what the receiver makes of them, then the link that falls silent. -/
theorem charactersHoldTheLink : Obligations.CharactersHoldTheLink := by
  refine ⟨fun s p c live => ⟨⟨_, exec_validCharacter live p c, s.lineCharacter_effect p c⟩, ?_, fun hc hrx => ?_, fun hdown => ⟨?_, ?_⟩, ?_, ?_⟩,
    fun s p live hup => ⟨_, rfl, fun hlead => ?_, fun hlead => ?_⟩⟩
  · rintro rfl
    rw [exec_validCharacter live, State.lineCharacter_eq]
    rfl
  · rw [exec_validCharacter live, State.lineCharacter_eq, hrx, receive_outside true hc, ← hrx]
    rfl
  · rw [exec_linkUp live hdown, exec_validCharacter live]
  · exact ⟨_, exec_linkUp live hdown c, (s.lineCharacter_effect p c).1⟩
  · exact exec_of_live live (f := fun s => s.setPort p { s.port p with rx := none }) rfl
  · exact exec_of_live live (f := fun s => { s with crew := { s.crew with rx := none } }) rfl
  · rw [exec_linkDown live hup, if_neg hlead]
    rfl
  · rw [exec_linkDown live hup, if_pos hlead]
    cases p <;> rfl

/-! ## The transmitters (R176, R177, R180, R182) -/

theorem exec_frameSendStart_line {s : State} (h : s.inReset = false) (p : LinePort) :
    exec (.frameSendStart (.line p)) s = .next (s.setPort p ((s.port p).begin s.now)) :=
  exec_of_live h (f := fun s => s.setPort p ((s.port p).begin s.now)) rfl

theorem exec_frameSendStart_crew {s : State} (h : s.inReset = false) :
    exec (.frameSendStart .crew) s = .next { s with crew := s.crew.begin s.now } :=
  exec_of_live h (f := fun s => { s with crew := s.crew.begin s.now }) rfl

theorem exec_frameSendEnd {s : State} (h : s.inReset = false) {p : Port} {x : Sending} (hx : s.sendingOn p = some x) :
    exec (.frameSendEnd p) s = .next ((s.runTo x.endsAt).freeTransmitter p x) := by
  have effect := exec_of_live h (i := .frameSendEnd p) (f := fun s => match s.sendingOn p with
    | some x => (s.runTo x.endsAt).freeTransmitter p x
    | none => s) rfl
  rw [effect, hx]

theorem exec_idleCharacter {s : State} (h : s.inReset = false) (p : LinePort) :
    exec (.idleCharacter p) s = .next (if (s.port p).quiet
      then (s.runTo (s.port p).idleAt).setPort p
        { s.port p with lastEnd := (s.runTo (s.port p).idleAt).now + 10 * lineBit, lastSent := some idleChar }
      else s) :=
  exec_of_live h (f := fun s => if (s.port p).quiet
      then (s.runTo (s.port p).idleAt).setPort p
        { s.port p with lastEnd := (s.runTo (s.port p).idleAt).now + 10 * lineBit, lastSent := some idleChar }
      else s) rfl

@[simp] theorem State.setPort_self (p : LinePort) (s : State) : s.setPort p (s.port p) = s := by cases p <;> rfl

theorem Frame.lineTime_eq (f : Frame) : f.lineTime = (1 + (f.wire true).length) * 240 := by
  simp [Frame.lineTime, Frame.wireLength, Config.lineBit, Nat.mul_assoc]

theorem PortState.quiet_iff (x : PortState) : x.quiet = true ↔ x.forward = [] ∧ x.responses = [] ∧ x.sending = none := by
  simp [PortState.quiet, and_assoc]

/-- A busy transmitter begins nothing. -/
theorem PortState.begin_busy {x : PortState} (h : x.sending.isSome = true) (now : Nat) : x.begin now = x := by
  obtain ⟨y, hy⟩ := Option.isSome_iff_exists.1 h
  simp [PortState.begin, hy]

/-- A transmitter with nothing waiting begins nothing. -/
theorem PortState.begin_idle {x : PortState} (hf : x.forward = []) (hr : x.responses = []) (now : Nat) : x.begin now = x := by
  have none_waits : x.nextFrame = none := by simp [PortState.nextFrame, hf, hr]
  simp [PortState.begin, none_waits]

theorem PortState.begin_forward {x : PortState} {f : Frame} {fs : List Frame} (hfree : x.sending = none) (hf : x.forward = f :: fs)
    (hr : x.responses = [] ∨ x.lastForward = false) (now : Nat) :
    x.begin now = { x with forward := fs, lastForward := true, sending := some ⟨f, now + (1 + (f.wire true).length) * 240⟩ } := by
  have next : x.nextFrame = some (f, { x with forward := fs, lastForward := true }) := by
    unfold PortState.nextFrame
    rw [hf]
    cases hresponses : x.responses with
    | nil => rfl
    | cons r rs =>
      have hlast : x.lastForward = false := hr.resolve_left (by simp [hresponses])
      simp [hlast]
  simp [PortState.begin, hfree, next, Frame.lineTime_eq]

theorem PortState.begin_response {x : PortState} {f : Frame} {fs : List Frame} (hfree : x.sending = none) (hr : x.responses = f :: fs)
    (hf : x.forward = [] ∨ x.lastForward = true) (now : Nat) :
    x.begin now = { x with responses := fs, lastForward := false, sending := some ⟨f, now + (1 + (f.wire true).length) * 240⟩ } := by
  have next : x.nextFrame = some (f, { x with responses := fs, lastForward := false }) := by
    unfold PortState.nextFrame
    rw [hr]
    cases hforward : x.forward with
    | nil => rfl
    | cons g gs =>
      have hlast : x.lastForward = true := hf.resolve_left (by simp [hforward])
      simp [hlast]
  simp [PortState.begin, hfree, next, Frame.lineTime_eq]

/-- Settles O8: the frame a transmitter takes by the buffers and its mark, then the ends of frames and the idle character. -/
theorem transmitterSendsAndIdles : Obligations.TransmitterSendsAndIdles := by
  refine ⟨?_, fun s live => ⟨fun f fs hfree hf => ⟨_, rfl, ?_⟩, fun x hx => exec_frameSendEnd live (p := .crew) hx⟩⟩
  · rintro s p x live rfl
    refine ⟨fun h => ?_, fun hf hr => ?_, fun f fs hfree hf hr => ?_, fun f fs hfree hr hf => ?_, fun y hy => ?_, fun hf hr hfree => ?_,
      fun h => ?_⟩
    · rw [exec_frameSendStart_line live, PortState.begin_busy h, State.setPort_self]
    · rw [exec_frameSendStart_line live, PortState.begin_idle hf hr, State.setPort_self]
    · rw [exec_frameSendStart_line live, PortState.begin_forward hfree hf hr]
    · rw [exec_frameSendStart_line live, PortState.begin_response hfree hr hf]
    · rw [exec_frameSendEnd live (p := .line p) hy]
      simp only [State.freeTransmitter, State.runTo_port]
      rfl
    · rw [exec_idleCharacter live, if_pos ((s.port p).quiet_iff.2 ⟨hf, hr, hfree⟩)]
      rfl
    · rw [exec_idleCharacter live, if_neg]
      rw [PortState.quiet_iff]
      rintro ⟨hf, hr, hfree⟩
      exact h.elim (· hf) (·.elim (· hr) (· hfree))
  · rw [exec_frameSendStart_crew live]
    simp [CrewState.begin, hfree, hf, Frame.crewTime, Frame.wireLength, Config.crystalHz]

end Sys2Proof.Machine
end

section
/-! Proofs of the statements on requests in general: broadcasts, refusals by port or kind, the lease (R29, R33, R34, R37, R181 to R183). -/

namespace Sys2Proof.Machine

/-! ## What each request does once it is taken (R183) -/

/-- What a request of the catalogue does when it is taken, the lead checks among it, and its answer. -/
def requestBody : Instr → State → State × Reply
  | .claimLead p g u => fun s => withConsist (lineOnly p (claimBody g u) s)
  | .keepLead p => fun s => withConsist (leadOnly p (fun _ s => (s, { status := .accepted })) s)
  | .yieldLead p => fun s => withConsist (leadOnly p (fun q s => (s.yieldLead q, { status := .accepted })) s)
  | .setConsist p n portion g => fun s => withConsist (leadOnly p (fun _ => setConsistBody n portion g) s)
  | .setOrientation p o => leadOnly p fun _ => setOrientationBody o
  | .configure p n v => leadOnly p fun _ => configureBody n v
  | .seatMap p n ds => leadOnly p fun _ => seatMapBody n ds
  | .beginLoad p n => leadOnly p (beginLoadBody n)
  | .stopRecords p first rs => leadOnly p (stopRecordsBody first rs)
  | .endLoad p => leadOnly p endLoadBody
  | .amendStop p r => leadOnly p fun _ => amendStopBody r
  | .readStop p i => lineOnly p fun _ => readStopBody i
  | .reserve p n token boarding alighting => leadOnly p fun _ => reserveBody n { token, boarding, alighting }
  | .cancel p token => leadOnly p fun _ => cancelBody token
  | .release p token => leadOnly p fun _ => releaseBody token
  | .setOutOfUse p n on => leadOrCrew p (setOutOfUseBody n on)
  | .readSeat _ n => readSeatBody n
  | .reseedSeats p n => leadOrCrew p (reseedSeatsBody n)
  | .seatLineControl p r => leadOrCrew p (seatLineControlBody r)
  | .positionFix p position kind stop => leadOnly p fun _ => positionFixBody { position, kind, stop }
  | .postNotice p r => leadOrCrew p (postNoticeBody (Port.isCrew p) r)
  | .cancelNotice p n => leadOrCrew p (cancelNoticeBody (Port.isCrew p) n)
  | .setText p n t => leadOnly p fun _ => setTextBody n t
  | .setClock p m n => leadOnly p fun _ => setClockBody m n
  | .readNotices p first t => lineOnly p fun _ => readNoticesBody first t
  | .readStatus p n => readStatusBody p n
  | .fetchReport p => lineOnly p fetchReportBody
  | .ackConditions p m => lineOnly p (ackConditionsBody m)
  | .setAttentionMask p m => lineOnly p (setAttentionMaskBody m)
  | .restartCoach p => leadOnly p fun _ => restartCoachBody
  | _ => fun s => refuse .badKind s

/-- The command of a request takes and answers what the request does. -/
theorem exec_request {i : Instr} {p : Port} {k : Nat} (h : requestOf i = some (p, k)) (s : State) :
    exec i s = live s (request p k (requestBody i)) := by
  cases i <;> cases h <;> rfl

/-- A request that can be taken is answered on the state it leaves. -/
theorem exec_request_taken {i : Instr} {p : Port} {k : Nat} (h : requestOf i = some (p, k)) {s : State} (htakes : s.takes p) :
    exec i s = .next (State.answer p k (requestBody i (s.renew p)).2.status (requestBody i (s.renew p)).2.results
      (requestBody i (s.renew p)).1) := by
  rw [exec_request h, live_request htakes]

/-! ## Refusals by port (R37, R182, R183) -/

theorem leadOrCrew_other {s : State} {q : LinePort} (h : s.consist.lead ≠ some q) (take : State → State × Reply) :
    leadOrCrew (.line q) take s = refuse .notLead s := by
  simp [leadOrCrew, h]

/-- A request marked lead from a line port that is not lead is refused NOT_LEAD before any other check. -/
theorem requestBody_notLead {i : Instr} {q : LinePort} {k : Nat} (h : requestOf i = some (.line q, k)) (hk : k ∈ leadKinds) {s : State}
    (hother : s.consist.lead ≠ some q) :
    requestBody i s = (s, { status := .notLead, results := if k ≤ 4 then s.consistChars else [] }) := by
  cases i <;> cases h
  case claimLead | readStop | readSeat | readNotices | readStatus | fetchReport | ackConditions | setAttentionMask =>
    simp [leadKinds] at hk
  case keepLead | yieldLead | setConsist => simp [requestBody, withConsist, leadOnly_other hother, refuse]
  case setOutOfUse | reseedSeats | seatLineControl | postNotice | cancelNotice => simp [requestBody, leadOrCrew_other hother, refuse]
  all_goals simp [requestBody, leadOnly_other hother, refuse]

/-- A kind outside the crew subset is refused NOT_PERMITTED on the crew port. -/
theorem requestBody_notPermitted {i : Instr} {k : Nat} (h : requestOf i = some (.crew, k)) (hk : k ∉ [16, 17, 18, 19, 21, 22, 26]) (s : State) :
    requestBody i s = (s, { status := .notPermitted, results := if k ≤ 4 then s.consistChars else [] }) := by
  cases i <;> cases h
  case setOutOfUse | readSeat | reseedSeats | seatLineControl | postNotice | cancelNotice | readStatus => simp at hk
  case claimLead | keepLead | yieldLead | setConsist => simp [requestBody, withConsist, refuse]
  all_goals simp [requestBody, refuse]

theorem exec_badKindRequest {s : State} {p : Port} {kind : Byte} (htakes : s.takes p) (hrequest : requestKind kind = false)
    (hlow : kind.toNat < 128) : exec (.badKindRequest p kind) s = .next (State.answer p kind.toNat .badKind [] (s.renew p)) := by
  have effect : exec (.badKindRequest p kind) s
      = live s (fun s => if requestKind kind ∨ 128 ≤ kind.toNat then s else request p kind.toNat (refuse .badKind) s) := rfl
  have neither : ¬ (requestKind kind = true ∨ 128 ≤ kind.toNat) := by simp [hrequest]; omega
  simp only [effect, if_neg neither]
  exact live_request htakes kind.toNat (refuse .badKind)

/-- Settles O10: each refusal is that of the request's own first check, the lease of the lead port restarted before it. -/
theorem requestsRefusedForTheirPortOrKind : Obligations.RequestsRefusedForTheirPortOrKind := by
  refine ⟨fun s p kind htakes hkind => ?_, fun i q k s h hk htakes hother => ?_, fun i k s h hk htakes => ?_⟩
  · refine exec_badKindRequest htakes ?_ (by omega)
    simp [requestKind]
    omega
  · rw [exec_request_taken h htakes, State.renew_other hother, requestBody_notLead h hk hother]
  · rw [exec_request_taken h htakes, State.renew_crewPort, requestBody_notPermitted h hk]

/-! ## Lead and lease (R33, R34) -/

/-- Lead and lease of two states are the same. -/
def State.SameLead (s t : State) : Prop := t.consist.lead = s.consist.lead ∧ t.consist.lease = s.consist.lease

theorem State.SameLead.refl (s : State) : s.SameLead s := ⟨rfl, rfl⟩

theorem State.SameLead.trans {s t u : State} (h : s.SameLead t) (k : t.SameLead u) : s.SameLead u := ⟨k.1.trans h.1, k.2.trans h.2⟩

theorem judge_sameLead {ks : List (Bool × Status)} {take : State → State × Reply} {s : State} (h : s.SameLead (take s).1) :
    s.SameLead (judge ks take s).1 := by
  obtain ⟨st, -, hrefused⟩ | ⟨-, htaken⟩ := judge_cases ks take s
  · rw [hrefused]; exact .refl s
  · rw [htaken]; exact h

theorem lineOnly_sameLead {p : Port} {take : LinePort → State → State × Reply} {s : State} (h : ∀ q, s.SameLead (take q s).1) :
    s.SameLead (lineOnly p take s).1 := by
  cases p with
  | crew => exact .refl s
  | line q => exact h q

theorem leadOnly_sameLead {p : Port} {take : LinePort → State → State × Reply} {s : State} (h : ∀ q, s.SameLead (take q s).1) :
    s.SameLead (leadOnly p take s).1 :=
  lineOnly_sameLead fun q => by
    split
    · exact h q
    · exact .refl s

theorem leadOrCrew_sameLead {p : Port} {take : State → State × Reply} {s : State} (h : s.SameLead (take s).1) :
    s.SameLead (leadOrCrew p take s).1 := by
  cases p with
  | crew => exact h
  | line q =>
    unfold leadOrCrew
    dsimp only
    split
    · exact h
    · exact .refl s

theorem acceptCoach_sameLead (f : Env → Coach → Coach) (s : State) : s.SameLead (acceptCoach f s).1 := ⟨rfl, rfl⟩

theorem State.setCoachNumber_sameLead (n : Nat) (s : State) : s.SameLead (s.setCoachNumber n) := by
  unfold State.setCoachNumber
  split <;> exact ⟨rfl, rfl⟩

theorem State.setPortion_sameLead (p : Fin 4) (s : State) : s.SameLead (s.setPortion p) := by
  unfold State.setPortion
  dsimp only
  split
  · exact .refl s
  · split <;> exact ⟨rfl, rfl⟩

theorem endLoadBody_sameLead (q : LinePort) (s : State) : s.SameLead (endLoadBody q s).1 := by
  unfold endLoadBody
  split
  · exact .refl s
  · split
    · exact .refl s
    · split <;> exact ⟨rfl, rfl⟩

theorem amendStopBody_sameLead (r : AmendReq) (s : State) : s.SameLead (amendStopBody r s).1 := by
  unfold amendStopBody
  dsimp only
  split
  · exact .refl s
  · split
    · exact .refl s
    · split
      · exact .refl s
      · exact judge_sameLead (acceptCoach_sameLead _ s)

theorem reserveBody_sameLead (n : Nat) (b : Booking) (s : State) : s.SameLead (reserveBody n b s).1 := by
  unfold reserveBody
  dsimp only
  split
  · exact .refl s
  · split
    · exact .refl s
    · split
      · exact .refl s
      · exact judge_sameLead (State.SameLead.trans ⟨rfl, rfl⟩ (judge_sameLead ⟨rfl, rfl⟩))

theorem takeFix_sameLead (f : Fix) (s : State) : s.SameLead (takeFix f s).1 := by
  unfold takeFix
  dsimp only
  split <;> exact ⟨rfl, rfl⟩

/-- A request other than CLAIM LEAD and YIELD LEAD keeps lead and lease as the renewal left them. -/
theorem requestBody_sameLead {i : Instr} {p : Port} {k : Nat} (h : requestOf i = some (p, k)) (hclaim : k ≠ 1) (hyield : k ≠ 3) (s : State) :
    s.SameLead (requestBody i s).1 := by
  cases i <;> cases h
  case claimLead => exact absurd rfl hclaim
  case yieldLead => exact absurd rfl hyield
  case keepLead => exact leadOnly_sameLead fun _ => .refl s
  case setConsist =>
    exact leadOnly_sameLead fun _ => judge_sameLead ((s.setCoachNumber_sameLead _).trans (State.setPortion_sameLead _ _))
  case setOrientation =>
    refine leadOnly_sameLead fun _ => ?_
    unfold setOrientationBody
    split <;> exact ⟨rfl, rfl⟩
  case configure =>
    refine leadOnly_sameLead fun _ => ?_
    unfold configureBody
    split
    · exact .refl s
    · split <;> exact ⟨rfl, rfl⟩
  case seatMap | setText | setClock => exact leadOnly_sameLead fun _ => judge_sameLead ⟨rfl, rfl⟩
  case beginLoad | stopRecords => exact leadOnly_sameLead fun _ => judge_sameLead ⟨rfl, rfl⟩
  case endLoad => exact leadOnly_sameLead fun q => endLoadBody_sameLead q s
  case amendStop r => exact leadOnly_sameLead fun _ => amendStopBody_sameLead r s
  case readStop n => exact lineOnly_sameLead fun _ => by rw [readStopBody_state]; exact .refl s
  case reserve => exact leadOnly_sameLead fun _ => reserveBody_sameLead _ _ s
  case cancel =>
    refine leadOnly_sameLead fun _ => ?_
    unfold cancelBody
    split <;> exact ⟨rfl, rfl⟩
  case release =>
    refine leadOnly_sameLead fun _ => ?_
    unfold releaseBody
    split
    · exact .refl s
    · exact judge_sameLead ⟨rfl, rfl⟩
  case setOutOfUse | reseedSeats | seatLineControl | postNotice => exact leadOrCrew_sameLead (judge_sameLead ⟨rfl, rfl⟩)
  case readSeat n => rw [requestBody, readSeatBody_state]; exact .refl s
  case positionFix => exact leadOnly_sameLead fun _ => judge_sameLead (takeFix_sameLead _ s)
  case cancelNotice =>
    refine leadOrCrew_sameLead ?_
    unfold cancelNoticeBody
    split
    · exact .refl s
    · exact judge_sameLead ⟨rfl, rfl⟩
  case readNotices => exact lineOnly_sameLead fun _ => judge_sameLead ⟨rfl, rfl⟩
  case readStatus n => rw [requestBody, readStatusBody_state]; exact .refl s
  case fetchReport =>
    refine lineOnly_sameLead fun q => ?_
    unfold fetchReportBody
    split <;> exact ⟨rfl, rfl⟩
  case ackConditions | setAttentionMask => exact lineOnly_sameLead fun _ => ⟨rfl, rfl⟩
  case restartCoach => exact leadOnly_sameLead fun _ => ⟨rfl, rfl⟩

/-- A claim of the lead port, refused or granted, leaves it lead with a whole lease. -/
theorem claimBody_renewed {s : State} {q : LinePort} (hlead : s.consist.lead = some q) (g u : Nat) :
    (claimBody g u q s.renewed).1.consist.lead = some q ∧ (claimBody g u q s.renewed).1.consist.lease = s.wholeLease := by
  have granted : (s.renewed.grant q g u).consist.lead = some q ∧ (s.renewed.grant q g u).consist.lease = s.wholeLease := by
    by_cases hrenewal : s.renewed.consist.renewal q g u = true
    · rw [State.grant_of_renewal hrenewal]; exact ⟨rfl, rfl⟩
    · rw [State.grant_of_change hrenewal]; exact ⟨rfl, rfl⟩
  rw [claimBody_eq]
  split
  · exact ⟨hlead, rfl⟩
  · split
    · exact ⟨hlead, rfl⟩
    · split
      · exact ⟨hlead, rfl⟩
      · exact granted

/-- Every request of the lead port but YIELD LEAD leaves it lead with a whole lease. -/
theorem requestBody_renewed {i : Instr} {q : LinePort} {k : Nat} (h : requestOf i = some (.line q, k)) (hyield : k ≠ 3) {s : State}
    (hlead : s.consist.lead = some q) :
    (requestBody i s.renewed).1.consist.lead = some q ∧ (requestBody i s.renewed).1.consist.lease = s.wholeLease := by
  by_cases hclaim : k = 1
  · subst hclaim
    cases i <;> cases h
    exact claimBody_renewed hlead _ _
  · obtain ⟨samelead, samelease⟩ := requestBody_sameLead h hclaim hyield s.renewed
    exact ⟨samelead.trans hlead, samelease⟩

/-- Every request of another port but CLAIM LEAD leaves lead and lease as they were. -/
theorem requestBody_other_sameLead {i : Instr} {p : Port} {k : Nat} (h : requestOf i = some (p, k)) (hclaim : k ≠ 1) {s : State}
    (hother : s.isLead p = false) : s.SameLead (requestBody i s).1 := by
  by_cases hyield : k = 3
  · cases p with
    | crew => rw [requestBody_notPermitted h (by simp [hyield])]; exact .refl s
    | line q =>
      have notLead : s.consist.lead ≠ some q := by simpa [State.isLead] using hother
      rw [requestBody_notLead h (by simp [hyield, leadKinds]) notLead]
      exact .refl s
  · exact requestBody_sameLead h hclaim hyield s

theorem State.renew_of_other {s : State} {p : Port} (hother : s.isLead p = false) : s.renew p = s := by
  simp [State.renew, hother]

theorem exec_leaseExpiry {s : State} {q : LinePort} {d : Nat} (h : s.inReset = false) (hlead : s.consist.lead = some q)
    (hlease : s.consist.lease = some d) : exec .leaseExpiry s = .next (s.runTo d).loseLead := by
  have effect := exec_of_live h (i := .leaseExpiry) (f := fun s => match s.consist.lead, s.consist.lease with
    | some _, some d => (s.runTo d).loseLead
    | _, _ => s) rfl
  rw [effect, hlead, hlease]

/-- A claim of the current generation while there is no lead is granted as a lead change. -/
theorem State.grant_unled {s : State} (hlead : s.consist.lead = none) (hstaging : s.consist.stagingOwner = none) (q : LinePort) (u : Nat) :
    (s.grant q s.consist.generation u).consist = { s.consist with lead := some q, leadUnit := u, lease := s.wholeLease }
      ∧ ((s.grant q s.consist.generation u).coach.reports q).flags.leadChanged = true
      ∧ (s.grant q s.consist.generation u).coach.reports q.other = s.coach.reports q.other := by
  have change : ¬ s.consist.renewal q s.consist.generation u = true := by simp [Consist.renewal_iff, hlead]
  rw [State.grant_of_change change]
  refine ⟨by simp [State.grantedConsist, hstaging], ?_, ?_⟩
  · cases q <;> rfl
  · cases q <;> simp [LinePort.other, Coach.reports, hlead]

/-- Settles O13: lead and lease by the port of the request; then the lease runs out, and a claim of the same generation is a change. -/
theorem requestsOfTheLeadRestartTheLease : Obligations.RequestsOfTheLeadRestartTheLease := by
  refine ⟨fun i p k s h htakes => ⟨?_, fun hother hclaim => ?_⟩, fun s q d live hlead hlease => ?_⟩
  · rintro q rfl hlead hyield
    obtain ⟨hkept, hwhole⟩ := requestBody_renewed h hyield hlead
    refine ⟨_, exec_request_taken h htakes, ?_, ?_⟩
    · rw [State.answer_consist, State.renew_lead hlead, hkept]
    · rw [State.answer_consist, State.renew_lead hlead, hwhole]
      rfl
  · obtain ⟨samelead, samelease⟩ := requestBody_other_sameLead h hclaim hother
    refine ⟨_, exec_request_taken h htakes, ?_, ?_⟩
    · rw [State.answer_consist, State.renew_of_other hother, samelease]
    · rw [State.answer_consist, State.renew_of_other hother, samelead]
  · refine ⟨(s.runTo d).loseLead, rfl, exec_leaseExpiry live hlead hlease, fun p u hplace hup => ?_⟩
    have htakes : (s.runTo d).loseLead.takes (.line p) := ⟨live, by cases p <;> exact hplace⟩
    have hlinked : ((s.runTo d).loseLead.port p).linkUp = true := by cases p <;> exact hup
    have granted := exec_claimLead_granted (u := u) htakes hlinked (.inr ⟨rfl, by simp⟩)
    obtain ⟨hconsist, hchanged, hkept⟩ := State.grant_unled (s := (s.runTo d).loseLead) rfl rfl p u
    refine ⟨_, granted, ?_, ?_, ?_⟩
    · rw [State.answer_consist]
      exact hconsist
    · rw [State.answer_coach]
      exact hchanged
    · rw [State.answer_coach]
      exact hkept

/-! ## Broadcasts (R181) -/

/-- What a request does is a change of the coach side, worked out from the coach side and its environment. -/
def OnCoachAlone (take : State → State × Reply) : Prop := ∃ f : Env → Coach → Coach, ∀ s : State, (take s).1 = s.onCoach f

/-- A judged request is a change of the coach side if what it does is, and its checks read the coach side alone. -/
theorem OnCoachAlone.judge {checks : Env → Coach → List (Bool × Status)} {take : State → State × Reply} (h : OnCoachAlone take) :
    OnCoachAlone fun s => judge (checks s.env s.coach) take s := by
  obtain ⟨f, hf⟩ := h
  refine ⟨fun e c => if ((checks e c).find? Prod.fst).isSome then c else f e c, fun s => ?_⟩
  unfold Machine.judge
  cases hfind : (checks s.env s.coach).find? Prod.fst with
  | some k => simp [State.onCoach, hfind, refuse]
  | none => simp [State.onCoach, hfind, hf]

theorem OnCoachAlone.leadOnly {q : LinePort} {take : LinePort → State → State × Reply} (h : OnCoachAlone (take q)) :
    OnCoachAlone (leadOnly (.line q) take) := by
  obtain ⟨f, hf⟩ := h
  refine ⟨fun e c => if e.lead = some q then f e c else c, fun s => ?_⟩
  by_cases hlead : s.consist.lead = some q
  · rw [leadOnly_lead hlead, hf]
    simp [State.onCoach, State.env, hlead]
  · rw [leadOnly_other hlead]
    simp [State.onCoach, State.env, hlead, refuse]

theorem OnCoachAlone.leadOrCrew {q : LinePort} {take : State → State × Reply} (h : OnCoachAlone take) :
    OnCoachAlone (leadOrCrew (.line q) take) := OnCoachAlone.leadOnly (take := fun _ => take) h

theorem acceptCoach_onCoachAlone (f : Env → Coach → Coach) : OnCoachAlone (acceptCoach f) := ⟨f, fun _ => rfl⟩

theorem setClockBody_onCoachAlone (m n : Nat) : OnCoachAlone (setClockBody m n) :=
  OnCoachAlone.judge (checks := fun _ _ => _) (acceptCoach_onCoachAlone _)

theorem setTextBody_onCoachAlone (n : Nat) (t : List Byte) : OnCoachAlone (setTextBody n t) :=
  OnCoachAlone.judge (checks := fun _ _ => _) (acceptCoach_onCoachAlone _)

theorem postNoticeBody_onCoachAlone (crew : Bool) (r : NoticeReq) : OnCoachAlone (postNoticeBody crew r) := by
  refine OnCoachAlone.judge (checks := fun e c =>
    [ (noticeOutside r, .badField), (noticeStopMissing r, .badField), (r.stop.any (c.unknownStop e.portion), .unknownStop),
      ((c.stopOf r.stop).any fun (x : StopRec) => x.status.past, .pastStop), (20 ≤ c.notices.posted, .queueFull) ]) (take := _) ?_
  exact ⟨Coach.postNotice (postedNotice crew r), fun _ => rfl⟩

/-- What a request frame spells is a request of its port and kind. -/
theorem requestOf_readRequest {p : Port} {k : Nat} {payload : List Byte} {i : Instr} (h : readRequest p k payload = some i) :
    requestOf i = some (p, k) := by
  unfold readRequest at h
  repeat' split at h
  all_goals first
    | (cases h; done)
    | (obtain rfl := Option.some.inj h; rfl)
    | (obtain ⟨_, _, rfl⟩ := Option.map_eq_some_iff.1 h; rfl)

theorem decodeRequest_cmd {p : Port} {kind : Byte} {payload : List Byte} {i : Instr} (h : decodeRequest p kind payload = .cmd i) :
    requestOf i = some (p, kind.toNat) := by
  unfold decodeRequest at h
  split at h
  · split at h
    · cases h
      exact requestOf_readRequest ‹_›
    · cases h
  · cases h

/-- A broadcast that is one of the three taken is what the request of its port is, the coach side alone. -/
theorem broadcastBody_request {q : LinePort} {k : Nat} {i : Instr} (h : requestOf i = some (.line q, k)) (hk : k ∈ [21, 23, 24]) :
    broadcastBody q (.cmd i) = requestBody i ∧ OnCoachAlone (requestBody i) := by
  cases i <;> cases h
  case postNotice r => exact ⟨rfl, OnCoachAlone.leadOrCrew (postNoticeBody_onCoachAlone _ r)⟩
  case setText n t => exact ⟨rfl, OnCoachAlone.leadOnly (setTextBody_onCoachAlone n t)⟩
  case setClock m n => exact ⟨rfl, OnCoachAlone.leadOnly (setClockBody_onCoachAlone m n)⟩
  all_goals simp at hk

/-- A broadcast of another kind has no effect. -/
theorem broadcastBody_other {q : LinePort} {k : Nat} {i : Instr} (h : requestOf i = some (.line q, k)) (hk : k ∉ [21, 23, 24]) (s : State) :
    broadcastBody q (.cmd i) s = refuse .badKind s := by
  cases i <;> cases h
  case postNotice | setText | setClock => simp at hk
  all_goals rfl

theorem exec_broadcastTaken {s : State} (h : s.inReset = false) (p : LinePort) (kind : Byte) (payload : List Byte) :
    exec (.broadcastTaken p kind payload) s = .next (broadcastBody p (decodeRequest (.line p) kind payload) s).1 :=
  exec_of_live h (f := fun s => (broadcastBody p (decodeRequest (.line p) kind payload) s).1) rfl

/-- The request itself, taken from a state with the same coach side and environment, has the effect of the broadcast there. -/
theorem broadcast_as_request {s t : State} {p : LinePort} {kind : Byte} {payload : List Byte} {i : Instr} (live : s.inReset = false)
    (hi : decodeRequest (.line p) kind payload = .cmd i) (hk : kind.toNat ∈ [21, 23, 24]) (htakes : t.takes (.line p)) (henv : t.env = s.env)
    (hcoach : t.coach = s.coach) :
    ∃ u, exec i t = .next u ∧ exec (.broadcastTaken p kind payload) s = .next { s with coach := u.coach } := by
  have h := decodeRequest_cmd hi
  obtain ⟨hsame, f, hf⟩ := broadcastBody_request h hk
  refine ⟨_, exec_request_taken h htakes, ?_⟩
  rw [exec_broadcastTaken live, hi, hsame, State.answer_coach, hf, hf]
  simp [State.onCoach, henv, hcoach]

/-- Settles O9: the broadcast and the request of its port have the same effect on the coach side; every other broadcast has none. -/
theorem broadcastTakenAsRequestWithoutAnswer : Obligations.BroadcastTakenAsRequestWithoutAnswer := by
  refine fun s p kind payload live => ⟨fun i hi hk hplace => ?_, fun i hi hk => ?_, fun hk => ?_, fun hmisfit => ?_⟩
  · exact broadcast_as_request live hi hk ⟨live, hplace⟩ rfl rfl
  · refine broadcast_as_request live hi hk ⟨by simpa using live, by simp [State.hasPlace, State.responses]⟩ ?_ (by simp)
    cases p <;> rfl
  · rw [exec_broadcastTaken live]
    cases hdecoded : decodeRequest (.line p) kind payload with
    | cmd i => rw [broadcastBody_other (decodeRequest_cmd hdecoded) hk]; rfl
    | badKind => rfl
    | badLayout => rfl
  · rw [exec_broadcastTaken live]
    cases hdecoded : decodeRequest (.line p) kind payload with
    | cmd i => exact absurd hdecoded (hmisfit i)
    | badKind => rfl
    | badLayout => rfl

end Sys2Proof.Machine
end

section
/-! Proofs of the statements on the notice unit: its steps, one by one (R142 to R151, R157, R158). -/

namespace Sys2Proof.Machine

open Sys2Proof.Config

/-! ## Reports (R187) -/

theorem Coach.raise_reports (e : Env) (r : Report) (c : Coach) (p : LinePort) :
    (c.raise e r).reports p = if e.routes p then (c.reports p).push r else c.reports p := by
  cases p <;> rfl

/-- Several reports are raised on the ports that one would be raised on. -/
theorem Coach.raiseAll_reports (e : Env) (rs : List Report) (c : Coach) (p : LinePort) :
    (Coach.raiseAll e rs c).reports p = if e.routes p then rs.foldl PortReports.push (c.reports p) else c.reports p := by
  induction rs generalizing c with
  | nil => simp [Coach.raiseAll]
  | cons r rs ih =>
    rw [show Coach.raiseAll e (r :: rs) c = Coach.raiseAll e rs (c.raise e r) from rfl, ih, Coach.raise_reports]
    split <;> rfl

/-- Raising reports changes the reports alone. -/
theorem Coach.raiseAll_eq (e : Env) (rs : List Report) (c : Coach) :
    Coach.raiseAll e rs c = { c with reportsA := (Coach.raiseAll e rs c).reportsA, reportsB := (Coach.raiseAll e rs c).reportsB } := by
  induction rs generalizing c with
  | nil => rfl
  | cons r rs ih => exact ih (c.raise e r)

/-! ## Stops of notices -/

theorem Coach.stopOf_eq_some {c : Coach} {k : Option Nat} {r : StopRec} :
    c.stopOf k = some r ↔ ∃ code i, k = some code ∧ findCode c.journey.list code = some i ∧ c.journey.list[i]? = some r := by
  simp [Coach.stopOf, recordAt, Option.bind_eq_some_iff]

theorem StopStatus.past_iff (st : StopStatus) : st.past = true ↔ st = .departed ∨ st = .passed ∨ st = .runThrough := by
  cases st <;> simp [StopStatus.past]

theorem StopStatus.left_iff (st : StopStatus) : st.left = true ↔ st = .departed ∨ st = .runThrough := by
  cases st <;> simp [StopStatus.left]

/-! ## Kinds of change (R145, R149) -/

theorem NoticeChange.regenerates_iff (g : NoticeChange) :
    g.regenerates = true ↔ (∃ code, g = .departure code ∨ g = .runThrough code) ∨ g = .commit true ∨ g = .commit false ∨ g = .amendment := by
  cases g
  case commit b => cases b <;> simp [NoticeChange.regenerates]
  all_goals simp [NoticeChange.regenerates]

theorem NoticeChange.arms_iff (g : NoticeChange) :
    g.arms = true ↔ g = .position ∨ (∃ code, g = .arrival code ∨ g = .departure code ∨ g = .runThrough code) ∨ g = .commit true
      ∨ g = .commit false ∨ g = .amendment ∨ g = .posted := by
  cases g
  case commit b => cases b <;> simp [NoticeChange.arms]
  all_goals simp [NoticeChange.arms]

theorem NoticeChange.isList_iff (g : NoticeChange) : g.isList = true ↔ g = .commit true ∨ g = .commit false ∨ g = .amendment := by
  cases g
  case commit b => cases b <;> simp [NoticeChange.isList]
  all_goals simp [NoticeChange.isList]

/-- A change that ends no entry of itself and regenerates none. -/
def NoticeChange.plain : NoticeChange → Bool
  | .position | .posted | .clockSet | .textSet _ | .other => true
  | _ => false

/-! ## Entries that end (R143, R148, R150) -/

/-- What ends leaves the queue, with its hold where it is SHOWN, and is reported where it is the lead's. -/
theorem Coach.endNotices_eq (e : Env) (cause : Notice → Option Nat) (c : Coach) :
    c.endNotices e cause = { c with
      reportsA := (c.endNotices e cause).reportsA
      reportsB := (c.endNotices e cause).reportsB
      notices := { c.notices with
        queue := c.notices.queue.filter fun n => cause n = none
        hold := if c.notices.shown.any fun n => cause n ≠ none then none else c.notices.hold } } := by
  have left : (fun n => !(cause n).isSome) = fun n => decide (cause n = none) := by funext n; cases cause n <;> rfl
  have shown : (fun n => (cause n).isSome) = fun n => decide (cause n ≠ none) := by funext n; cases cause n <;> rfl
  have dropped : c.notices.drop (fun n => (cause n).isSome) = { c.notices with
      queue := c.notices.queue.filter fun n => cause n = none
      hold := if c.notices.shown.any fun n => cause n ≠ none then none else c.notices.hold } := by
    rw [NoticeUnit.drop, left, shown]
  unfold Coach.endNotices
  rw [dropped]
  exact Coach.raiseAll_eq _ _ _

/-- The report of an entry that ends, where it is the lead's. -/
def endReport (c : Coach) (cause : Notice → Option Nat) (n : Notice) : Option Report :=
  if n.source = .lead then (cause n).map fun k =>
    ⟨.noticeEnded, n.stop, none, none, c.position.estimate / 65536000, .none, some (k * 256 + n.id : Nat)⟩ else none

theorem flatMap_eq_filterMap {α β : Type} {f : α → List β} {g : α → Option β} (h : ∀ a, f a = (g a).toList) :
    ∀ l : List α, l.flatMap f = l.filterMap g
  | [] => rfl
  | a :: l => by
    rw [List.flatMap_cons, h, flatMap_eq_filterMap h l, List.filterMap_cons]
    cases g a <;> rfl

theorem Coach.endNotices_reports (e : Env) (cause : Notice → Option Nat) (c : Coach) (p : LinePort) :
    (c.endNotices e cause).reports p = (Coach.raiseAll e (c.notices.queue.filterMap (endReport c cause)) c).reports p := by
  have raised : (c.notices.queue.flatMap fun n => ((cause n).map fun k => endedReport c k n).getD [])
      = c.notices.queue.filterMap (endReport c cause) := by
    refine flatMap_eq_filterMap (fun n => ?_) _
    unfold endReport
    cases hcause : cause n with
    | none => split <;> rfl
    | some k =>
      simp only [Option.map_some, Option.getD_some, endedReport]
      split <;> rfl
  unfold Coach.endNotices
  rw [raised, Coach.raiseAll_reports, Coach.raiseAll_reports]
  cases p <;> rfl

/-- Where nothing ends, nothing changes. -/
theorem Coach.endNotices_self (e : Env) {cause : Notice → Option Nat} {c : Coach} (h : ∀ n ∈ c.notices.queue, cause n = none) :
    c.endNotices e cause = c := by
  have kept : (c.notices.queue.filter fun n => cause n = none) = c.notices.queue := List.filter_eq_self.2 (by simpa using h)
  have hold : (if c.notices.shown.any fun n => cause n ≠ none then none else c.notices.hold) = c.notices.hold := by
    refine if_neg ?_
    cases hshown : c.notices.shown with
    | none => simp
    | some n => simp [h n (List.mem_of_find?_eq_some hshown)]
  obtain ⟨hA, hB⟩ := Coach.endNotices_none e c h
  rw [Coach.endNotices_eq, kept, hold, hA, hB]

theorem endCause_ne_none_iff (g : NoticeChange) (n : Notice) :
    endCause g n ≠ none ↔ (∃ code, g = .arrival code ∧ n.ends = .atArrival ∧ n.stop = some code)
      ∨ (∃ code, (g = .departure code ∨ g = .runThrough code) ∧ n.ends = .onDeparture ∧ n.stop = some code) ∨ ∃ k, g = .ended n.id k := by
  cases g
  case ended k cause => simp [endCause, eq_comm]
  all_goals simp [endCause]

theorem endCause_departed {g : NoticeChange} {n : Notice} {code : Nat} (h : g = .departure code ∨ g = .runThrough code)
    (hends : endCause g n ≠ none) : endCause g n = some 3 := by
  rcases h with rfl | rfl <;> simp only [endCause] at hends ⊢ <;> split at hends <;> simp_all

theorem endCause_ended (n : Notice) (k : Nat) : endCause (.ended n.id k) n = some k := by simp [endCause]

theorem endCause_plain {g : NoticeChange} (h : g.plain = true) (n : Notice) : endCause g n = none := by
  cases g <;> first | rfl | simp [NoticeChange.plain] at h

/-- A posted entry of a stop, at a list change. -/
theorem listCause_list (e : Env) (c : Coach) {g : NoticeChange} (hg : g.isList = true) {n : Notice} {code : Nat} (hsource : n.source ≠ .auto)
    (hstop : n.stop = some code) :
    listCause e c g n = match c.stopOf (some code) with
      | none => some 4
      | some r => if ¬ r.callsAt e.portion then some 4
          else if n.ends = .onDeparture ∧ r.status.left then some 3
          else if n.state = .waiting ∧ n.arm.namesStop ∧ r.status.left then some 5
          else none := by
  unfold listCause
  rw [if_neg hsource, hstop]
  cases g <;> first | rfl | simp [NoticeChange.isList] at hg

theorem listCause_runThrough (e : Env) (c : Coach) (k : Nat) {n : Notice} {code : Nat} (hsource : n.source ≠ .auto) (hstop : n.stop = some code) :
    listCause e c (.runThrough k) n = if n.state = .waiting ∧ n.arm = .atStop ∧ k = code then some 5 else none := by
  unfold listCause
  rw [if_neg hsource, hstop]

/-- No other change ends an entry by the list test. -/
theorem listCause_none (e : Env) (c : Coach) {g : NoticeChange} (hlist : g.isList = false) (hrun : ∀ k, g ≠ .runThrough k) (n : Notice) :
    listCause e c g n = none := by
  unfold listCause
  split
  · rfl
  · split
    · rfl
    · cases g
      case runThrough k => exact absurd rfl (hrun k)
      all_goals first | rfl | simp [NoticeChange.isList] at hlist

theorem listCause_unposted (e : Env) (c : Coach) (g : NoticeChange) {n : Notice} (h : n.source = .auto ∨ n.stop = none) :
    listCause e c g n = none := by
  unfold listCause
  rcases h with h | h
  · rw [if_pos h]
  · rw [h]
    split <;> rfl

theorem ArmCondition.namesStop_iff (a : ArmCondition) : a.namesStop = true ↔ a ≠ .atOnce := by cases a <;> simp [ArmCondition.namesStop]

/-! ## The queue step (R145) -/

theorem Coach.noticeQueueStep_cleared (e : Env) (c : Coach) :
    c.noticeQueueStep e .cleared = { c with notices := { c.notices with queue := [], hold := none } } := rfl

theorem Coach.noticeQueueStep_eq (e : Env) {g : NoticeChange} (h : g ≠ .cleared) (c : Coach) :
    c.noticeQueueStep e g
      = if g.regenerates then ((c.endNotices e (endCause g)).endNotices e (listCause e (c.endNotices e (endCause g)) g)).regenerate e g
        else (c.endNotices e (endCause g)).endNotices e (listCause e (c.endNotices e (endCause g)) g) := by
  cases g <;> first | rfl | exact absurd rfl h

/-- A plain change leaves the coach as it was until the arm test. -/
theorem Coach.noticeQueueStep_plain (e : Env) {g : NoticeChange} (h : g.plain = true) (c : Coach) : c.noticeQueueStep e g = c := by
  have hlist : g.isList = false := by cases g <;> first | rfl | simp [NoticeChange.plain] at h
  have hrun : ∀ k, g ≠ .runThrough k := by rintro k rfl; simp [NoticeChange.plain] at h
  have hcleared : g ≠ .cleared := by rintro rfl; simp [NoticeChange.plain] at h
  have hregenerates : ¬ g.regenerates = true := by cases g <;> simp [NoticeChange.regenerates, NoticeChange.plain] at h ⊢
  rw [Coach.noticeQueueStep_eq e hcleared, if_neg hregenerates, Coach.endNotices_self e fun n _ => endCause_plain h n,
    Coach.endNotices_self e fun n _ => listCause_none e c hlist hrun n]

/-- An entry that is ended by its id leaves the queue with every entry of that id, and its hold with it. -/
theorem Coach.noticeQueueStep_ended (e : Env) (k cause : Nat) (c : Coach) :
    c.noticeQueueStep e (.ended k cause) = c.endNotices e (endCause (.ended k cause)) := by
  rw [Coach.noticeQueueStep_eq e (by simp), if_neg (by simp [NoticeChange.regenerates])]
  exact Coach.endNotices_self e fun n _ => listCause_none e _ rfl (by simp) n

/-! ## One change, step by step (R145) -/

/-- The coach after the arm test of a change. -/
def Coach.armedFor (e : Env) (g : NoticeChange) (c : Coach) : Coach :=
  if g.arms then (c.noticeQueueStep e g).armNotices e g else c.noticeQueueStep e g

/-- The coach after the door-side outputs of a change. -/
def Coach.litFor (e : Env) (g : NoticeChange) (c : Coach) : Coach := ((c.armedFor e g).selectNotice e).evalDoors

/-- The coach after the page of a change. -/
def Coach.pagedFor (e : Env) (g : NoticeChange) (c : Coach) : Coach :=
  (c.litFor e g).evalPage e ((c.armedFor e g).notices.selected.isSome || ((c.armedFor e g).selectNotice e).callsForPage g)

theorem Coach.notice_eq (e : Env) (g : NoticeChange) (c : Coach) :
    c.notice e g = if (c.pagedFor e g).notices.seatNotices = c.notices.seatNotices then c.pagedFor e g else (c.pagedFor e g).refresh e := rfl

theorem Coach.notice_notices (e : Env) (g : NoticeChange) (c : Coach) : (c.notice e g).notices = (c.pagedFor e g).notices := by
  rw [Coach.notice_eq]
  split
  · rfl
  · simp [Coach.refresh, foldl_keeps Coach.notices (fun (d : Coach) (s : Seat) => d.contentChange s.line s.module) (fun _ _ => rfl)]

/-! ## Selection (R151, R152) -/

/-- What the selection makes of an entry. -/
def Notice.chosenBy (e : Env) (sel : Option Notice) (n : Notice) : Notice :=
  match sel with
  | some x =>
    if n.id = x.id then { n with state := .shown, lastShown := some e.noticeTime, firstShown := some (n.firstShown.getD e.noticeTime) }
    else if n.state = .shown then { n with state := .armed }
    else n
  | none => n

theorem Coach.selectNotice_none {e : Env} {c : Coach} (h : c.notices.selected = none) : c.selectNotice e = c := by
  simp [Coach.selectNotice, h]

theorem Coach.selectNotice_some {e : Env} {c : Coach} {x : Notice} (h : c.notices.selected = some x) :
    c.selectNotice e = { c with notices := c.notices.showEntry e x } := by
  simp [Coach.selectNotice, h]

theorem Coach.selectNotice_queue (e : Env) (c : Coach) :
    (c.selectNotice e).notices.queue = c.notices.queue.map (Notice.chosenBy e c.notices.selected) := by
  cases h : c.notices.selected with
  | none =>
    rw [Coach.selectNotice_none h, show Notice.chosenBy e none = id from rfl, List.map_id]
  | some x =>
    rw [Coach.selectNotice_some h]
    rfl

/-- An entry after the arm test. -/
def Notice.armedIn (e : Env) (g : NoticeChange) (c : Coach) (n : Notice) : Notice :=
  if n.state = .waiting ∧ armHolds c g n then { n with state := .armed, armedAt := some e.noticeTime } else n

theorem Coach.armNotices_queue (e : Env) (g : NoticeChange) (c : Coach) :
    (c.armNotices e g).notices.queue = c.notices.queue.map (Notice.armedIn e g c) := rfl

/-- The queue that a change leaves, from that of the queue step. -/
theorem Coach.notice_queue (e : Env) (g : NoticeChange) (c : Coach) :
    (c.notice e g).notices.queue
      = (c.armedFor e g).notices.queue.map (Notice.chosenBy e (c.armedFor e g).notices.selected) := by
  rw [Coach.notice_notices, ← Coach.selectNotice_queue]
  rfl

/-- An entry without what the arm test and the selection write. -/
def Notice.fixed (n : Notice) : Notice := { n with state := .waiting, armedAt := none, lastShown := none, firstShown := none }

theorem Notice.fixed_chosenBy (e : Env) (sel : Option Notice) (n : Notice) : (n.chosenBy e sel).fixed = n.fixed := by
  unfold Notice.chosenBy
  split
  · split
    · rfl
    · split <;> rfl
  · rfl

theorem Notice.fixed_armedIn (e : Env) (g : NoticeChange) (c : Coach) (n : Notice) : (n.armedIn e g c).fixed = n.fixed := by
  unfold Notice.armedIn
  split <;> rfl

/-- The arm test and the selection leave every entry in its place, with all but its state and its times. -/
theorem Coach.notice_queue_fixed (e : Env) (g : NoticeChange) (c : Coach) :
    (c.notice e g).notices.queue.map Notice.fixed = (c.noticeQueueStep e g).notices.queue.map Notice.fixed := by
  have chosen : Notice.fixed ∘ Notice.chosenBy e (c.armedFor e g).notices.selected = Notice.fixed :=
    funext (Notice.fixed_chosenBy e _)
  rw [Coach.notice_queue, List.map_map, chosen]
  unfold Coach.armedFor
  split
  · rw [Coach.armNotices_queue, List.map_map]
    exact congrArg (List.map · _) (funext (Notice.fixed_armedIn e g _))
  · rfl

/-- The ids of a queue are among what the arm test and the selection leave. -/
theorem Coach.notice_queue_ids (e : Env) (g : NoticeChange) (c : Coach) :
    (c.notice e g).notices.queue.map Notice.id = (c.noticeQueueStep e g).notices.queue.map Notice.id := by
  have fixed := congrArg (List.map Notice.id) (c.notice_queue_fixed e g)
  rw [List.map_map, List.map_map] at fixed
  exact fixed

/-- An entry that a change leaves was left by the queue step, but for its state and its times. -/
theorem Coach.mem_notice_queue {e : Env} {g : NoticeChange} {c : Coach} {n : Notice} (h : n ∈ (c.notice e g).notices.queue) :
    ∃ m ∈ (c.noticeQueueStep e g).notices.queue, m.fixed = n.fixed := by
  have fixed : n.fixed ∈ (c.noticeQueueStep e g).notices.queue.map Notice.fixed := by
    rw [← Coach.notice_queue_fixed]
    exact List.mem_map_of_mem h
  simpa only [List.mem_map] using fixed

/-! ## What every change keeps -/

/-- The notice unit without what the steps up to the selection may change. -/
def NoticeUnit.rest (u : NoticeUnit) : NoticeUnit := { u with queue := [], nextId := 0, hold := none, chimeUntil := none }

theorem Coach.endNotices_rest (e : Env) (f : Notice → Option Nat) (c : Coach) : (c.endNotices e f).notices.rest = c.notices.rest := by
  rw [Coach.endNotices_eq]
  rfl

theorem Coach.createKind_rest (e : Env) (c : Coach) (k : NoticeKind) : (c.createKind e k).notices.rest = c.notices.rest := by
  unfold Coach.createKind
  split
  · split <;> rfl
  · rfl

theorem Coach.regenerate_rest (e : Env) (g : NoticeChange) (c : Coach) : (c.regenerate e g).notices.rest = c.notices.rest :=
  (foldl_keeps (fun c : Coach => c.notices.rest) _ (Coach.createKind_rest e) _ _).trans rfl

theorem Coach.noticeQueueStep_rest (e : Env) (g : NoticeChange) (c : Coach) : (c.noticeQueueStep e g).notices.rest = c.notices.rest := by
  by_cases h : g = .cleared
  · subst h; rfl
  · rw [Coach.noticeQueueStep_eq e h]
    split
    · rw [Coach.regenerate_rest, Coach.endNotices_rest, Coach.endNotices_rest]
    · rw [Coach.endNotices_rest, Coach.endNotices_rest]

theorem Coach.armedFor_rest (e : Env) (g : NoticeChange) (c : Coach) : (c.armedFor e g).notices.rest = c.notices.rest := by
  rw [← c.noticeQueueStep_rest e g]
  unfold Coach.armedFor
  split <;> rfl

theorem Coach.selectNotice_rest (e : Env) (c : Coach) : (c.selectNotice e).notices.rest = c.notices.rest := by
  unfold Coach.selectNotice
  split <;> rfl

theorem Coach.chosenFor_rest (e : Env) (g : NoticeChange) (c : Coach) : ((c.armedFor e g).selectNotice e).notices.rest = c.notices.rest :=
  (Coach.selectNotice_rest e _).trans (c.armedFor_rest e g)

/-- What the notice unit keeps at every change: the texts, the clock and its seconds, the page being sent and the refresh. -/
def NoticeUnit.kept (u : NoticeUnit) : List (List Byte) × Option Clock × Option Nat × Option PageSending × Option Nat :=
  (u.texts, u.clock, u.secondAt, u.sending, u.refreshAt)

theorem Coach.notice_kept (e : Env) (g : NoticeChange) (c : Coach) : (c.notice e g).notices.kept = c.notices.kept := by
  rw [Coach.notice_notices]
  have kept := congrArg NoticeUnit.kept (c.chosenFor_rest e g)
  exact kept

/-- A plain change raises no report. -/
theorem Coach.notice_plain_reports (e : Env) {g : NoticeChange} (h : g.plain = true) (c : Coach) :
    (c.notice e g).reportsA = c.reportsA ∧ (c.notice e g).reportsB = c.reportsB := by
  rw [Coach.notice_reportsA, Coach.notice_reportsB, Coach.noticeQueueStep_plain e h]
  exact ⟨rfl, rfl⟩

theorem Coach.notice_reports (e : Env) (g : NoticeChange) (c : Coach) (p : LinePort) :
    (c.notice e g).reports p = (c.noticeQueueStep e g).reports p := by
  cases p
  · exact c.notice_reportsA e g
  · exact c.notice_reportsB e g

/-! ## Ids (R142) -/

/-- The ids that a new entry tries in turn. -/
def NoticeUnit.candidates (u : NoticeUnit) : List Nat := (List.range 256).map fun i => (u.nextId + i) % 256

theorem NoticeUnit.candidates_nodup (u : NoticeUnit) : u.candidates.Nodup := by
  refine List.nodup_iff_pairwise_ne.2 (List.pairwise_map.2 (List.pairwise_lt_range.imp_of_mem fun hi hj hlt => ?_))
  rw [List.mem_range] at hi hj
  omega

/-- With fewer than 256 entries some id is free. -/
theorem NoticeUnit.exists_free {u : NoticeUnit} (h : u.queue.length < 256) : ∃ k ∈ u.candidates, ∀ m ∈ u.queue, m.id ≠ k := by
  refine Classical.byContradiction fun hall => ?_
  have subset : u.candidates ⊆ u.queue.map Notice.id := fun k hk =>
    Classical.byContradiction fun hfree => hall ⟨k, hk, fun m hm hid => hfree (List.mem_map.2 ⟨m, hm, hid⟩)⟩
  have count := u.candidates_nodup.length_le_of_subset subset
  simp [NoticeUnit.candidates] at count
  omega

/-- With fewer than 256 entries a new entry takes the first id from the counter on that no entry holds. -/
theorem NoticeUnit.freshId_first {u : NoticeUnit} (h : u.queue.length < 256) : (∀ m ∈ u.queue, m.id ≠ u.freshId)
    ∧ ∃ k, k < 256 ∧ u.freshId = (u.nextId + k) % 256 ∧ ∀ j, j < k → ∃ m ∈ u.queue, m.id = (u.nextId + j) % 256 := by
  have found : ∃ x, u.candidates.find? (fun k => !u.queue.any fun n => n.id = k) = some x := by
    rw [← Option.isSome_iff_exists, List.find?_isSome]
    obtain ⟨k, hk, hfree⟩ := NoticeUnit.exists_free h
    exact ⟨k, hk, by simpa using hfree⟩
  obtain ⟨x, hx⟩ := found
  have hfresh : u.freshId = x := by
    rw [NoticeUnit.freshId, show ((List.range 256).map fun i => (u.nextId + i) % 256) = u.candidates from rfl, hx]
    rfl
  obtain ⟨hfree, as, bs, hsplit, hbefore⟩ := List.find?_eq_some_iff_append.1 hx
  have place : ∀ j, j < as.length → as[j]? = some ((u.nextId + j) % 256) := fun j hj => by
    have hall : u.candidates[j]? = as[j]? := by rw [hsplit, List.getElem?_append_left hj]
    have size := congrArg List.length hsplit
    simp [NoticeUnit.candidates] at size
    rw [← hall]
    simp [NoticeUnit.candidates, List.getElem?_range (show j < 256 by omega)]
  have at' : u.candidates[as.length]? = some x := by rw [hsplit]; simp
  have inside : as.length < 256 := by
    have size := congrArg List.length hsplit
    simp [NoticeUnit.candidates] at size
    omega
  refine ⟨by rw [hfresh]; simpa using hfree, as.length, inside, ?_, fun j hj => ?_⟩
  · rw [hfresh]
    simpa [NoticeUnit.candidates, List.getElem?_range inside, eq_comm] using at'
  · have taken := hbefore _ (List.mem_of_getElem? (place j hj))
    simpa using taken

end Sys2Proof.Machine
end

section
/-! Proofs of the statements on posting, cancelling and ending notices (R143, R146 to R150). -/

namespace Sys2Proof.Machine

open Sys2Proof.Config

/-! ## POST NOTICE (R146) -/

theorem exec_postNotice {s : State} {p : Port} (h : s.controls p) (r : NoticeReq) :
    exec (.postNotice p r) s = .next (State.answer p 21 (postNoticeBody (Port.isCrew p) r (s.renew p)).2.status
      (postNoticeBody (Port.isCrew p) r (s.renew p)).2.results (postNoticeBody (Port.isCrew p) r (s.renew p)).1) :=
  live_leadOrCrew h 21 (postNoticeBody (Port.isCrew p) r)

/-- The checks of POST NOTICE in order: the values, the stop that a condition names, the stop, its status, the places of the queue. -/
theorem postNoticeBody_eq (crew : Bool) (r : NoticeReq) (s : State) :
    postNoticeBody crew r s
      = if noticeOutside r then refuse .badField s
        else if noticeStopMissing r then refuse .badField s
        else if r.stop.any (s.coach.unknownStop s.consist.portion) then refuse .unknownStop s
        else if (s.coach.stopOf r.stop).any (fun x => x.status.past) then refuse .pastStop s
        else if 20 ≤ s.coach.notices.posted then refuse .queueFull s
        else (s.onCoach (Coach.postNotice (postedNotice crew r)),
          { status := if durationClamped r.ends r.duration then .adjusted else .accepted
            results := leBytes 1 s.coach.notices.freshId
              ++ leBytes 1 ((s.onCoach (Coach.postNotice (postedNotice crew r))).coach.notices.stateOf s.coach.notices.freshId).code }) := by
  simp only [postNoticeBody, judge_cons, judge_nil, decide_eq_true_eq]

theorem Coach.unknownStop_iff (portion : Fin 4) (c : Coach) (k : Nat) :
    c.unknownStop portion k = true ↔ ¬ ∃ i x, findCode c.journey.list k = some i ∧ c.journey.list[i]? = some x ∧ x.callsAt portion = true := by
  simp [Coach.unknownStop, Coach.stopOf, recordAt]
  cases hfind : findCode c.journey.list k with
  | none => simp
  | some i =>
    cases hrecord : c.journey.list[i]? with
    | none => simp [hrecord]
    | some x => simp [hrecord]

/-- A refusal of POST NOTICE leaves the renewed state. -/
theorem exec_postNotice_refused {s : State} {p : Port} {r : NoticeReq} {st : Status} (h : s.controls p)
    (hrefused : postNoticeBody (Port.isCrew p) r (s.renew p) = refuse st (s.renew p)) :
    exec (.postNotice p r) s = .next (State.answer p 21 st [] (s.renew p)) := by
  rw [exec_postNotice h, hrefused, refuse]

/-- A posted entry, before it has an id, with the fields that POST NOTICE gives it. -/
theorem postedNotice_fields (crew : Bool) (r : NoticeReq) :
    (postedNotice crew r).source = (if crew then .crew else .lead) ∧ (postedNotice crew r).kind = (if crew then .crewText else .lineText)
      ∧ (postedNotice crew r).arm = armOf r.arm r.distance ∧ (postedNotice crew r).ends = endOf r.ends r.duration := by
  cases crew <;> exact ⟨rfl, rfl, rfl, rfl⟩

theorem armOf_eq (arm distance : Nat) :
    armOf arm distance = if arm = 0 then .atOnce else if arm = 1 then .beforeStop distance else .atStop := by
  match arm with
  | 0 | 1 => rfl
  | _ + 2 => rfl

theorem endOf_eq (ends duration : Nat) :
    endOf ends duration
      = if ends = 0 then .onDeparture else if ends = 1 then .afterSeconds (max 1 (min 3600 duration)) else .untilCancelled := by
  match ends with
  | 0 | 1 => rfl
  | _ + 2 => rfl

/-! ## Arming and showing one entry (R149, R151) -/

/-- What the selection makes SHOWN is an ARMED entry of the queue. -/
theorem bestNotice_mem {l : List Notice} {x : Notice} (h : bestNotice l = some x) : x ∈ l := by
  cases l with
  | nil => cases h
  | cons n ns =>
    obtain rfl := Option.some.inj h
    suffices ∀ (ms : List Notice) b, ms.foldl (fun best m => if m.beats best then m else best) b ∈ b :: ms from this ns n
    intro ms
    induction ms with
    | nil => simp
    | cons m ms ih =>
      intro b
      rw [List.foldl_cons]
      split
      · exact List.mem_cons_of_mem _ (ih m)
      · rcases List.mem_cons.1 (ih b) with h | h
        · rw [h]
          exact List.mem_cons_self
        · exact List.mem_cons_of_mem _ (List.mem_cons_of_mem _ h)

theorem NoticeUnit.selected_mem {u : NoticeUnit} {x : Notice} (h : u.selected = some x) : x ∈ u.queue ∧ x.state = .armed := by
  have armed : x ∈ u.queue.filter fun n => n.state = .armed := by
    unfold NoticeUnit.selected at h
    dsimp only at h
    split at h
    · exact bestNotice_mem h
    · split at h
      · exact bestNotice_mem h
      · split at h
        · exact (List.mem_filter.1 (bestNotice_mem h)).1
        · cases h
  simpa using armed

/-- An entry whose id no ARMED entry has is not shown; if it was not SHOWN it stays as it is. -/
theorem Notice.chosenBy_self {e : Env} {sel : Option Notice} {n : Notice} (hsel : ∀ x, sel = some x → n.id ≠ x.id) (hstate : n.state ≠ .shown) :
    n.chosenBy e sel = n := by
  unfold Notice.chosenBy
  split
  · rw [if_neg (hsel _ rfl), if_neg hstate]
  · rfl

/-- An ARMED entry is ARMED or SHOWN after the selection. -/
theorem Notice.chosenBy_armed (e : Env) (sel : Option Notice) {n : Notice} (h : n.state = .armed) :
    (n.chosenBy e sel).state = .armed ∨ (n.chosenBy e sel).state = .shown := by
  unfold Notice.chosenBy
  split
  · split
    · exact .inr rfl
    · split
      · exact .inl rfl
      · exact .inl h
  · exact .inl h

/-- What the arm test and the selection make of the entries of a queue when a notice is posted. -/
theorem Coach.notice_posted_queue (e : Env) (c : Coach) :
    ∃ sel, (∀ x, sel = some x → ∃ m ∈ c.notices.queue, (m.armedIn e .posted c).id = x.id ∧ (m.armedIn e .posted c).state = .armed)
      ∧ (c.notice e .posted).notices.queue = c.notices.queue.map fun m => (m.armedIn e .posted c).chosenBy e sel := by
  have armed : c.armedFor e .posted = c.armNotices e .posted := by
    rw [Coach.armedFor, if_pos (show NoticeChange.posted.arms = true from rfl), Coach.noticeQueueStep_plain e rfl]
  refine ⟨(c.armedFor e .posted).notices.selected, fun x hx => ?_, ?_⟩
  · obtain ⟨hmem, hstate⟩ := NoticeUnit.selected_mem hx
    rw [armed, Coach.armNotices_queue] at hmem
    obtain ⟨m, hm, rfl⟩ := List.mem_map.1 hmem
    exact ⟨m, hm, rfl, hstate⟩
  · rw [Coach.notice_queue, armed, Coach.armNotices_queue, List.map_map]
    rfl

theorem Notice.id_of_fixed {n m : Notice} (h : n.fixed = m.fixed) : n.id = m.id :=
  show n.fixed.id = m.fixed.id from congrArg Notice.id h

theorem Notice.armedIn_id (e : Env) (g : NoticeChange) (c : Coach) (n : Notice) : (n.armedIn e g c).id = n.id := by
  unfold Notice.armedIn
  split <;> rfl

/-- A WAITING entry joins the queue under a fresh id: it is at its end, ARMED or SHOWN if its arm condition holds, else WAITING. -/
theorem Coach.posted_entry (e : Env) {c : Coach} {q : List Notice} {m : Notice} (hqueue : c.notices.queue = q ++ [m])
    (hwaiting : m.state = .waiting) (hfresh : ∀ n ∈ q, n.id ≠ m.id) :
    ∃ n, (c.notice e .posted).notices.queue.getLast? = some n ∧ n.fixed = m.fixed
      ∧ (armHolds c .posted m = true → n.state = .armed ∨ n.state = .shown) ∧ (armHolds c .posted m = false → n.state = .waiting) := by
  obtain ⟨sel, hsel, hafter⟩ := c.notice_posted_queue e
  refine ⟨(m.armedIn e .posted c).chosenBy e sel, by rw [hafter, hqueue]; simp, ?_, fun hholds => ?_, fun hholds => ?_⟩
  · rw [Notice.fixed_chosenBy, Notice.fixed_armedIn]
  · refine Notice.chosenBy_armed e sel ?_
    rw [Notice.armedIn, if_pos ⟨hwaiting, hholds⟩]
  · have unarmed : m.armedIn e .posted c = m := by rw [Notice.armedIn, if_neg (by simp [hholds])]
    have other : ∀ x, sel = some x → m.id ≠ x.id := fun x hx hid => by
      obtain ⟨k, hk, hkid, hkstate⟩ := hsel x hx
      rw [hqueue, List.mem_append, List.mem_singleton] at hk
      rcases hk with hk | rfl
      · exact hfresh k hk (by rw [← Notice.armedIn_id e .posted c k, hkid, hid])
      · rw [unarmed, hwaiting] at hkstate
        cases hkstate
    rw [unarmed, Notice.chosenBy_self other (by simp [hwaiting]), hwaiting]

/-- The first entry of an id is the last of the queue where no entry before it has that id. -/
theorem find?_last_of_ids {q : List Notice} {ids : List Nat} {n : Notice} (hids : q.map Notice.id = ids ++ [n.id]) (hfresh : n.id ∉ ids)
    (hlast : q.getLast? = some n) : (q.find? fun m => m.id = n.id) = some n := by
  obtain ⟨r, rfl⟩ := List.getLast?_eq_some_iff.1 hlast
  have before : r.map Notice.id = ids := by simpa using hids
  rw [List.find?_append, List.find?_eq_none.2]
  · simp
  · intro m hm hid
    exact hfresh (before ▸ List.mem_map.2 ⟨m, hm, by simpa using hid⟩)

/-- The arm condition that POST NOTICE gives holds at once, at the stop, or from its distance on. -/
theorem armHolds_posted {c : Coach} {m : Notice} {r : NoticeReq} (harm : m.arm = armOf r.arm r.distance) (hstop : m.stop = r.stop) :
    armHolds c .posted m = true ↔ r.arm = 0 ∨ ∃ k i x, r.stop = some k ∧ findCode c.journey.list k = some i ∧ c.journey.list[i]? = some x
      ∧ (x.status = .current ∨ (r.arm = 1 ∧ codeAt c.journey.list c.journey.nextCalling = some k
        ∧ ((x.position : Int) - r.distance) * 65536000 ≤ c.position.estimate)) := by
  have stop : ∀ x, c.stopOf r.stop = some x ↔ ∃ k i, r.stop = some k ∧ findCode c.journey.list k = some i ∧ c.journey.list[i]? = some x :=
    fun x => Coach.stopOf_eq_some
  rw [armOf_eq] at harm
  unfold armHolds
  dsimp only
  rw [hstop]
  by_cases h0 : r.arm = 0
  · rw [harm, if_pos h0]
    simp [h0]
  · by_cases h1 : r.arm = 1
    · rw [harm, if_neg h0, if_pos h1]
      simp only [Bool.or_eq_true, Option.any_eq_true, stop, Bool.and_eq_true, decide_eq_true_eq, h1, true_and, or_false,
        Position.atOrAbove, Bool.false_eq_true, Nat.one_ne_zero, false_or]
      constructor
      · rintro (⟨x, ⟨k, i, hk, hi, hx⟩, hcurrent⟩ | ⟨x, ⟨k, i, hk, hi, hx⟩, hnext, hnear⟩)
        · exact ⟨k, i, x, hk, hi, hx, .inl hcurrent⟩
        · exact ⟨k, i, x, hk, hi, hx, .inr ⟨hnext.trans hk, hnear⟩⟩
      · rintro ⟨k, i, x, hk, hi, hx, hcurrent | ⟨hnext, hnear⟩⟩
        · exact .inl ⟨x, ⟨k, i, hk, hi, hx⟩, hcurrent⟩
        · exact .inr ⟨x, ⟨k, i, hk, hi, hx⟩, hnext.trans hk.symm, hnear⟩
    · rw [harm, if_neg h0, if_neg h1]
      simp only [Option.any_eq_true, stop, decide_eq_true_eq, h0, h1, false_or, false_and, or_false]
      constructor
      · rintro ⟨x, ⟨k, i, hk, hi, hx⟩, hcurrent⟩
        exact ⟨k, i, x, hk, hi, hx, hcurrent⟩
      · rintro ⟨k, i, x, hk, hi, hx, hcurrent⟩
        exact ⟨x, ⟨k, i, hk, hi, hx⟩, hcurrent⟩

theorem leBytes_one (v : Nat) : leBytes 1 v = [BitVec.ofNat 8 v] := rfl

theorem durationClamped_iff (ends duration : Nat) : durationClamped ends duration = true ↔ ends = 1 ∧ (duration = 0 ∨ 3600 < duration) := by
  simp [durationClamped]

/-- A change of the coach side leaves the rest of the renewed state as it was. -/
theorem State.renew_onCoach_same (s : State) (p : Port) (f : Env → Coach → Coach) :
    SameOutside s ((s.renew p).onCoach f) ∧ ((s.renew p).onCoach f).consist = (s.renew p).consist
      ∧ ((s.renew p).onCoach f).coach = f s.env s.coach := by
  simp [SameOutside]

/-! ## Entries ended by their id (R143, R147, R150) -/

theorem endCause_ended_eq (k cause : Nat) (n : Notice) : endCause (.ended k cause) n = if n.id = k then some cause else none := rfl

/-- No entry of the id is left. -/
theorem Coach.notice_ended_ids (e : Env) (k cause : Nat) (c : Coach) : ∀ m ∈ (c.notice e (.ended k cause)).notices.queue, m.id ≠ k := by
  intro m hm
  obtain ⟨x, hx, hfixed⟩ := Coach.mem_notice_queue hm
  rw [Coach.noticeQueueStep_ended, Coach.endNotices_eq] at hx
  have hleft : endCause (.ended k cause) x = none := by simpa using (List.mem_filter.1 hx).2
  have hid : x.id = m.id := Notice.id_of_fixed hfixed
  rw [endCause_ended_eq, hid] at hleft
  intro h
  rw [if_pos h] at hleft
  cases hleft

/-- The one entry of an id, ended, is reported where it is the lead's. -/
theorem Coach.notice_ended_reports (e : Env) {k cause : Nat} {c : Coach} {n : Notice} (hone : (c.notices.queue.filter fun m => m.id = k) = [n])
    (p : LinePort) :
    (c.notice e (.ended k cause)).reports p = (if n.source = .lead then c.raise e
      ⟨.noticeEnded, n.stop, none, none, c.position.estimate / 65536000, .none, some (cause * 256 + k : Nat)⟩ else c).reports p := by
  have hid : n.id = k := by simpa using (List.mem_filter.1 (hone ▸ List.mem_singleton_self n : n ∈ c.notices.queue.filter fun m => m.id = k)).2
  have others : c.notices.queue.filterMap (endReport c (endCause (.ended k cause)))
      = (c.notices.queue.filter fun m => m.id = k).filterMap (endReport c (endCause (.ended k cause))) := by
    rw [List.filterMap_filter]
    refine congrArg (List.filterMap · _) (funext fun m => ?_)
    by_cases hm : m.id = k
    · simp [hm]
    · simp [hm, endReport, endCause_ended_eq]
  rw [Coach.notice_reports, Coach.noticeQueueStep_ended, Coach.endNotices_reports, others, hone]
  by_cases hlead : n.source = .lead
  · simp [endReport, endCause_ended_eq, hid, hlead, Coach.raiseAll]
  · simp [endReport, hlead, Coach.raiseAll]

/-! ## CANCEL NOTICE (R147) -/

theorem exec_cancelNotice {s : State} {p : Port} (h : s.controls p) (k : Nat) :
    exec (.cancelNotice p k) s = .next (State.answer p 22 (cancelNoticeBody (Port.isCrew p) k (s.renew p)).2.status
      (cancelNoticeBody (Port.isCrew p) k (s.renew p)).2.results (cancelNoticeBody (Port.isCrew p) k (s.renew p)).1) :=
  live_leadOrCrew h 22 (cancelNoticeBody (Port.isCrew p) k)

theorem cancelNoticeBody_none {s : State} {k : Nat} (h : ∀ n ∈ s.coach.notices.queue, n.id ≠ k) (crew : Bool) :
    cancelNoticeBody crew k s = refuse .notFound s := by
  have absent : (s.coach.notices.queue.find? fun n => n.id = k) = none := by simpa using h
  rw [cancelNoticeBody, absent]

/-- The checks of CANCEL NOTICE in order: an automatic entry, an entry of the lead from the crew port. -/
theorem cancelNoticeBody_some {s : State} {k : Nat} {n : Notice} (h : (s.coach.notices.queue.find? fun n => n.id = k) = some n) (crew : Bool) :
    cancelNoticeBody crew k s
      = if n.source = .auto then refuse .notOwner s
        else if (crew && n.source = .lead) = true then refuse .notOwner s
        else (s.onCoach fun e c => c.notice e (.ended k 1), { status := .accepted }) := by
  rw [cancelNoticeBody, h]
  simp only [judge_cons, judge_nil, decide_eq_true_eq, acceptCoach]

theorem Port.isCrew_iff (p : Port) : Port.isCrew p = true ↔ p = .crew := by cases p <;> simp [Port.isCrew]

theorem State.controls_lead {s : State} {q : LinePort} (h : s.controls (.line q)) : s.consist.lead = some q := by
  obtain ⟨-, hcrew | hlead⟩ := h
  · cases hcrew
  · simpa [State.isLead] using hlead

/-- With a lead, reports go to the lead's port alone. -/
theorem Coach.raise_lead {e : Env} {q : LinePort} (h : e.lead = some q) (r : Report) (c : Coach) :
    (c.raise e r).reports q = (c.reports q).push r ∧ (c.raise e r).reports q.other = c.reports q.other := by
  rw [Coach.raise_reports, Coach.raise_reports]
  cases q <;> simp [Env.routes, h, LinePort.other]

/-- Settles the statement on CANCEL NOTICE: not found, not owned, or ended with cause CANCELLED. -/
theorem cancelNotice_effect {s : State} {p : Port} (h : s.controls p) (k : Nat) :
    ((∀ n ∈ s.coach.notices.queue, n.id ≠ k) → exec (.cancelNotice p k) s = .next (State.answer p 22 .notFound [] (s.renew p)))
    ∧ (∀ n, (s.coach.notices.queue.find? fun n => n.id = k) = some n →
        (n.source = .auto ∨ (n.source = .lead ∧ p = .crew) →
          exec (.cancelNotice p k) s = .next (State.answer p 22 .notOwner [] (s.renew p)))
        ∧ (n.source = .crew ∨ (n.source = .lead ∧ p ≠ .crew) → exec (.cancelNotice p k) s
          = .next (State.answer p 22 .accepted [] ((s.renew p).onCoach fun e c => c.notice e (.ended k 1))))) := by
  refine ⟨fun hnone => ?_, fun n hn => ⟨fun howner => ?_, fun howner => ?_⟩⟩
  · rw [exec_cancelNotice h, cancelNoticeBody_none (s := s.renew p) (by simpa using hnone), refuse]
  · have hfind : ((s.renew p).coach.notices.queue.find? fun n => n.id = k) = some n := by simpa using hn
    have refused : cancelNoticeBody (Port.isCrew p) k (s.renew p) = refuse .notOwner (s.renew p) := by
      rw [cancelNoticeBody_some hfind]
      rcases howner with hauto | ⟨hlead, rfl⟩
      · rw [if_pos hauto]
      · simp [hlead, Port.isCrew]
    rw [exec_cancelNotice h, refused, refuse]
  · have hfind : ((s.renew p).coach.notices.queue.find? fun n => n.id = k) = some n := by simpa using hn
    have taken : cancelNoticeBody (Port.isCrew p) k (s.renew p)
        = ((s.renew p).onCoach fun e c => c.notice e (.ended k 1), { status := .accepted }) := by
      rw [cancelNoticeBody_some hfind]
      rcases howner with hcrew | ⟨hlead, hline⟩
      · simp [hcrew]
      · have notCrew : Port.isCrew p = false := by simpa [← Port.isCrew_iff] using hline
        simp [hlead, notCrew]
    rw [exec_cancelNotice h, taken]

/-! ## The notice that POST NOTICE adds (R146) -/

/-- The entry that POST NOTICE adds to a queue. -/
def NoticeUnit.postedEntry (crew : Bool) (r : NoticeReq) (u : NoticeUnit) : Notice := { postedNotice crew r with id := u.freshId }

/-- The coach with the entry of POST NOTICE at the end of the queue. -/
def Coach.withPosted (crew : Bool) (r : NoticeReq) (c : Coach) : Coach :=
  { c with notices := { c.notices with
    queue := c.notices.queue ++ [c.notices.postedEntry crew r], nextId := (c.notices.freshId + 1) % 256 } }

theorem Coach.postNotice_posted (crew : Bool) (r : NoticeReq) (e : Env) (c : Coach) :
    c.postNotice (postedNotice crew r) e = (c.withPosted crew r).notice e .posted := rfl

/-- The posted entry is the last of the queue, the one entry of its id, and ARMED or SHOWN just where its arm condition holds. -/
theorem Coach.notice_withPosted (crew : Bool) (r : NoticeReq) (e : Env) {c : Coach} (hroom : c.notices.queue.length < 256) :
    ∃ n, ((c.withPosted crew r).notice e .posted).notices.queue.map Notice.id = c.notices.queue.map Notice.id ++ [c.notices.freshId]
      ∧ ((c.withPosted crew r).notice e .posted).notices.queue.getLast? = some n
      ∧ ((c.withPosted crew r).notice e .posted).notices.stateOf c.notices.freshId = n.state
      ∧ n.fixed = c.notices.postedEntry crew r
      ∧ (armHolds c .posted (c.notices.postedEntry crew r) = true → n.state = .armed ∨ n.state = .shown)
      ∧ (armHolds c .posted (c.notices.postedEntry crew r) = false → n.state = .waiting) := by
  obtain ⟨hfresh, -⟩ := NoticeUnit.freshId_first hroom
  obtain ⟨n, hlast, hfixed, harmed, hwaiting⟩ := (c.withPosted crew r).posted_entry e (q := c.notices.queue)
    (m := c.notices.postedEntry crew r) rfl rfl hfresh
  have hid : n.id = c.notices.freshId := Notice.id_of_fixed hfixed
  have hids : ((c.withPosted crew r).notice e .posted).notices.queue.map Notice.id = c.notices.queue.map Notice.id ++ [n.id] := by
    rw [Coach.notice_queue_ids, Coach.noticeQueueStep_plain e rfl, hid]
    simp [Coach.withPosted, NoticeUnit.postedEntry]
  have unused : n.id ∉ c.notices.queue.map Notice.id := by
    rw [hid, List.mem_map]
    rintro ⟨y, hy, hyid⟩
    exact hfresh y hy hyid
  refine ⟨n, by rw [hids, hid], hlast, ?_, hfixed, harmed, hwaiting⟩
  rw [NoticeUnit.stateOf, ← hid, find?_last_of_ids hids unused hlast]
  rfl

/-- An accepted POST NOTICE: the entry joins the queue and the notice unit takes the posting; the answer carries id and state. -/
theorem exec_postNotice_accepted {s : State} {p : Port} {r : NoticeReq} (h : s.controls p) (hvalues : noticeOutside r = false)
    (hnamed : noticeStopMissing r = false) (hknown : r.stop.any (s.coach.unknownStop s.consist.portion) = false)
    (hahead : (s.coach.stopOf r.stop).any (fun x => x.status.past) = false) (hplace : s.coach.notices.posted < 20) :
    exec (.postNotice p r) s = .next (State.answer p 21 (if durationClamped r.ends r.duration then .adjusted else .accepted)
      [BitVec.ofNat 8 s.coach.notices.freshId, BitVec.ofNat 8
        (((s.coach.withPosted (Port.isCrew p) r).notice s.env .posted).notices.stateOf s.coach.notices.freshId).code]
      ((s.renew p).onCoach (Coach.postNotice (postedNotice (Port.isCrew p) r)))) := by
  have posted : ¬ 20 ≤ s.coach.notices.posted := by omega
  rw [exec_postNotice h, postNoticeBody_eq]
  simp only [State.renew_coach, State.renew_consist_portion, hvalues, hnamed, hknown, hahead, posted, Bool.false_eq_true, if_false,
    leBytes_one, List.singleton_append, State.onCoach_coach, State.renew_env, Coach.postNotice_posted]

/-! ## The statement on posting, cancelling and ending -/

/-- The stop that POST NOTICE gives is in the list and calling for this coach. -/
theorem known_iff (c : Coach) (portion : Fin 4) (stop : Option Nat) :
    stop.any (c.unknownStop portion) = false ↔ ∀ k, stop = some k → ∃ i x, findCode c.journey.list k = some i ∧ c.journey.list[i]? = some x
      ∧ x.callsAt portion = true := by
  cases stop with
  | none => simp
  | some k =>
    rw [Option.any_some, Bool.eq_false_iff, Ne, Coach.unknownStop_iff, Classical.not_not]
    simp

theorem past_iff (c : Coach) (stop : Option Nat) :
    (c.stopOf stop).any (fun x => x.status.past) = true ↔ ∃ k i x, stop = some k ∧ findCode c.journey.list k = some i
      ∧ c.journey.list[i]? = some x ∧ (x.status = .departed ∨ x.status = .passed ∨ x.status = .runThrough) := by
  simp only [Option.any_eq_true, Coach.stopOf_eq_some, StopStatus.past_iff]
  constructor
  · rintro ⟨x, ⟨k, i, hk, hi, hx⟩, hpast⟩
    exact ⟨k, i, x, hk, hi, hx, hpast⟩
  · rintro ⟨k, i, x, hk, hi, hx, hpast⟩
    exact ⟨x, ⟨k, i, hk, hi, hx⟩, hpast⟩

/-- What a posted entry of the list test meets at a list change: its stop gone or not calling, left behind, or neither. -/
theorem listCause_list_cases (e : Env) (c : Coach) {g : NoticeChange} (hg : g.isList = true) {n : Notice} {code : Nat} (hsource : n.source ≠ .auto)
    (hstop : n.stop = some code) :
    ((∀ r, ¬ ∃ i, findCode c.journey.list code = some i ∧ c.journey.list[i]? = some r ∧ r.callsAt e.portion = true) →
      listCause e c g n = some 4)
    ∧ ∀ r, (∃ i, findCode c.journey.list code = some i ∧ c.journey.list[i]? = some r ∧ r.callsAt e.portion = true) →
      listCause e c g n = if n.ends = .onDeparture ∧ r.status.left then some 3
        else if n.state = .waiting ∧ n.arm.namesStop ∧ r.status.left then some 5 else none := by
  have record : ∀ r, c.stopOf (some code) = some r ↔ ∃ i, findCode c.journey.list code = some i ∧ c.journey.list[i]? = some r := by
    intro r
    rw [Coach.stopOf_eq_some]
    simp
  rw [listCause_list e c hg hsource hstop]
  refine ⟨fun hnone => ?_, fun r ⟨i, hi, hr, hcalls⟩ => ?_⟩
  · cases hfound : c.stopOf (some code) with
    | none => rfl
    | some r =>
      obtain ⟨i, hi, hr⟩ := (record r).1 hfound
      have notCalling : ¬ r.callsAt e.portion = true := fun hcalls => hnone r ⟨i, hi, hr, hcalls⟩
      simp [notCalling]
  · rw [(record r).2 ⟨i, hi, hr⟩]
    simp [hcalls]

/-- Settles O47: the tests of a change by its kind; then POST NOTICE by its checks and its entry, and CANCEL NOTICE. -/
theorem noticesArePostedAndCancelled : Obligations.NoticesArePostedAndCancelled := by
  refine ⟨fun e c g => ⟨_, _, _, fun _ _ _ => rfl, rfl, ?_, fun hg => ?_, fun n => ⟨endCause_ne_none_iff g n, fun code hg => endCause_departed hg, ?_⟩,
    fun _ _ => rfl, fun n h => listCause_unposted e c g h, fun n code hsource hstop => ⟨fun hg => ?_, fun k hg => ?_, fun hrun hnew hold hamend => ?_⟩⟩,
    fun s p r k h => ⟨_, _, _, rfl, rfl, rfl, fun hvalues => ?_, fun hvalues hnamed => ⟨fun hknown => ?_, fun hknown hpast => ?_,
      fun hknown hpast hfull => ?_, fun hknown hpast hplace hroom => ?_⟩, (cancelNotice_effect h k).1, fun n hn => ⟨((cancelNotice_effect h k).2 n hn).1,
      fun howner => ?_⟩⟩⟩
  · rintro rfl
    rfl
  · refine ⟨_, _, ⟨c.endNotices_eq e _, c.endNotices_reports e _⟩, ⟨Coach.endNotices_eq e _ _, Coach.endNotices_reports e _ _⟩, fun hr => ?_, fun hr => ?_⟩
    · rw [Coach.noticeQueueStep_eq e hg, if_pos (g.regenerates_iff.2 hr)]
    · rw [Coach.noticeQueueStep_eq e hg, if_neg (mt g.regenerates_iff.1 hr)]
  · rintro k rfl
    exact endCause_ended n k
  · obtain ⟨hgone, hcalls⟩ := listCause_list_cases e c (g.isList_iff.2 hg) hsource hstop
    refine ⟨hgone, fun r hr => ?_⟩
    rw [hcalls r hr]
    refine ⟨fun hdeparted hrun => ?_, fun hleft => ⟨fun hends => ?_, fun hends hwaiting harm => ?_, fun hends hquiet => ?_⟩⟩
    · have notLeft : ¬ r.status.left = true := by rw [StopStatus.left_iff]; exact not_or.2 ⟨hdeparted, hrun⟩
      simp [notLeft]
    · rw [if_pos ⟨hends, (StopStatus.left_iff _).2 hleft⟩]
    · rw [if_neg fun h => hends h.1, if_pos ⟨hwaiting, (ArmCondition.namesStop_iff _).2 harm, (StopStatus.left_iff _).2 hleft⟩]
    · rw [if_neg fun h => hends h.1, if_neg]
      rintro ⟨hwaiting, harm, -⟩
      exact hquiet.elim (· hwaiting) ((ArmCondition.namesStop_iff _).1 harm)
  · subst hg
    rw [listCause_runThrough e c k hsource hstop]
    refine ⟨fun hk hwaiting harm => if_pos ⟨hwaiting, harm, hk⟩, fun hother => if_neg ?_⟩
    rintro ⟨hwaiting, harm, hk⟩
    exact hother.elim (· hk) (·.elim (· hwaiting) (· harm))
  · refine listCause_none e c ?_ hrun n
    rw [Bool.eq_false_iff, Ne, NoticeChange.isList_iff]
    rintro (h | h | h)
    · exact hnew h
    · exact hold h
    · exact hamend h
  · refine exec_postNotice_refused h ?_
    rw [postNoticeBody_eq]
    rcases hvalues with hvalues | hnamed
    · rw [if_pos hvalues]
    · rw [if_pos hnamed, ite_self]
  · have unknown : r.stop.any (s.coach.unknownStop s.consist.portion) = true := by
      rw [← Bool.not_eq_false, known_iff]
      exact hknown
    refine exec_postNotice_refused h ?_
    rw [postNoticeBody_eq]
    simp [hvalues, hnamed, unknown]
  · have known := (known_iff s.coach s.consist.portion r.stop).2 hknown
    refine exec_postNotice_refused h ?_
    rw [postNoticeBody_eq]
    simp [hvalues, hnamed, known, (past_iff s.coach r.stop).2 hpast]
  · have known := (known_iff s.coach s.consist.portion r.stop).2 hknown
    have ahead : (s.coach.stopOf r.stop).any (fun x => x.status.past) = false := by
      rw [← Bool.not_eq_true, past_iff]
      exact hpast
    refine exec_postNotice_refused h ?_
    rw [postNoticeBody_eq]
    simp [hvalues, hnamed, known, ahead, hfull]
  · have known := (known_iff s.coach s.consist.portion r.stop).2 hknown
    have ahead : (s.coach.stopOf r.stop).any (fun x => x.status.past) = false := by
      rw [← Bool.not_eq_true, past_iff]
      exact hpast
    obtain ⟨n, hids, hlast, hstate, hfixed, harmed, hwaiting⟩ := Coach.notice_withPosted (Port.isCrew p) r s.env hroom
    obtain ⟨hsource, hkind, harm, hends⟩ := postedNotice_fields (Port.isCrew p) r
    obtain ⟨hfresh, hfirst⟩ := NoticeUnit.freshId_first hroom
    obtain ⟨hA, hB⟩ := (s.coach.withPosted (Port.isCrew p) r).notice_plain_reports s.env (g := .posted) rfl
    have holds := armHolds_posted (c := s.coach) (m := s.coach.notices.postedEntry (Port.isCrew p) r) (r := r) harm rfl
    obtain ⟨hid, hkind, hsource, hpriority, hstop, htext, harm', hends⟩ : n.id = s.coach.notices.freshId
        ∧ n.kind = (if Port.isCrew p then .crewText else .lineText) ∧ n.source = (if Port.isCrew p then .crew else .lead)
        ∧ n.priority = r.priority ∧ n.stop = r.stop ∧ n.text = r.text ∧ n.arm = armOf r.arm r.distance
        ∧ n.ends = endOf r.ends r.duration := by
      simpa [Notice.fixed, NoticeUnit.postedEntry, postedNotice] using hfixed
    simp only [Port.isCrew_iff] at hkind hsource
    have entry : s.coach.notices.postedEntry (Port.isCrew p) r
        = ⟨s.coach.notices.freshId, n.kind, n.source, r.priority, r.stop, r.text, n.arm, n.ends, .waiting, none, none, none⟩ := by
      rw [hkind, hsource, harm', hends]
      simp [NoticeUnit.postedEntry, postedNotice, Port.isCrew_iff]
    have taken : ((s.renew p).onCoach (Coach.postNotice (postedNotice (Port.isCrew p) r))).coach
        = (s.coach.withPosted (Port.isCrew p) r).notice s.env .posted := by
      simp [Coach.postNotice_posted]
    obtain ⟨houtside, hconsist, -⟩ := s.renew_onCoach_same p (Coach.postNotice (postedNotice (Port.isCrew p) r))
    have effect := exec_postNotice_accepted h hvalues hnamed known ahead hplace
    rw [hstate] at effect
    refine ⟨_, _, n, effect, ?_, ?_, hfresh, hfirst, ⟨_, entry, taken⟩, houtside, hconsist, ?_⟩
    · rw [← durationClamped_iff]
      split <;> simp [*]
    · split <;> simp
    · rw [taken, armOf_eq] at *
      refine ⟨Coach.notice_journey _ _ _, Coach.notice_position _ _ _, Coach.notice_bare _ _ _, hA, hB, hids, hlast, hid, hpriority, htext, hstop,
        hsource, hkind, harm', hends.trans (endOf_eq _ _), fun hh => harmed (holds.2 hh), fun hh => hwaiting ?_⟩
      rw [← Bool.not_eq_true]
      exact mt holds.1 hh
  · have effect := ((cancelNotice_effect h k).2 n hn).2 howner
    obtain ⟨houtside, hconsist, hcoach⟩ := s.renew_onCoach_same p fun e c => c.notice e (.ended k 1)
    refine ⟨_, effect, hcoach, ?_, houtside, hconsist, ?_⟩
    · rw [hcoach]
      exact Coach.notice_ended_ids _ _ _ _
    · rw [hcoach]
      refine ⟨Coach.notice_journey _ _ _, Coach.notice_position _ _ _, Coach.notice_bare _ _ _, fun hone => ⟨fun hcrew => ?_, fun q hlead hq => ?_⟩⟩
      · have reports := Coach.notice_ended_reports s.env (cause := 1) hone
        simp only [hcrew, reduceCtorEq, if_false] at reports
        exact ⟨reports .a, reports .b⟩
      · subst hq
        have reports := Coach.notice_ended_reports s.env (cause := 1) hone
        simp only [hlead, if_true] at reports
        obtain ⟨hpush, hother⟩ := Coach.raise_lead (e := s.env) (State.controls_lead h) ⟨.noticeEnded, n.stop, none, none,
          s.coach.position.estimate / 65536000, .none, some (1 * 256 + k : Nat)⟩ s.coach
        rw [reports, reports, hpush, hother]
        exact ⟨rfl, rfl⟩

end Sys2Proof.Machine
end

section
/-! Proofs of the statements on regeneration, the arm test, the selection, the door-side outputs and the page (R144, R145, R149, R151, R152,
R155 to R158). -/

namespace Sys2Proof.Machine

open Sys2Proof.Config

/-! ## Regeneration (R144, R145) -/

/-- A kind is made for next calling just where it is wanted there. -/
theorem kindWanted_iff (e : Env) (c : Coach) (kind : NoticeKind) :
    kindWanted e c kind = true ↔ ∃ i r, c.journey.nextCalling = some i ∧ c.journey.list[i]? = some r
      ∧ (kind = .nextStop ∨ kind = .arriving ∨ (kind = .splitAdvice ∧ r.split = true)
        ∨ (kind = .terminus ∧ nextCall c.journey.list e.portion (i + 1) = none)) := by
  unfold kindWanted
  cases hnext : c.journey.nextCalling with
  | none => simp [recordAt]
  | some i =>
    cases hrecord : c.journey.list[i]? with
    | none => simp [recordAt, hrecord]
    | some r =>
      simp only [recordAt, Option.bind_some, hrecord, Option.some.injEq, exists_and_left, exists_eq_left', lastCall]
      cases kind <;> simp

theorem codeAt_eq_some {list : List StopRec} {i : Option Nat} {code : Nat} :
    codeAt list i = some code ↔ ∃ k r, i = some k ∧ list[k]? = some r ∧ r.code = code := by
  simp [codeAt, recordAt, Option.bind_eq_some_iff]

/-- What the creation of one kind adds to the queue: an entry of that kind, or nothing. -/
theorem Coach.createKind_cases (e : Env) (c : Coach) (kind : NoticeKind) :
    (∃ i r, c.journey.nextCalling = some i ∧ c.journey.list[i]? = some r ∧ kindWanted e c kind = true
      ∧ (∀ m ∈ c.notices.queue, m.kind ≠ kind) ∧ c.createKind e kind = { c with notices := c.notices.create (autoNotice e.params kind r.code) })
    ∨ ((kindWanted e c kind = true → ∃ m ∈ c.notices.queue, m.kind = kind) ∧ c.createKind e kind = c) := by
  unfold Coach.createKind
  cases hcode : codeAt c.journey.list c.journey.nextCalling with
  | none =>
    refine .inr ⟨fun hwanted => ?_, rfl⟩
    obtain ⟨i, r, hnext, hrecord, -⟩ := (kindWanted_iff e c kind).1 hwanted
    have : codeAt c.journey.list c.journey.nextCalling = some r.code := codeAt_eq_some.2 ⟨i, r, hnext, hrecord, rfl⟩
    rw [hcode] at this
    cases this
  | some code =>
    obtain ⟨i, r, hnext, hrecord, rfl⟩ := codeAt_eq_some.1 hcode
    by_cases hcond : kindWanted e c kind ∧ ¬ c.notices.queue.any fun n => n.kind = kind
    · refine .inl ⟨i, r, hnext, hrecord, hcond.1, ?_, if_pos hcond⟩
      simpa using hcond.2
    · refine .inr ⟨fun hwanted => ?_, if_neg hcond⟩
      simpa [hwanted] using hcond

/-- The creation of kinds in turn: the entries created, each of a kind that no entry before it has. -/
theorem Coach.createKinds (e : Env) (kinds : List NoticeKind) (c : Coach) (hnodup : kinds.Nodup) : ∃ created : List Notice,
    kinds.foldl (Coach.createKind e) c = { c with notices := { c.notices with
      queue := c.notices.queue ++ created, nextId := (kinds.foldl (Coach.createKind e) c).notices.nextId } }
    ∧ (kinds.foldl (Coach.createKind e) c).notices = created.foldl NoticeUnit.create c.notices
    ∧ (created.map Notice.kind).Sublist kinds
    ∧ (∀ n ∈ created, ∀ m ∈ c.notices.queue, m.kind ≠ n.kind)
    ∧ (∀ n ∈ created, ∃ i r k, c.journey.nextCalling = some i ∧ c.journey.list[i]? = some r ∧ kindWanted e c n.kind = true
        ∧ n = { autoNotice e.params n.kind r.code with id := k })
    ∧ ∀ kind ∈ kinds, kindWanted e c kind = true → ∃ n ∈ c.notices.queue ++ created, n.kind = kind := by
  induction kinds generalizing c with
  | nil => exact ⟨[], by simp, rfl, .slnil, by simp, by simp, by simp⟩
  | cons kind kinds ih =>
    obtain ⟨hnew, hnodup⟩ := List.nodup_cons.1 hnodup
    obtain ⟨i, r, hnext, hrecord, hwanted, habsent, hcreate⟩ | ⟨hpresent, hcreate⟩ := c.createKind_cases e kind
    · obtain ⟨created, hcoach, hunit, hkinds, hfresh, hfields, hall⟩ := ih (c.createKind e kind) hnodup
      rw [hcreate] at hcoach hunit hfresh hfields hall
      refine ⟨{ autoNotice e.params kind r.code with id := c.notices.freshId } :: created, ?_, ?_, ?_, ?_, ?_, ?_⟩
      · rw [List.foldl_cons, hcreate, hcoach]
        simp [NoticeUnit.create]
      · rw [List.foldl_cons, hcreate, hunit]
        rfl
      · exact hkinds.cons_cons kind
      · intro n hn m hm
        rcases List.mem_cons.1 hn with rfl | hn
        · exact habsent m hm
        · exact hfresh n hn m (by simp [NoticeUnit.create, hm])
      · intro n hn
        rcases List.mem_cons.1 hn with rfl | hn
        · exact ⟨i, r, _, hnext, hrecord, hwanted, rfl⟩
        · exact hfields n hn
      · intro k hk hkwanted
        rcases List.mem_cons.1 hk with rfl | hk
        · exact ⟨_, List.mem_append_right _ List.mem_cons_self, rfl⟩
        · obtain ⟨n, hn, hnk⟩ := hall k hk hkwanted
          exact ⟨n, by simpa [NoticeUnit.create] using hn, hnk⟩
    · obtain ⟨created, hcoach, hunit, hkinds, hfresh, hfields, hall⟩ := ih c hnodup
      refine ⟨created, by rw [List.foldl_cons, hcreate]; exact hcoach, by rw [List.foldl_cons, hcreate]; exact hunit, hkinds.cons kind, hfresh,
        hfields, fun k hk hkwanted => ?_⟩
      rcases List.mem_cons.1 hk with rfl | hk
      · obtain ⟨m, hm, hmk⟩ := hpresent hkwanted
        exact ⟨m, List.mem_append_left _ hm, hmk⟩
      · exact hall k hk hkwanted

theorem takenAway_iff (e : Env) (c : Coach) (g : NoticeChange) (n : Notice) :
    takenAway e c g n = true ↔ n.source = .auto ∧ (g = .commit true
      ∨ ((n.kind = .nextStop ∨ n.kind = .arriving ∨ n.kind = .splitAdvice) ∧ n.stop ≠ codeAt c.journey.list c.journey.nextCalling)
      ∨ (n.kind = .splitAdvice ∧ ¬ ∃ i r, c.journey.nextCalling = some i ∧ c.journey.list[i]? = some r ∧ r.split = true)
      ∨ (n.kind = .terminus ∧ (g = .commit false ∨ g = .amendment)
          ∧ n.stop ≠ codeAt c.journey.list (lastCallIndex c.journey.list e.portion))) := by
  have split : kindWanted e c .splitAdvice = true
      ↔ ∃ i r, c.journey.nextCalling = some i ∧ c.journey.list[i]? = some r ∧ r.split = true := by
    rw [kindWanted_iff]
    simp
  unfold takenAway
  by_cases hauto : n.source = .auto
  · rw [if_neg (Classical.not_not.2 hauto)]
    by_cases hnew : g = .commit true
    · simp [hauto, hnew]
    · rw [if_neg hnew]
      rw [← split]
      cases hkind : n.kind <;> simp [hauto, hnew, NoticeChange.isList_iff]
  · simp [hauto]

/-- The four kinds of the table of R144. -/
def automaticKinds : List NoticeKind := [.nextStop, .arriving, .splitAdvice, .terminus]

theorem Coach.regenerate_eq (e : Env) (g : NoticeChange) (c : Coach) :
    c.regenerate e g = automaticKinds.foldl (Coach.createKind e) { c with notices := c.notices.drop (takenAway e c g) } := rfl

/-- An automatic entry of a kind that is wanted, field by field (R144). -/
theorem autoNotice_cases {e : Env} {c : Coach} {n : Notice} {i k : Nat} {r : StopRec} (hnext : c.journey.nextCalling = some i)
    (hrecord : c.journey.list[i]? = some r) (hwanted : kindWanted e c n.kind = true)
    (hn : n = { autoNotice e.params n.kind r.code with id := k }) :
    (n.kind = .nextStop ∧ n.priority = 1 ∧ n.arm = .beforeStop e.params.approachM ∧ n.ends = .atArrival)
      ∨ (n.kind = .arriving ∧ n.priority = 2 ∧ n.arm = .beforeStop e.params.arriveM ∧ n.ends = .onDeparture)
      ∨ (n.kind = .splitAdvice ∧ n.priority = 2 ∧ n.arm = .beforeStop e.params.approachM ∧ n.ends = .onDeparture ∧ r.split = true)
      ∨ (n.kind = .terminus ∧ n.priority = 2 ∧ n.arm = .beforeStop e.params.approachM ∧ n.ends = .untilCancelled
          ∧ nextCall c.journey.list e.portion (i + 1) = none) := by
  obtain ⟨i', r', hnext', hrecord', hkind⟩ := (kindWanted_iff e c n.kind).1 hwanted
  obtain rfl : i' = i := Option.some.inj (hnext'.symm.trans hnext)
  obtain rfl : r' = r := Option.some.inj (hrecord'.symm.trans hrecord)
  have fields : n.priority = (autoNotice e.params n.kind r'.code).priority ∧ n.arm = (autoNotice e.params n.kind r'.code).arm
      ∧ n.ends = (autoNotice e.params n.kind r'.code).ends := by
    have hpriority := congrArg Notice.priority hn
    have harm := congrArg Notice.arm hn
    have hends := congrArg Notice.ends hn
    exact ⟨hpriority, harm, hends⟩
  obtain ⟨hpriority, harm, hends⟩ := fields
  rcases hkind with h | h | ⟨h, hsplit⟩ | ⟨h, hlast⟩
  · exact .inl ⟨h, by simp [hpriority, autoNotice, h], by simp [harm, autoNotice, h], by simp [hends, autoNotice, h]⟩
  · exact .inr (.inl ⟨h, by simp [hpriority, autoNotice, h], by simp [harm, autoNotice, h], by simp [hends, autoNotice, h]⟩)
  · exact .inr (.inr (.inl ⟨h, by simp [hpriority, autoNotice, h], by simp [harm, autoNotice, h], by simp [hends, autoNotice, h], hsplit⟩))
  · exact .inr (.inr (.inr ⟨h, by simp [hpriority, autoNotice, h], by simp [harm, autoNotice, h], by simp [hends, autoNotice, h], hlast⟩))

/-- After a regeneration each entry for next calling is for next calling as it stands. -/
theorem Coach.regenerate_stops (e : Env) (g : NoticeChange) (c : Coach) {n : Notice} (hn : n ∈ (c.regenerate e g).notices.queue)
    (hauto : n.source = .auto) (hkind : n.kind = .nextStop ∨ n.kind = .arriving ∨ n.kind = .splitAdvice) :
    n.stop = codeAt c.journey.list c.journey.nextCalling := by
  obtain ⟨created, hcoach, -, -, -, hfields, -⟩ := Coach.createKinds e automaticKinds { c with notices := c.notices.drop (takenAway e c g) }
    (by decide)
  rw [Coach.regenerate_eq, hcoach] at hn
  rcases List.mem_append.1 hn with hkept | hcreated
  · have stays : ¬ takenAway e c g n = true := by
      have := (List.mem_filter.1 hkept).2
      simpa using this
    refine Classical.byContradiction fun hstop => ?_
    exact stays ((takenAway_iff e c g n).2 ⟨hauto, .inr (.inl ⟨hkind, hstop⟩)⟩)
  · obtain ⟨i, r, k, hnext, hrecord, -, hfields⟩ := hfields n hcreated
    rw [congrArg Notice.stop hfields]
    exact (codeAt_eq_some.2 ⟨i, r, hnext, hrecord, rfl⟩).symm

theorem Coach.notice_stops (e : Env) {g : NoticeChange} (hg : g.regenerates = true) (c : Coach) {n : Notice}
    (hn : n ∈ (c.notice e g).notices.queue) (hauto : n.source = .auto)
    (hkind : n.kind = .nextStop ∨ n.kind = .arriving ∨ n.kind = .splitAdvice) : n.stop = codeAt c.journey.list c.journey.nextCalling := by
  obtain ⟨m, hm, hfixed⟩ := Coach.mem_notice_queue hn
  have hcleared : g ≠ .cleared := by rintro rfl; simp [NoticeChange.regenerates] at hg
  have hsource : m.fixed.source = n.fixed.source := congrArg Notice.source hfixed
  have hsame : m.fixed.kind = n.fixed.kind := congrArg Notice.kind hfixed
  have hstop : m.fixed.stop = n.fixed.stop := congrArg Notice.stop hfixed
  rw [Coach.noticeQueueStep_eq e hcleared, if_pos hg] at hm
  have stops := Coach.regenerate_stops e g _ hm (hsource.trans hauto) (by rw [show m.kind = n.kind from hsame]; exact hkind)
  rw [← show m.stop = n.stop from hstop, stops]
  simp

/-! ## The arm test (R149) -/

/-- The arm condition of an entry: at once, at its CURRENT stop, or from a distance before its stop on while that is next calling. -/
theorem armHolds_iff (c : Coach) (g : NoticeChange) (n : Notice) :
    armHolds c g n = true ↔ n.arm = .atOnce
      ∨ (n.arm ≠ .atOnce ∧ ∃ k i r, n.stop = some k ∧ findCode c.journey.list k = some i ∧ c.journey.list[i]? = some r ∧ r.status = .current)
      ∨ ∃ m, n.arm = .beforeStop m ∧ ((∃ code, g = .runThrough code ∧ n.stop = some code)
        ∨ ∃ k i r, n.stop = some k ∧ codeAt c.journey.list c.journey.nextCalling = some k ∧ findCode c.journey.list k = some i
          ∧ c.journey.list[i]? = some r ∧ ((r.position : Int) - m) * 65536000 ≤ c.position.estimate) := by
  have current : (c.stopOf n.stop).any (fun r => r.status = .current) = true ↔ ∃ k i r, n.stop = some k
      ∧ findCode c.journey.list k = some i ∧ c.journey.list[i]? = some r ∧ r.status = .current := by
    simp only [Option.any_eq_true, Coach.stopOf_eq_some, decide_eq_true_eq]
    constructor
    · rintro ⟨r, ⟨k, i, hk, hi, hr⟩, hcurrent⟩
      exact ⟨k, i, r, hk, hi, hr, hcurrent⟩
    · rintro ⟨k, i, r, hk, hi, hr, hcurrent⟩
      exact ⟨r, ⟨k, i, hk, hi, hr⟩, hcurrent⟩
  have near : ∀ m : Nat, (c.stopOf n.stop).any (fun r => codeAt c.journey.list c.journey.nextCalling = n.stop
        && c.position.atOrAbove ((r.position : Int) - m)) = true
      ↔ ∃ k i r, n.stop = some k ∧ codeAt c.journey.list c.journey.nextCalling = some k ∧ findCode c.journey.list k = some i
        ∧ c.journey.list[i]? = some r ∧ ((r.position : Int) - m) * 65536000 ≤ c.position.estimate := fun m => by
    simp only [Option.any_eq_true, Coach.stopOf_eq_some, Bool.and_eq_true, decide_eq_true_eq, Position.atOrAbove]
    constructor
    · rintro ⟨r, ⟨k, i, hk, hi, hr⟩, hnext, hnear⟩
      exact ⟨k, i, r, hk, hnext.trans hk, hi, hr, hnear⟩
    · rintro ⟨k, i, r, hk, hnext, hi, hr, hnear⟩
      exact ⟨r, ⟨k, i, hk, hi, hr⟩, hnext.trans hk.symm, hnear⟩
  have run : (match g with
      | .runThrough code => decide (n.stop = some code)
      | _ => false) = true ↔ ∃ code, g = .runThrough code ∧ n.stop = some code := by
    cases g <;> simp
  unfold armHolds
  cases harm : n.arm with
  | atOnce => simp
  | atStop => simpa using current
  | beforeStop m =>
    rw [Bool.or_eq_true, Bool.or_eq_true, current, near m]
    refine (or_congr_right run).trans ?_
    constructor
    · rintro ((h | h) | h)
      · exact .inr (.inl ⟨by simp, h⟩)
      · exact .inr (.inr ⟨m, rfl, .inr h⟩)
      · exact .inr (.inr ⟨m, rfl, .inl h⟩)
    · rintro (h | ⟨-, h⟩ | ⟨k, hk, h⟩)
      · simp at h
      · exact .inl (.inl h)
      · obtain rfl := ArmCondition.beforeStop.inj hk
        exact h.elim .inr (.inl ∘ .inr)

/-! ## The seats after a change (R100, R145) -/

/-- The notice of a stop is ARMED or SHOWN, read of what is handed to the reservation unit. -/
def NoticeUnit.announces (u : NoticeUnit) (code : Nat) : Bool :=
  u.seatNotices.any fun n => n.stop = some code && (n.state = .armed || n.state = .shown)

theorem Coach.nextArmed_eq (c : Coach) : c.nextArmed = (codeAt c.journey.list c.journey.nextCalling).any c.notices.announces := by
  unfold Coach.nextArmed
  split
  next code hcode =>
    rw [hcode]
    simp [NoticeUnit.announces, NoticeUnit.seatNotices, List.any_map, List.any_filter, Function.comp_def, Bool.and_assoc]
  next hnone =>
    rw [hnone]
    rfl

theorem NoticeUnit.announces_congr {u v : NoticeUnit} (h : v.seatNotices = u.seatNotices) (code : Nat) : v.announces code = u.announces code := by
  rw [NoticeUnit.announces, NoticeUnit.announces, h]

/-- The content of a seat follows from the journey, the notice for next calling, its flag and its entries. -/
theorem Coach.contentOf_congr {c d : Coach} (e : Env) {y z : Seat} (hjourney : d.journey = c.journey) (harmed : d.nextArmed = c.nextArmed)
    (hflag : z.outOfUse = y.outOfUse) (hentries : z.entries = y.entries) : d.contentOf e z = c.contentOf e y := by
  simp only [Coach.contentOf, Coach.legStart, hjourney, harmed, hflag, hentries]
  rfl

theorem Coach.nextArmed_congr {c d : Coach} (hjourney : d.journey = c.journey) (h : d.notices.seatNotices = c.notices.seatNotices) :
    d.nextArmed = c.nextArmed := by
  rw [Coach.nextArmed_eq, Coach.nextArmed_eq, hjourney, funext (NoticeUnit.announces_congr h)]

theorem Coach.refresh_nextArmed (e : Env) (c : Coach) : (c.refresh e).nextArmed = c.nextArmed :=
  Coach.nextArmed_congr (by simp) (by simp)

/-- After the displayed states are worked out again every content is right. -/
theorem Coach.refresh_content (e : Env) (c : Coach) : ∀ y ∈ (c.refresh e).seats, y.content = (c.refresh e).contentOf e y := by
  intro y hy
  rw [Coach.refresh_seats, List.mem_map] at hy
  obtain ⟨z, -, rfl⟩ := hy
  exact (Coach.contentOf_congr e (by simp) (c.refresh_nextArmed e) rfl rfl).symm

theorem Coach.pagedFor_journey (e : Env) (g : NoticeChange) (c : Coach) : (c.pagedFor e g).journey = c.journey := by
  simp only [Coach.pagedFor, Coach.litFor, Coach.evalPage_journey, Coach.evalDoors_journey, Coach.selectNotice_journey, Coach.armedFor]
  split <;> simp

theorem Coach.pagedFor_seats (e : Env) (g : NoticeChange) (c : Coach) : (c.pagedFor e g).seats = c.seats := by
  simp only [Coach.pagedFor, Coach.litFor, Coach.evalPage_seats, Coach.evalDoors_seats, Coach.selectNotice_seats, Coach.armedFor]
  split <;> simp

/-- Seats whose content was right have the right content after a change. -/
theorem Coach.notice_content (e : Env) (g : NoticeChange) {c : Coach} (h : ∀ y ∈ c.seats, y.content = c.contentOf e y) :
    ∀ y ∈ (c.notice e g).seats, y.content = (c.notice e g).contentOf e y := by
  rw [Coach.notice_eq]
  split
  · rename_i hsame
    intro y hy
    rw [Coach.pagedFor_seats] at hy
    rw [h y hy]
    exact (Coach.contentOf_congr e (c.pagedFor_journey e g) (Coach.nextArmed_congr (c.pagedFor_journey e g) hsame) rfl rfl).symm
  · exact Coach.refresh_content e _

/-- Settles O48: what is taken away and what is created, kind by kind; the ids; the arm test entry by entry; the seats. -/
theorem automaticNoticesAreRegenerated : Obligations.AutomaticNoticesAreRegenerated := by
  refine ⟨fun e c g => ?_, fun u n => ⟨u.freshId, rfl, NoticeUnit.freshId_first⟩, fun e c g => ?_,
    fun e c g => ⟨Coach.notice_journey e g c, Coach.notice_content e g⟩⟩
  · obtain ⟨created, hcoach, hunit, hkinds, hfresh, hfields, hall⟩ := Coach.createKinds e automaticKinds
      { c with notices := c.notices.drop (takenAway e c g) } (by decide)
    rw [← Coach.regenerate_eq e g c] at hcoach hunit
    have hold : (c.regenerate e g).notices.hold = if c.notices.shown.any (takenAway e c g) then none else c.notices.hold := by
      rw [hcoach]
      rfl
    refine ⟨c.regenerate e g, created, takenAway e c g, rfl, ?_, ?_, fun n hn m hm hstays => ?_, ?_, fun n hshown hleaves => ?_, fun hstays => ?_,
      takenAway_iff e c g, hkinds, fun n hn => ?_, fun i r hnext hrecord => ?_, fun hg n hn => ?_⟩
    · rw [hcoach]
      rfl
    · rw [hcoach]
      rfl
    · exact hfresh n hn m (List.mem_filter.2 ⟨hm, by simp [hstays]⟩)
    · rw [hold]
      exact hunit
    · rw [hold, hshown]
      simp [hleaves]
    · rw [hold, if_neg]
      rw [Option.any_eq_true]
      rintro ⟨n, hshown, hleaves⟩
      rw [hstays n hshown] at hleaves
      cases hleaves
    · obtain ⟨i, r, k, hnext, hrecord, hwanted, hn⟩ := hfields n hn
      refine ⟨i, r, hnext, hrecord, congrArg Notice.source hn, congrArg Notice.stop hn, congrArg Notice.text hn, congrArg Notice.state hn,
        congrArg Notice.armedAt hn, congrArg Notice.lastShown hn, congrArg Notice.firstShown hn, autoNotice_cases hnext hrecord hwanted hn⟩
    · have wanted : ∀ kind ∈ automaticKinds, (kind = .nextStop ∨ kind = .arriving ∨ (kind = .splitAdvice ∧ r.split = true)
          ∨ (kind = .terminus ∧ nextCall c.journey.list e.portion (i + 1) = none)) → ∃ n ∈ (c.regenerate e g).notices.queue, n.kind = kind :=
        fun kind hkind h => by
          have there := hall kind hkind ((kindWanted_iff e c kind).2 ⟨i, r, hnext, hrecord, h⟩)
          rw [hcoach]
          exact there
      exact ⟨wanted .nextStop (by decide) (.inl rfl), wanted .arriving (by decide) (.inr (.inl rfl)),
        fun hsplit => wanted .splitAdvice (by decide) (.inr (.inr (.inl ⟨rfl, hsplit⟩))),
        fun hlast => wanted .terminus (by decide) (.inr (.inr (.inr ⟨rfl, hlast⟩)))⟩
    · exact Coach.notice_stops e (g.regenerates_iff.2 hg) c hn
  · refine ⟨c.armNotices e g, _, rfl, rfl, by simp [Coach.armNotices_queue], fun _ => rfl, fun k n hn => ?_⟩
    have after : (c.armNotices e g).notices.queue[k]? = some (n.armedIn e g c) := by
      rw [Coach.armNotices_queue, List.getElem?_map, hn]
      rfl
    rw [after]
    refine ⟨fun hwaiting hholds => ?_, fun hquiet => ?_⟩
    · rw [Notice.armedIn, if_pos ⟨hwaiting, (armHolds_iff c g n).2 hholds⟩]
      rfl
    · rw [Notice.armedIn, if_neg]
      rintro ⟨hwaiting, hholds⟩
      exact hquiet.elim (· hwaiting) (· ((armHolds_iff c g n).1 hholds))

end Sys2Proof.Machine
end

section
/-! # The selection, the door-side outputs and the page (8.4, 8.5, 8.7, 8.8) -/
namespace Sys2Proof.Machine

/-! ## The best entry (R151) -/

/-- The order of R151: the higher priority, then the earlier showing, none first, then the earlier arming. -/
def Notice.before (x y : Notice) : Prop :=
  y.priority < x.priority ∨ (x.priority = y.priority
    ∧ ((x.lastShown = none ∧ y.lastShown ≠ none) ∨ (∃ t v, x.lastShown = some t ∧ y.lastShown = some v ∧ t < v)
      ∨ (x.lastShown = y.lastShown ∧ x.armedAt.getD 0 < y.armedAt.getD 0)))

/-- A time of the last showing is earlier, none first. -/
theorem turn_lt_iff (a b : Option Nat) : (a.map (· + 1)).getD 0 < (b.map (· + 1)).getD 0
    ↔ (a = none ∧ b ≠ none) ∨ ∃ t v, a = some t ∧ b = some v ∧ t < v := by
  cases a <;> cases b <;> simp

theorem turn_eq_iff (a b : Option Nat) : (a.map (· + 1)).getD 0 = (b.map (· + 1)).getD 0 ↔ a = b := by
  cases a <;> cases b <;> simp

theorem Notice.beats_iff (x y : Notice) : x.beats y = true ↔ x.before y := by
  simp only [Notice.beats, Notice.before, Bool.or_eq_true, Bool.and_eq_true, decide_eq_true_eq, turn_lt_iff, turn_eq_iff, or_assoc]

/-- The order of R151 is a strict weak order. -/
theorem Notice.before_of_not {x y z : Notice} (hxy : x.before y) (hzy : ¬ z.before y) : x.before z := by
  unfold Notice.before at *
  cases hx : x.lastShown <;> cases hy : y.lastShown <;> cases hz : z.lastShown <;> simp [hx, hy, hz] at * <;> omega

theorem Notice.before_asymm {x y : Notice} (hxy : x.before y) : ¬ y.before x := by
  unfold Notice.before at *
  cases hx : x.lastShown <;> cases hy : y.lastShown <;> simp [hx, hy] at * <;> omega

/-- An entry of a list that is before every entry ahead of it and that no entry behind it is before. -/
def Notice.bestOf (l : List Notice) (x : Notice) : Prop :=
  ∃ pre post, l = pre ++ x :: post ∧ (∀ y ∈ pre, x.before y) ∧ ∀ y ∈ post, ¬ y.before x

/-- Going on through the rest of a list from the best entry of its beginning. -/
theorem bestOf_foldl (ns : List Notice) : ∀ (l : List Notice) (n : Notice), n.bestOf l →
    Notice.bestOf (l ++ ns) (ns.foldl (fun best m => if m.beats best then m else best) n) := by
  induction ns with
  | nil => intro l n h; simpa using h
  | cons m ns ih =>
    intro l n h
    obtain ⟨pre, post, hl, hpre, hpost⟩ := h
    rw [List.foldl_cons, List.append_cons]
    refine ih (l ++ [m]) _ ?_
    by_cases hm : m.beats n = true
    · rw [if_pos hm]
      have hm := (m.beats_iff n).1 hm
      refine ⟨l, [], rfl, fun y hy => ?_, by simp⟩
      rw [hl, List.mem_append, List.mem_cons] at hy
      rcases hy with hy | rfl | hy
      · exact Notice.before_of_not hm (Notice.before_asymm (hpre y hy))
      · exact hm
      · exact Notice.before_of_not hm (hpost y hy)
    · rw [if_neg hm]
      refine ⟨pre, post ++ [m], by rw [hl]; simp, hpre, fun y hy => ?_⟩
      rcases List.mem_append.1 hy with hy | hy
      · exact hpost y hy
      · rw [List.mem_singleton.1 hy, ← Notice.beats_iff]
        exact hm

theorem bestNotice_nil : bestNotice [] = none := rfl

theorem bestNotice_best {l : List Notice} (h : l ≠ []) : ∃ x, bestNotice l = some x ∧ x.bestOf l := by
  cases l with
  | nil => exact absurd rfl h
  | cons n ns => exact ⟨_, rfl, bestOf_foldl ns [n] n ⟨[], [], rfl, by simp, by simp⟩⟩

/-- The ARMED entries of the queue. -/
def NoticeUnit.armed (u : NoticeUnit) : List Notice := u.queue.filter fun n => n.state = .armed

theorem NoticeUnit.selected_unshown {u : NoticeUnit} (h : u.shown = none) : u.selected = bestNotice u.armed := by
  rw [NoticeUnit.selected, h]
  rfl

theorem NoticeUnit.selected_higher {u : NoticeUnit} {z : Notice} (h : u.shown = some z) (hhigher : ∃ n ∈ u.armed, z.priority < n.priority) :
    u.selected = bestNotice u.armed := by
  have higher : (u.armed.any fun n => z.priority < n.priority) = true := by simpa using hhigher
  rw [NoticeUnit.selected, h]
  exact if_pos higher

theorem NoticeUnit.selected_level {u : NoticeUnit} {z : Notice} (h : u.shown = some z) (hlevel : ∀ n ∈ u.armed, n.priority ≤ z.priority) :
    u.selected = if u.hold.isNone then bestNotice (u.armed.filter fun n => n.priority = z.priority) else none := by
  have level : ¬ (u.armed.any fun n => z.priority < n.priority) = true := by simpa using hlevel
  rw [NoticeUnit.selected, h]
  exact if_neg level

/-! ## Door sides (R157, R158) -/

/-- The platform side of a stop lies as it is given: not mirrored, or mirrored twice. -/
def StopRec.plain (o : Orientation) (r : StopRec) : Prop := (r.status = .current ∧ r.reverse = true) ↔ o = .bForward

theorem StopRec.door_side1_iff (o : Orientation) (r : StopRec) :
    r.door o = .side1 ↔ (r.side = .left ∧ r.plain o) ∨ (r.side = .right ∧ ¬ r.plain o) := by
  unfold StopRec.door StopRec.plain
  by_cases h : r.status = .current ∧ r.reverse = true <;> cases hside : r.side <;> cases o <;> simp [h, doorOf, mirrorSide]

theorem StopRec.door_side2_iff (o : Orientation) (r : StopRec) :
    r.door o = .side2 ↔ (r.side = .right ∧ r.plain o) ∨ (r.side = .left ∧ ¬ r.plain o) := by
  unfold StopRec.door StopRec.plain
  by_cases h : r.status = .current ∧ r.reverse = true <;> cases hside : r.side <;> cases o <;> simp [h, doorOf, mirrorSide]

theorem StopRec.door_none_iff (o : Orientation) (r : StopRec) : r.door o = .none ↔ r.side = .none := by
  unfold StopRec.door
  by_cases h : r.status = .current ∧ r.reverse = true <;> cases hside : r.side <;> cases o <;> simp [h, doorOf, mirrorSide]

theorem StopRec.door_both_iff (o : Orientation) (r : StopRec) : r.door o = .both ↔ r.side = .both := by
  unfold StopRec.door
  by_cases h : r.status = .current ∧ r.reverse = true <;> cases hside : r.side <;> cases o <;> simp [h, doorOf, mirrorSide]

theorem DoorSide.has1_iff (d : DoorSide) : d.has1 = true ↔ d = .both ∨ d = .side1 := by cases d <;> simp [DoorSide.has1]

theorem DoorSide.has2_iff (d : DoorSide) : d.has2 = true ↔ d = .both ∨ d = .side2 := by cases d <;> simp [DoorSide.has2]

/-- A stop record lights the door-side outputs: the at-stop record, or the stop of a SHOWN ARRIVING entry while the fix state is not DEGRADED. -/
def Coach.lights (c : Coach) (r : StopRec) : Prop :=
  recordAt c.journey.list c.journey.atStop = some r
    ∨ ∃ n ∈ c.notices.queue, n.kind = .arriving ∧ n.state = .shown ∧ c.position.fix ≠ .degraded ∧ c.stopOf n.stop = some r

theorem Coach.any_litDoors (c : Coach) (has : DoorSide → Bool) :
    c.litDoors.any has = true ↔ ∃ r, c.lights r ∧ has (r.door c.journey.orientation) = true := by
  simp only [Coach.litDoors, List.any_append, Bool.or_eq_true, List.any_eq_true, Option.mem_toList, Option.map_eq_some_iff,
    List.mem_filterMap, List.mem_filter, Bool.and_eq_true, decide_eq_true_eq, bne_iff_ne, Coach.lights]
  constructor
  · rintro (⟨d, ⟨r, hr, rfl⟩, hd⟩ | ⟨d, ⟨n, ⟨hn, ⟨hkind, hstate⟩, hfix⟩, r, hr, rfl⟩, hd⟩)
    · exact ⟨r, .inl hr, hd⟩
    · exact ⟨r, .inr ⟨n, hn, hkind, hstate, hfix, hr⟩, hd⟩
  · rintro ⟨r, hr | ⟨n, hn, hkind, hstate, hfix, hr⟩, hd⟩
    · exact .inl ⟨_, ⟨r, hr, rfl⟩, hd⟩
    · exact .inr ⟨_, ⟨n, ⟨hn, ⟨hkind, hstate⟩, hfix⟩, r, hr, rfl⟩, hd⟩

/-! ## The page (R155, R156) -/

/-- The destination that a page carries. -/
def Coach.destination (e : Env) (c : Coach) : Option ShortName :=
  if c.journey.phase = .empty then none else (recordAt c.journey.list (lastCallIndex c.journey.list e.portion)).map StopRec.name

/-- The door side that a page gives of the stop of its notice. -/
def Coach.pageDoor (c : Coach) (r : Option StopRec) : DoorSide :=
  match r with
  | some r => if r.status = .current ∨ c.position.fix ≠ .degraded then r.door c.journey.orientation else .none
  | none => .none

theorem Coach.pageFields_idle {e : Env} {c : Coach} (h : c.notices.shown = none) :
    c.pageFields e = ⟨none, none, none, none, none, .none, none, [], c.destination e, e.coachNumber⟩ := by
  rw [Coach.pageFields, h]
  rfl

theorem Coach.pageFields_shown {e : Env} {c : Coach} {n : Notice} (h : c.notices.shown = some n) :
    c.pageFields e = ⟨some n.id, some n.kind, (c.stopOf n.stop).map StopRec.name, (c.stopOf n.stop).bind StopRec.platform,
      (c.stopOf n.stop).bind StopRec.arrival, c.pageDoor (c.stopOf n.stop), n.text,
      (n.text.map fun i => c.notices.texts.getD i []).getD [], c.destination e, e.coachNumber⟩ := by
  rw [Coach.pageFields, h]
  rfl

theorem Coach.callsForPage_iff (c : Coach) (g : NoticeChange) :
    c.callsForPage g = true ↔ g = .clockSet ∨ ∃ k n, g = .textSet k ∧ c.notices.shown = some n ∧ n.text = some k := by
  cases g <;> simp [Coach.callsForPage, Option.any_eq_true]

/-- What is handed to the reservation unit, as the fields of each entry. -/
theorem NoticeUnit.seatNotices_eq_iff (u v : NoticeUnit) : u.seatNotices = v.seatNotices
    ↔ ((u.queue.filter fun n => n.kind = .nextStop || n.kind = .arriving).map fun n => (n.id, n.kind, n.stop, n.state))
      = (v.queue.filter fun n => n.kind = .nextStop || n.kind = .arriving).map fun n => (n.id, n.kind, n.stop, n.state) := by
  have tuple : ∀ n m : SeatNotice, (n.id, n.kind, n.stop, n.state) = (m.id, m.kind, m.stop, m.state) → n = m := by
    rintro ⟨i, k, s, t⟩ ⟨i', k', s', t'⟩ h
    simpa using h
  rw [← List.map_inj_right tuple, NoticeUnit.seatNotices, NoticeUnit.seatNotices, List.map_map, List.map_map]
  rfl

theorem Coach.chosenFor_fields (e : Env) (g : NoticeChange) (c : Coach) :
    ((c.armedFor e g).selectNotice e).notices.fields = c.notices.fields := by
  have fields := congrArg NoticeUnit.fields (c.chosenFor_rest e g)
  exact fields

theorem Coach.chosenFor_pageDue (e : Env) (g : NoticeChange) (c : Coach) :
    ((c.armedFor e g).selectNotice e).notices.pageDue = c.notices.pageDue := by
  have due := congrArg NoticeUnit.pageDue (c.chosenFor_rest e g)
  exact due

theorem Coach.pagedFor_pageDue (e : Env) (g : NoticeChange) (c : Coach) :
    (c.pagedFor e g).notices.pageDue = true ↔ c.notices.pageDue = true ∨ (c.armedFor e g).notices.selected ≠ none
      ∨ (c.litFor e g).pageFields e ≠ c.notices.fields
      ∨ g = .clockSet ∨ ∃ k n, g = .textSet k ∧ (c.litFor e g).notices.shown = some n ∧ n.text = some k := by
  rw [show (c.pagedFor e g).notices.pageDue
      = (((c.armedFor e g).selectNotice e).notices.pageDue
        || ((c.armedFor e g).notices.selected.isSome || ((c.armedFor e g).selectNotice e).callsForPage g)
        || (c.litFor e g).pageFields e != ((c.armedFor e g).selectNotice e).notices.fields) from rfl, Coach.chosenFor_pageDue, Coach.chosenFor_fields]
  simp only [Bool.or_eq_true, bne_iff_ne, Coach.callsForPage_iff, Option.isSome_iff_ne_none]
  rw [show (c.litFor e g).notices.shown = ((c.armedFor e g).selectNotice e).notices.shown from rfl]
  simp only [or_left_comm, or_comm]

/-- Settles O49: a change step by step; the page; the best entry by the order of R151; the selection entry by entry; the doors by the stops. -/
theorem noticeSelectionAndDoors : Obligations.NoticeSelectionAndDoors := by
  refine ⟨fun e c g => ?_, fun e c => ?_, fun u => ?_, fun e c => ⟨Coach.selectNotice_none, fun x hx => ?_⟩, fun c => ?_⟩
  · refine ⟨c.noticeQueueStep e g, c.armedFor e g, (c.armedFor e g).selectNotice e, c.litFor e g, c.pagedFor e g, _, _, rfl, rfl,
      fun harms => if_pos (g.arms_iff.2 harms), fun hquiet => if_neg (mt g.arms_iff.1 hquiet), rfl, rfl,
      c.chosenFor_fields e g, rfl, c.pagedFor_pageDue e g, fun _ => rfl, fun hsame => ?_, fun hdiffers => ?_⟩
    · rw [Coach.notice_eq, if_pos ((NoticeUnit.seatNotices_eq_iff _ _).2 hsame)]
    · rw [Coach.notice_eq, if_neg (mt (NoticeUnit.seatNotices_eq_iff _ _).1 hdiffers)]
  · refine ⟨c.pageFields e, c.destination e, StopRec.plain c.journey.orientation, rfl, fun h => if_pos h, fun h => if_neg h, fun _ => rfl,
      Coach.pageFields_idle, fun n r hshown hr => ?_⟩
    subst hr
    rw [Coach.pageFields_shown hshown]
    refine ⟨rfl, fun htext => by simp [htext], fun k t htext hk => by simp [htext, hk, List.getD_eq_getElem?_getD], fun hnone => ?_,
      fun y hy haway hdegraded => ?_, fun y hy hknown => ?_⟩
    · simp [hnone, Coach.pageDoor]
    · simp [hy, Coach.pageDoor, haway, hdegraded]
    · have door : c.pageDoor (c.stopOf n.stop) = y.door c.journey.orientation := by
        rw [hy]
        exact if_pos hknown
      simp only [door]
      exact ⟨y.door_none_iff _, y.door_both_iff _, y.door_side1_iff _, y.door_side2_iff _⟩
  · refine ⟨u.armed, Notice.before, Notice.bestOf, rfl, fun _ _ => rfl, fun _ _ => rfl, fun hunshown => ⟨fun hnone => ?_, fun hsome => ?_⟩,
      fun z hz => ⟨fun hhigher => ?_, fun hlevel => ⟨fun hheld => ?_, fun hover hnone => ?_, fun hover hsome => ?_⟩⟩⟩
    · rw [NoticeUnit.selected_unshown hunshown, hnone]
      rfl
    · rw [NoticeUnit.selected_unshown hunshown]
      exact bestNotice_best hsome
    · rw [NoticeUnit.selected_higher hz hhigher]
      obtain ⟨n, hn, -⟩ := hhigher
      exact bestNotice_best (List.ne_nil_of_mem hn)
    · rw [NoticeUnit.selected_level hz hlevel, if_neg (by simpa using hheld)]
    · have empty : (u.armed.filter fun n => n.priority = z.priority) = [] := by simpa [List.filter_eq_nil_iff] using hnone
      rw [NoticeUnit.selected_level hz hlevel, empty]
      simp [bestNotice_nil]
    · obtain ⟨n, hn, hpriority⟩ := hsome
      rw [NoticeUnit.selected_level hz hlevel, if_pos (by simp [hover])]
      exact bestNotice_best (List.ne_nil_of_mem (List.mem_filter.2 ⟨hn, by simpa using hpriority⟩))
  · refine ⟨c.selectNotice e, rfl, ?_, ?_, fun k n hn => ?_⟩
    · rw [Coach.selectNotice_some hx]
      rfl
    · simp [Coach.selectNotice_queue]
    · have after : (c.selectNotice e).notices.queue[k]? = some (n.chosenBy e (some x)) := by
        rw [Coach.selectNotice_queue, hx, List.getElem?_map, hn]
        rfl
      rw [after]
      exact ⟨fun hid => congrArg some (if_pos hid), fun hid hshown => congrArg some ((if_neg hid).trans (if_pos hshown)),
        fun hid hquiet => congrArg some ((if_neg hid).trans (if_neg hquiet))⟩
  · refine ⟨c.evalDoors, c.lights, StopRec.plain c.journey.orientation, rfl, rfl, fun _ => rfl, fun _ => rfl, ?_, ?_⟩
    · rw [show c.evalDoors.notices.door1 = c.litDoors.any DoorSide.has1 from rfl, Coach.any_litDoors]
      simp only [DoorSide.has1_iff, StopRec.door_both_iff, StopRec.door_side1_iff]
    · rw [show c.evalDoors.notices.door2 = c.litDoors.any DoorSide.has2 from rfl, Coach.any_litDoors]
      simp only [DoorSide.has2_iff, StopRec.door_both_iff, StopRec.door_side2_iff]

end Sys2Proof.Machine
end

section
/-! # Texts, clock, timers and the panel line (8.4 to 8.8) -/
namespace Sys2Proof.Machine

/-! ## SET TEXT and SET CLOCK (R153, R154) -/

theorem textOk_iff (text : List Byte) : textOk text = true ↔ text.length ≤ 64 ∧ ∀ c ∈ text, 32 ≤ c.toNat ∧ c.toNat ≤ 126 := by
  simp [textOk]

theorem exec_setText {s : State} {q : LinePort} (h : s.leads q) (n : Nat) (text : List Byte) :
    exec (.setText (.line q) n text) s = .next (State.answer (.line q) 23 (setTextBody n text s.renewed).2.status
      (setTextBody n text s.renewed).2.results (setTextBody n text s.renewed).1) :=
  live_leadOnly h 23 fun _ => setTextBody n text

theorem setTextBody_refused {n : Nat} {text : List Byte} (h : 31 < n ∨ ¬ textOk text = true) (s : State) :
    setTextBody n text s = refuse .badField s := by
  rw [setTextBody, judge_cons, if_pos (decide_eq_true h)]

theorem setTextBody_accepted {n : Nat} {text : List Byte} (hn : n ≤ 31) (htext : textOk text = true) (s : State) :
    setTextBody n text s = (s.onCoach (Coach.setText n text), { status := .accepted }) := by
  have passes : ¬ (31 < n ∨ ¬ textOk text = true) := by simp [htext, hn]
  rw [setTextBody, judge_cons, if_neg (by simpa using passes), judge_nil, acceptCoach]

theorem exec_setClock {s : State} {q : LinePort} (h : s.leads q) (minute second : Nat) :
    exec (.setClock (.line q) minute second) s = .next (State.answer (.line q) 24 (setClockBody minute second s.renewed).2.status
      (setClockBody minute second s.renewed).2.results (setClockBody minute second s.renewed).1) :=
  live_leadOnly h 24 fun _ => setClockBody minute second

theorem setClockBody_refused {minute second : Nat} (h : 1439 < minute ∨ 59 < second) (s : State) :
    setClockBody minute second s = refuse .badField s := by
  rw [setClockBody, judge_cons, if_pos (decide_eq_true h)]

theorem setClockBody_accepted {minute second : Nat} (hminute : minute ≤ 1439) (hsecond : second ≤ 59) (s : State) :
    setClockBody minute second s = (s.onCoach (Coach.setClock minute second), { status := .accepted }) := by
  have passes : ¬ (1439 < minute ∨ 59 < second) := by omega
  rw [setClockBody, judge_cons, if_neg (by simpa using passes), judge_nil, acceptCoach]

/-- A plain change without an arm test leaves the coach as it was up to the selection. -/
theorem Coach.armedFor_plain (e : Env) {g : NoticeChange} (h : g.plain = true) (hquiet : g.arms = false) (c : Coach) : c.armedFor e g = c := by
  rw [Coach.armedFor, if_neg (by simp [hquiet]), Coach.noticeQueueStep_plain e h]

/-- A new text of the SHOWN entry makes a page fall due, whether or not the selection then shows another (R153, R156). -/
theorem Coach.notice_textSet_pageDue (e : Env) {c : Coach} {n : Nat} {m : Notice} (hshown : c.notices.shown = some m) (htext : m.text = some n) :
    (c.notice e (.textSet n)).notices.pageDue = true := by
  rw [Coach.notice_notices, Coach.pagedFor_pageDue]
  by_cases hselected : (c.armedFor e (.textSet n)).notices.selected = none
  · have shown : (c.litFor e (.textSet n)).notices.shown = some m := by
      rw [show (c.litFor e (.textSet n)).notices.shown = ((c.armedFor e (.textSet n)).selectNotice e).notices.shown from rfl,
        Coach.selectNotice_none hselected, Coach.armedFor_plain e rfl rfl, hshown]
    exact .inr (.inr (.inr (.inr ⟨n, m, rfl, shown, htext⟩)))
  · exact .inr (.inl hselected)

theorem Coach.notice_clockSet_pageDue (e : Env) (c : Coach) : (c.notice e .clockSet).notices.pageDue = true := by
  rw [Coach.notice_notices, Coach.pagedFor_pageDue]
  exact .inr (.inr (.inr (.inl rfl)))

/-- Every change of the notice unit leaves texts, clock and seconds as they were. -/
theorem Coach.notice_texts (e : Env) (g : NoticeChange) (c : Coach) : (c.notice e g).notices.texts = c.notices.texts
    ∧ (c.notice e g).notices.clock = c.notices.clock ∧ (c.notice e g).notices.secondAt = c.notices.secondAt := by
  have kept := c.notice_kept e g
  simp only [NoticeUnit.kept, Prod.mk.injEq] at kept
  obtain ⟨htexts, hclock, hsecond, -⟩ := kept
  exact ⟨htexts, hclock, hsecond⟩

/-- Settles O50: the checks, then what the table or the clock takes, with the change of the notice unit after it. -/
theorem textsAndClockAreSet : Obligations.TextsAndClockAreSet := by
  intro s q n minute second text hleads
  refine ⟨fun hout => ?_, fun hn hlength hchars => ?_, fun hout => ?_, fun hminute hsecond => ?_⟩
  · have outside : 31 < n ∨ ¬ textOk text = true := by
      rw [textOk_iff]
      rcases hout with h | h | ⟨c, hc, h⟩
      · exact .inl h
      · exact .inr fun hok => by omega
      · exact .inr fun hok => by have := hok.2 c hc; omega
    rw [exec_setText hleads, setTextBody_refused outside, refuse]
  · have texts := Coach.notice_texts s.env (.textSet n)
      { s.coach with notices := { s.coach.notices with texts := s.coach.notices.texts.set n text } }
    have quiet := Coach.notice_plain_reports s.env (g := .textSet n) rfl
      { s.coach with notices := { s.coach.notices with texts := s.coach.notices.texts.set n text } }
    refine ⟨s.renewed.onCoach (Coach.setText n text), ?_, texts.1, texts.2.1,
      fun m hshown htext => Coach.notice_textSet_pageDue s.env hshown htext, ⟨rfl, rfl, rfl, rfl, rfl, rfl, rfl, rfl, rfl⟩, rfl, by simp [State.onCoach], by simp [State.onCoach],
      by simp [State.onCoach], by simp [State.onCoach], by simp [State.onCoach], by simp [State.onCoach, Coach.setText], quiet.1, quiet.2⟩
    rw [exec_setText hleads, setTextBody_accepted hn ((textOk_iff text).2 ⟨hlength, hchars⟩)]
  · rw [exec_setClock hleads, setClockBody_refused hout, refuse]
  · have texts := Coach.notice_texts s.env .clockSet
      { s.coach with notices := { s.coach.notices with clock := some ⟨minute, second⟩, secondAt := some (s.now + 24000000) } }
    have quiet := Coach.notice_plain_reports s.env (g := .clockSet) rfl
      { s.coach with notices := { s.coach.notices with clock := some ⟨minute, second⟩, secondAt := some (s.now + 24000000) } }
    refine ⟨s.renewed.onCoach (Coach.setClock minute second), ?_, texts.2.1, texts.2.2, texts.1, Coach.notice_clockSet_pageDue s.env _,
      ⟨rfl, rfl, rfl, rfl, rfl, rfl, rfl, rfl, rfl⟩, rfl, by simp [State.onCoach], by simp [State.onCoach],
      by simp [State.onCoach], by simp [State.onCoach], by simp [State.onCoach], by simp [State.onCoach, Coach.setClock], quiet.1, quiet.2⟩
    rw [exec_setClock hleads, setClockBody_accepted hminute hsecond]

/-! ## The timers of the notice unit (R150, R152, R154, R159) -/

/-- The hold after a plain change without an arm test: as it was, or begun anew by a selection. -/
theorem Coach.notice_plain_hold (e : Env) {g : NoticeChange} (h : g.plain = true) (hquiet : g.arms = false) (c : Coach) :
    (c.notice e g).notices.hold = c.notices.hold
      ∨ (c.notice e g).notices.hold = some ((e.now / 24000 + e.params.showMin * 1000) * 24000) := by
  rw [Coach.notice_notices, show (c.pagedFor e g).notices.hold = ((c.armedFor e g).selectNotice e).notices.hold from rfl,
    Coach.armedFor_plain e h hquiet]
  cases hselected : c.notices.selected with
  | none => exact .inl (by rw [Coach.selectNotice_none hselected])
  | some x => exact .inr (by rw [Coach.selectNotice_some hselected]; rfl)

theorem exec_showMinExpiry {s : State} (h : s.inReset = false) {d : Nat} (hd : s.coach.notices.hold = some d) :
    exec .showMinExpiry s = .next ((s.runTo d).onCoach fun e c =>
      Coach.notice e .other { c with notices := { c.notices with hold := none } }) := by
  refine (exec_of_live h (f := fun s => match s.coach.notices.hold with
    | some d => (s.runTo d).onCoach fun e c => Coach.notice e .other { c with notices := { c.notices with hold := none } }
    | none => s) rfl).trans ?_
  simp only [hd]

theorem exec_afterSecondsExpiry {s : State} (h : s.inReset = false) {n : Notice} {k f : Nat}
    (hfind : (s.coach.notices.queue.find? fun m => m.id = n.id) = some n) (hends : n.ends = .afterSeconds k) (hfirst : n.firstShown = some f) :
    exec (.afterSecondsExpiry n.id) s
      = .next ((s.runTo ((f + k * 1000) * 24000)).onCoach fun e c => c.notice e (.ended n.id 2)) := by
  have hexpires : n.expiresAt = some ((f + k * 1000) * 24000) := by
    rw [Notice.expiresAt, hends, hfirst]
    rfl
  refine (exec_of_live h (f := fun s => match (s.coach.notices.queue.find? fun m => m.id = n.id).bind Notice.expiresAt with
    | some d => (s.runTo d).onCoach fun e c => c.notice e (.ended n.id 2)
    | none => s) rfl).trans ?_
  simp only [hfind, Option.bind_some, hexpires]

theorem exec_chimeEnd {s : State} (h : s.inReset = false) {d : Nat} (hd : s.coach.notices.chimeUntil = some d) :
    exec .chimeEnd s = .next ((s.runTo d).onCoach fun _ c => c.onNotices fun u => { u with chimeUntil := none }) := by
  refine (exec_of_live h (f := fun s => match s.coach.notices.chimeUntil with
    | some d => (s.runTo d).onCoach fun _ c => c.onNotices fun u => { u with chimeUntil := none }
    | none => s) rfl).trans ?_
  simp only [hd]

/-- CLOCK SECOND: a valid clock advances, with its next second a second on. -/
def State.clockSecond (s : State) : State :=
  match s.coach.notices.clock, s.coach.notices.secondAt with
  | some k, some d =>
    (s.runTo d).onCoach fun _ c => c.onNotices fun u => { u with clock := some k.tick, secondAt := some (d + 24000000) }
  | _, _ => s

theorem exec_clockSecond {s : State} (h : s.inReset = false) : exec .clockSecond s = .next s.clockSecond :=
  exec_of_live h (f := State.clockSecond) rfl

theorem Clock.tick_within (k : Clock) (h : k.second < 59) : k.tick = ⟨k.minute, k.second + 1⟩ := if_pos h

theorem Clock.tick_minute (k : Clock) (h : k.second = 59) (hminute : k.minute < 1439) : k.tick = ⟨k.minute + 1, 0⟩ := by
  simp [Clock.tick, h, hminute]

theorem Clock.tick_midnight (k : Clock) (h : k.second = 59) (hminute : k.minute = 1439) : k.tick = ⟨0, 0⟩ := by
  simp [Clock.tick, h, hminute]

/-! ## The panel line (R155, R156, R196) -/

theorem exec_pageStart {s : State} (h : s.inReset = false) : exec .pageStart s
    = .next (if s.coach.notices.pageDue ∧ s.coach.notices.sending.isNone then s.onCoach Coach.beginPage else s) :=
  exec_of_live h (f := fun s => if s.coach.notices.pageDue ∧ s.coach.notices.sending.isNone then s.onCoach Coach.beginPage else s) rfl

theorem exec_pageEnd {s : State} (h : s.inReset = false) {x : PageSending} (hx : s.coach.notices.sending = some x) :
    exec .pageEnd s = .next ((s.runTo x.endsAt).onCoach fun _ c => c.onNotices fun u => { u with sending := none }) := by
  refine (exec_of_live h (f := fun s => match s.coach.notices.sending with
    | some x => (s.runTo x.endsAt).onCoach fun _ c => c.onNotices fun u => { u with sending := none }
    | none => s) rfl).trans ?_
  simp only [hx]

theorem exec_pageRefresh {s : State} (h : s.inReset = false) {d : Nat} (hd : s.coach.notices.refreshAt = some d) :
    exec .pageRefresh s = .next ((s.runTo d).onCoach fun _ c => c.onNotices fun u => { u with pageDue := true, refreshAt := none }) := by
  refine (exec_of_live h (f := fun s => match s.coach.notices.refreshAt with
    | some d => (s.runTo d).onCoach fun _ c => c.onNotices fun u => { u with pageDue := true, refreshAt := none }
    | none => s) rfl).trans ?_
  simp only [hd]

/-- A change of the coach after the clock has run, on what its own state hands it. -/
theorem State.onCoach_runTo_coach (f : Env → Coach → Coach) (s : State) (d : Nat) :
    ((s.runTo d).onCoach f).coach = f ((s.runTo d).onCoach f).env s.coach := rfl

/-- Where reports go does not depend on the clock. -/
theorem State.raise_runTo (s : State) (d : Nat) (c : Coach) (r : Report) : c.raise (s.runTo d).env r = c.raise s.env r := rfl

/-- Settles O51: each timer as its command, hold and AFTER_SECONDS with the change of the notice unit that they are. -/
theorem noticeTimersAndPages : Obligations.NoticeTimersAndPages := by
  intro s hlive
  refine ⟨fun d hd => ?_, fun n k f hfind hends hfirst => ?_, fun d hd => exec_chimeEnd hlive hd, fun k d hk hd => ?_, fun hnone => ?_,
    fun hdue hfree => ?_, fun hquiet => ?_, fun x hx => exec_pageEnd hlive hx, fun d hd => exec_pageRefresh hlive hd⟩
  · have quiet := Coach.notice_plain_reports (s.runTo d).env (g := .other) rfl
      { s.coach with notices := { s.coach.notices with hold := none } }
    refine ⟨_, exec_showMinExpiry hlive hd, rfl, by simp [State.onCoach, State.runTo], by simp [State.onCoach, State.runTo],
      State.onCoach_runTo_coach _ s d, quiet.1,
      quiet.2, ?_, Coach.notice_plain_hold (s.runTo d).env (g := .other) rfl rfl _⟩
    refine (Coach.notice_queue_ids _ _ _).trans ?_
    rw [Coach.noticeQueueStep_plain _ rfl]
    rfl
  · have run := exec_afterSecondsExpiry hlive hfind hends hfirst
    generalize (f + k * 1000) * 24000 = d at run ⊢
    refine ⟨_, run, rfl, State.onCoach_runTo_coach _ s d, ?_,
      by simp [State.onCoach, State.runTo], by simp [State.onCoach, State.runTo], by simp [State.onCoach, State.runTo],
      fun hone p => ?_⟩
    · rw [State.onCoach_runTo_coach]
      exact Coach.notice_ended_ids _ n.id 2 s.coach
    have reports := Coach.notice_ended_reports (s.runTo d).env (cause := 2) hone p
    rw [show 2 * 256 + n.id = 512 + n.id from rfl, State.raise_runTo] at reports
    rw [State.onCoach_coach]
    exact reports
  · refine ⟨k.tick, ?_, k.tick_within, k.tick_minute, k.tick_midnight⟩
    rw [exec_clockSecond hlive, State.clockSecond, hk, hd]
    rfl
  · rw [exec_clockSecond hlive, State.clockSecond, hnone]
  · refine ⟨s.onCoach Coach.beginPage, _, ?_, rfl, ?_⟩
    · rw [exec_pageStart hlive, if_pos ⟨hdue, by simp [hfree]⟩]
    · rw [State.onCoach, Coach.beginPage_eq]
      rfl
  · rw [exec_pageStart hlive, if_neg]
    rintro ⟨hdue, hfree⟩
    exact hquiet.elim (by simp [hdue]) (absurd (Option.isNone_iff_eq_none.1 hfree))

end Sys2Proof.Machine
end

section
/-! # The strip timers, the report unit and CONFIGURE (9.3, 9.4, 10.4 to 10.6) -/
namespace Sys2Proof.Machine

/-! ## The timers of the strip (R166, R169, R170, R172) -/

theorem exec_driveFrameBoundary {s : State} (h : s.inReset = false) {d : Nat} (hd : s.coach.map.frameAt = some d) :
    exec .driveFrameBoundary s = .next ((s.runTo d).onCoach fun _ c => c.driveFrame (d + 120000)) := by
  refine (exec_of_live h (f := fun s => match s.coach.map.frameAt with
    | some d => (s.runTo d).onCoach fun _ c => c.driveFrame (d + 120000)
    | none => s) rfl).trans ?_
  simp only [hd]

theorem exec_stepTimerExpiry {s : State} (h : s.inReset = false) {d : Nat} (hd : s.coach.map.stepAt = some d) :
    exec .stepTimerExpiry s = .next ((s.runTo d).onCoach Coach.mapStepTimer) := by
  refine (exec_of_live h (f := fun s => match s.coach.map.stepAt with
    | some d => (s.runTo d).onCoach Coach.mapStepTimer
    | none => s) rfl).trans ?_
  simp only [hd]

theorem MapUnit.boundary_driven (o : Orientation) (m : MapUnit) {k : Nat} (hk : k < 48) :
    (m.boundary o).driven[k]? = some (m.shadow.getD (if o = .bForward then 47 - k else k) .forcedOff) := by
  simp [MapUnit.boundary, drivenBy, hk]

/-- The step timer steps the marker, or stops (R170). -/
theorem Coach.mapStepTimer_moves (e : Env) {c : Coach} (h : c.journey.phase ≠ .empty ∧ c.map.target ≠ c.map.marker) :
    c.mapStepTimer e = { c with map := MapUnit.step e c.journey c.position c.map } := if_pos h

theorem Coach.mapStepTimer_stops (e : Env) {c : Coach} (h : ¬ (c.journey.phase ≠ .empty ∧ c.map.target ≠ c.map.marker)) :
    c.mapStepTimer e = { c with map := { c.map with stepAt := none } } := if_neg h

theorem Coach.mapStepTimer_target (e : Env) (c : Coach) : (c.mapStepTimer e).map.target = c.map.target := by
  unfold Coach.mapStepTimer
  split <;> rfl

theorem Coach.mapStepTimer_map (e : Env) (c : Coach) : c.mapStepTimer e = { c with map := (c.mapStepTimer e).map } := by
  unfold Coach.mapStepTimer
  split <;> rfl

/-- Settles O53: the boundary dot by dot, the step timer by its three outcomes. -/
theorem stripFramesAndSteps : Obligations.StripFramesAndSteps := by
  intro s d hlive
  refine ⟨fun hd => ⟨_, exec_driveFrameBoundary hlive hd, rfl, fun k hk => MapUnit.boundary_driven _ _ hk⟩, fun hd => ?_⟩
  refine ⟨_, exec_stepTimerExpiry hlive hd, ?_, Coach.mapStepTimer_target _ _, fun hstops => ?_, fun hphase habove => ?_,
    fun hphase hbelow => ?_⟩
  · exact congrArg (fun c => { s with now := max s.now d, coach := c }) (Coach.mapStepTimer_map (s.runTo d).env s.coach)
  · have stops : ¬ (s.coach.journey.phase ≠ .empty ∧ s.coach.map.target ≠ s.coach.map.marker) := by
      rintro ⟨hphase, hmoves⟩
      exact hstops.elim hphase hmoves
    rw [State.onCoach_coach, State.runTo_coach, Coach.mapStepTimer_stops _ stops]
  · rw [State.onCoach_coach, State.runTo_coach, Coach.mapStepTimer_moves _ ⟨hphase, by omega⟩]
    exact ⟨if_pos habove, rfl⟩
  · rw [State.onCoach_coach, State.runTo_coach, Coach.mapStepTimer_moves _ ⟨hphase, by omega⟩]
    exact ⟨if_neg (by omega), rfl⟩

/-! ## Reports (R187 to R190) -/

theorem PortReports.push_within {x : PortReports} (h : x.queue.length < 16) (r : Report) : x.push r = { x with queue := x.queue ++ [r] } :=
  if_pos h

theorem PortReports.push_full {x : PortReports} (h : x.queue.length = 16) (r : Report) :
    x.push r = { x with queue := x.queue.drop 1 ++ [r], flags := { x.flags with reportOverrun := true } } := by
  rw [PortReports.push, if_neg (by omega), h]
  rfl

theorem Env.routes_iff (e : Env) (p : LinePort) :
    e.routes p = true ↔ e.lead = some p ∨ (e.lead = none ∧ (if p = .a then e.upA else e.upB) = true) := by
  cases hlead : e.lead with
  | none => cases p <;> simp [Env.routes, hlead]
  | some q => cases q <;> cases p <;> simp [Env.routes, hlead]

theorem Env.not_routes_iff (e : Env) (p : LinePort) :
    e.routes p = false ↔ e.lead = some p.other ∨ (e.lead = none ∧ (if p = .a then e.upA else e.upB) = false) := by
  cases hlead : e.lead with
  | none => cases p <;> simp [Env.routes, hlead]
  | some q => cases q <;> cases p <;> simp [Env.routes, hlead, LinePort.other]

theorem leBytes_length (n v : Nat) : (leBytes n v).length = n := by
  induction n generalizing v with
  | zero => rfl
  | succ n ih => simp [leBytes, ih]

theorem Report.chars_length (r : Report) : r.chars.length = 18 := by
  simp [Report.chars, leBytes_length, optBytes, intBytes]

/-- The command of FETCH REPORT, judged for a line port. -/
theorem exec_fetchReport {s : State} {q : LinePort} (h : s.takes (.line q)) :
    exec (.fetchReport (.line q)) s = .next (State.answer (.line q) 27 (fetchReportBody q (s.renew (.line q))).2.status
      (fetchReportBody q (s.renew (.line q))).2.results (fetchReportBody q (s.renew (.line q))).1) :=
  live_request h 27 (lineOnly (.line q) fetchReportBody)

theorem exec_ackConditions {s : State} {q : LinePort} (h : s.takes (.line q)) (m : Byte) :
    exec (.ackConditions (.line q) m) s = .next (State.answer (.line q) 28 (ackConditionsBody m q (s.renew (.line q))).2.status
      (ackConditionsBody m q (s.renew (.line q))).2.results (ackConditionsBody m q (s.renew (.line q))).1) :=
  live_request h 28 (lineOnly (.line q) (ackConditionsBody m))

theorem exec_setAttentionMask {s : State} {q : LinePort} (h : s.takes (.line q)) (m : Byte) :
    exec (.setAttentionMask (.line q) m) s = .next (State.answer (.line q) 29 (setAttentionMaskBody m q (s.renew (.line q))).2.status
      (setAttentionMaskBody m q (s.renew (.line q))).2.results (setAttentionMaskBody m q (s.renew (.line q))).1) :=
  live_request h 29 (lineOnly (.line q) (setAttentionMaskBody m))

theorem Coach.setReports_other (c : Coach) (q : LinePort) (r : PortReports) : (c.setReports q r).reports q.other = c.reports q.other := by
  cases q <;> rfl

theorem not_of_ite_succ_eq_zero {p : Prop} [Decidable p] {n m : Nat} (h : (if p then n + 1 else m) = 0) : ¬ p ∧ m = 0 := by
  by_cases hp : p
  · rw [if_pos hp] at h
    exact absurd h (Nat.succ_ne_zero n)
  · exact ⟨hp, (if_neg hp).symm.trans h⟩

theorem Conditions.top_eq_zero {f : Conditions} (h : f.top = 0) (k : Condition) : f.get k = false := by
  obtain ⟨restarted, h⟩ := not_of_ite_succ_eq_zero h
  obtain ⟨leadLost, h⟩ := not_of_ite_succ_eq_zero h
  obtain ⟨leadChanged, h⟩ := not_of_ite_succ_eq_zero h
  obtain ⟨positionDegraded, h⟩ := not_of_ite_succ_eq_zero h
  obtain ⟨seatLineFault, h⟩ := not_of_ite_succ_eq_zero h
  obtain ⟨reportOverrun, -⟩ := not_of_ite_succ_eq_zero h
  cases k
  case restarted => exact Bool.eq_false_iff.2 restarted
  case leadLost => exact Bool.eq_false_iff.2 leadLost
  case leadChanged => exact Bool.eq_false_iff.2 leadChanged
  case positionDegraded => exact Bool.eq_false_iff.2 positionDegraded
  case seatLineFault => exact Bool.eq_false_iff.2 seatLineFault
  case reportOverrun => exact Bool.eq_false_iff.2 reportOverrun

theorem Conditions.any_iff (f : Conditions) : f.any = true ↔ ∃ k, f.get k = true := by
  constructor
  · intro h
    refine Classical.byContradiction fun hunset => ?_
    have hnone : ∀ k, ¬ f.get k = true := fun k hk => hunset ⟨k, hk⟩
    have h1 := hnone .restarted
    have h2 := hnone .leadLost
    have h3 := hnone .leadChanged
    have h4 := hnone .positionDegraded
    have h5 := hnone .seatLineFault
    have h6 := hnone .reportOverrun
    simp only [Conditions.get] at h1 h2 h3 h4 h5 h6
    simp [Conditions.any, Conditions.top, h1, h2, h3, h4, h5, h6] at h
  · rintro ⟨k, hk⟩
    rw [Conditions.any, bne_iff_ne]
    intro htop
    rw [Conditions.top_eq_zero htop k] at hk
    cases hk

theorem Conditions.enabled_get (f mask : Conditions) (k : Condition) : (f.enabled mask).get k = (f.get k && mask.get k) := by
  cases k <;> rfl

/-- The attention output: a report waits, or a flag is set with its enable on (R189). -/
theorem PortReports.attention_iff (x : PortReports) :
    x.attention = true ↔ x.queue ≠ [] ∨ ∃ k, x.flags.get k = true ∧ x.mask.get k = true := by
  simp [PortReports.attention, Conditions.any_iff, Conditions.enabled_get]

/-- Settles O54: a report by its route and the room there, the three requests of the report unit, the attention output flag by flag. -/
theorem reportsAreRoutedAndBounded : Obligations.ReportsAreRoutedAndBounded := by
  refine ⟨fun e r c p x hx => ?_, fun s q htakes => ?_, fun s q m f htakes hf => ?_, PortReports.attention_iff⟩
  · subst hx
    refine ⟨fun hroute => ?_, fun hroute => ?_, rfl⟩
    · rw [Coach.raise_reports, if_pos ((e.routes_iff p).2 hroute)]
      exact ⟨fun h => PortReports.push_within h r, fun h => PortReports.push_full h r⟩
    · rw [Coach.raise_reports, if_neg (by rw [(e.not_routes_iff p).2 hroute]; simp)]
  · rw [exec_fetchReport htakes]
    refine ⟨fun hempty => ?_, fun r rest hqueue => ?_⟩
    · have empty : ((s.renew (.line q)).coach.reports q).queue = [] := by simpa using hempty
      rw [fetchReportBody, empty]
      rfl
    · have waiting : ((s.renew (.line q)).coach.reports q).queue = r :: rest := by simpa using hqueue
      refine ⟨(s.renew (.line q)).onReports q fun x => { x with queue := rest }, ?_, ?_, ?_, r.chars_length⟩
      · rw [fetchReportBody, waiting]
        rfl
      · simp [State.onReports]
      · simp [State.onReports, Coach.setReports_other]
  · subst hf
    refine ⟨⟨_, (ackConditionsBody m q (s.renew (.line q))).1, rfl, ?_, ?_⟩, ⟨_, (setAttentionMaskBody m q (s.renew (.line q))).1, rfl, ?_, ?_⟩⟩
    · rw [exec_ackConditions htakes]
      simp [ackConditionsBody, Coach.acknowledged, Conditions.clear, Conditions.ofByte]
    · simp [ackConditionsBody, Coach.acknowledged, Conditions.clear, Conditions.ofByte, State.onReports]
    · rw [exec_setAttentionMask htakes]
      rfl
    · simp [setAttentionMaskBody, Conditions.ofByte, State.onReports]

/-! ## CONFIGURE (R184) -/

theorem Params.read_write_same {p : Params} {k v lo hi : Nat} (hrange : paramRange k = some (lo, hi)) (hv : v ≤ hi) :
    (p.write k v).read k = v := by
  unfold paramRange at hrange
  split at hrange
  case h_28 =>
    obtain ⟨rfl, rfl⟩ : 0 = lo ∧ 1 = hi := by simpa using hrange
    obtain rfl | rfl : v = 0 ∨ v = 1 := by omega
    · rfl
    · rfl
  case h_29 => cases hrange
  all_goals rfl

theorem Params.read_write_other (p : Params) {k m : Nat} (hne : m ≠ k) (v : Nat) : (p.write k v).read m = p.read m := by
  unfold Params.write
  split
  case h_29 => rfl
  all_goals
    unfold Params.read
    split
  all_goals first | rfl | exact absurd rfl hne

theorem clampTo_eq (lo hi v : Nat) : clampTo lo hi v = max lo (min hi v) := rfl

theorem paramRange_ordered : ∀ k < 29, 1 ≤ k → (paramRange k).any (fun r => r.1 ≤ r.2) = true := by decide

theorem paramRange_some {k : Nat} (h : 1 ≤ k) (hk : k ≤ 28) : ∃ lo hi, paramRange k = some (lo, hi) ∧ lo ≤ hi := by
  obtain ⟨⟨lo, hi⟩, hrange, hordered⟩ := (Option.any_eq_true _ _).1 (paramRange_ordered k (by omega) h)
  exact ⟨lo, hi, hrange, of_decide_eq_true hordered⟩

theorem paramRange_none {k : Nat} (h : k = 0 ∨ 28 < k) : paramRange k = none := by
  unfold paramRange
  split
  case h_29 => rfl
  all_goals omega

/-- The axle unit takes notice of the writes of REV_EDGES and STILL_WINDOWS alone (R48, R58). -/
theorem Axle.configured_same {old new : Params} (hrev : new.revEdges = old.revEdges) (hstill : new.stillWindows = old.stillWindows) (x : Axle) :
    x.configured old new = x := by
  simp [Axle.configured, hrev, hstill]

theorem exec_configure {s : State} {q : LinePort} (h : s.leads q) (k v : Nat) :
    exec (.configure (.line q) k v) s = .next (State.answer (.line q) 6 (configureBody k v s.renewed).2.status
      (configureBody k v s.renewed).2.results (configureBody k v s.renewed).1) :=
  live_leadOnly h 6 fun _ => configureBody k v

theorem configureBody_wrongPhase {s : State} (h : s.coach.journey.phase ≠ .empty) (k v : Nat) : configureBody k v s = refuse .wrongPhase s :=
  if_pos h

theorem configureBody_badField {s : State} (h : s.coach.journey.phase = .empty) {k : Nat} (hk : paramRange k = none) (v : Nat) :
    configureBody k v s = refuse .badField s := by
  rw [configureBody, if_neg (Classical.not_not.2 h), hk]

theorem configureBody_written {s : State} (h : s.coach.journey.phase = .empty) {k lo hi : Nat} (hk : paramRange k = some (lo, hi)) (v : Nat) :
    configureBody k v s = (s.configure k (clampTo lo hi v), {
      status := if lo ≤ v ∧ v ≤ hi then .accepted else .adjusted
      results := leBytes 1 k ++ leBytes 4 ((s.configure k (clampTo lo hi v)).params.read k) }) := by
  rw [configureBody, if_neg (Classical.not_not.2 h), hk]

/-- Settles O56: the phase, the id, then the one parameter written, held to its range; the table of ranges row by row. -/
theorem configureClampsAndWrites : Obligations.ConfigureClampsAndWrites := by
  refine ⟨fun s q k v hleads => ⟨fun hphase => ?_, fun hphase hk => ?_, fun hphase hmin hmax => ?_⟩, rfl⟩
  · rw [exec_configure hleads, configureBody_wrongPhase (s := s.renewed) hphase, refuse]
  · rw [exec_configure hleads, configureBody_badField (s := s.renewed) hphase (paramRange_none hk), refuse]
  · obtain ⟨lo, hi, hrange, hlohi⟩ := paramRange_some hmin hmax
    have value : (s.renewed.configure k (max lo (min hi v))).params.read k = max lo (min hi v) :=
      Params.read_write_same hrange (by omega)
    have other : ∀ m, m ≠ k → (s.renewed.configure k (max lo (min hi v))).params.read m = s.params.read m :=
      fun m hm => Params.read_write_other s.params hm _
    refine ⟨s.renewed.configure k (max lo (min hi v)), lo, hi, if lo ≤ v ∧ v ≤ hi then .accepted else .adjusted, hrange, ?_,
      fun hlo hhi => if_pos ⟨hlo, hhi⟩, fun hout => if_neg (by omega), value, other, rfl, fun h3 h6 => ?_⟩
    · rw [exec_configure hleads, configureBody_written (s := s.renewed) hphase hrange, clampTo_eq, value]
      rfl
    · exact Axle.configured_same (other 3 (Ne.symm h3)) (other 6 (Ne.symm h6)) s.coach.axle

end Sys2Proof.Machine
end

section
/-! # SHOW queues that grow, RESTART COACH (6.4, 10.4) -/
namespace Sys2Proof.Machine

/-! ## Seat lines of which only the SHOW queues grow (R116) -/

/-- The second coach has the seat lines of the first but for what has joined their SHOW queues. -/
def Coach.LinesGrow (c d : Coach) : Prop :=
  ∀ i, ∃ g, d.lines.get i = { c.lines.get i with showQueue := (c.lines.get i).showQueue ++ g }

theorem Coach.LinesGrow.of_eq {c d : Coach} (h : d.lines = c.lines) : c.LinesGrow d := fun i => ⟨[], by simp [h]⟩

theorem Coach.LinesGrow.refl (c : Coach) : c.LinesGrow c := .of_eq rfl

theorem Coach.LinesGrow.trans {c d f : Coach} (h : c.LinesGrow d) (k : d.LinesGrow f) : c.LinesGrow f := fun i => by
  obtain ⟨g, hg⟩ := h i
  obtain ⟨g', hg'⟩ := k i
  exact ⟨g ++ g', by rw [hg', hg]; simp⟩

theorem Coach.LinesGrow.foldl {α : Type} {f : Coach → α → Coach} (h : ∀ (c : Coach) a, c.LinesGrow (f c a)) (l : List α) (c : Coach) :
    c.LinesGrow (l.foldl f c) := by
  induction l generalizing c with
  | nil => exact .refl c
  | cons a l ih => exact (h c a).trans (ih (f c a))

theorem SeatLine.queueShow_grows (l : SeatLine) (m : Fin 16) : ∃ g, l.queueShow m = { l with showQueue := l.showQueue ++ g } := by
  unfold SeatLine.queueShow
  split
  · exact ⟨[m], rfl⟩
  · exact ⟨[], by simp⟩

theorem Coach.contentChange_grows (c : Coach) (i : Fin 4) (m : Fin 16) : c.LinesGrow (c.contentChange i m) := fun k => by
  by_cases h : k = i
  · subst h
    simpa [Coach.contentChange] using (c.lines.get k).queueShow_grows m
  · exact ⟨[], by simp [Coach.contentChange, Quad.get_set_other _ h]⟩

/-- Working the displayed states out again grows SHOW queues alone. -/
theorem Coach.refresh_grows (e : Env) (c : Coach) : c.LinesGrow (c.refresh e) :=
  Coach.LinesGrow.trans (d := { c with seats := c.seats.map fun s => { s with content := c.contentOf e s } }) (.of_eq rfl)
    (Coach.LinesGrow.foldl (f := fun d (s : Seat) => d.contentChange s.line s.module) (fun c s => c.contentChange_grows s.line s.module) _ _)

theorem Coach.pagedFor_lines (e : Env) (g : NoticeChange) (c : Coach) : (c.pagedFor e g).lines = c.lines := by
  simp only [Coach.pagedFor, Coach.litFor, Coach.evalPage_lines, Coach.evalDoors_lines, Coach.selectNotice_lines, Coach.armedFor]
  split <;> simp

/-- A change of the notice unit grows SHOW queues alone. -/
theorem Coach.notice_grows (e : Env) (g : NoticeChange) (c : Coach) : c.LinesGrow (c.notice e g) := by
  rw [Coach.notice_eq]
  split
  · exact .of_eq (c.pagedFor_lines e g)
  · exact (Coach.LinesGrow.of_eq (c.pagedFor_lines e g)).trans (Coach.refresh_grows e _)

/-! ## RESTART COACH (R26, R80, R104, R162, R175, R185) -/

/-- The coach with an empty notice queue. -/
def Coach.unnoticed (c : Coach) : Coach := { c with notices := { c.notices with queue := [], hold := none } }

theorem Coach.armedFor_cleared (e : Env) (c : Coach) : c.armedFor e .cleared = c.unnoticed := rfl

theorem Coach.litFor_cleared (e : Env) (c : Coach) : c.litFor e .cleared = c.unnoticed.evalDoors := by
  rw [Coach.litFor, Coach.armedFor_cleared, Coach.selectNotice_none rfl]

/-- With no stop list and no notice no door side is lit. -/
theorem Coach.litDoors_unnoticed {c : Coach} (hlist : c.journey.list = []) : c.unnoticed.litDoors = [] := by
  have record : recordAt c.journey.list c.journey.atStop = none := by
    rw [hlist]
    cases c.journey.atStop <;> rfl
  simp [Coach.litDoors, Coach.unnoticed, record]

/-- The EMPTY change leaves a notice unit with an empty queue, dark doors and the idle page. -/
theorem Coach.notice_cleared_notices (e : Env) {c : Coach} (hlist : c.journey.list = []) :
    (c.notice e .cleared).notices = { c.notices with
      queue := [], hold := none, door1 := false, door2 := false
      fields := (c.notice e .cleared).notices.fields, pageDue := (c.notice e .cleared).notices.pageDue } := by
  have dark : c.litFor e .cleared = { c.unnoticed with notices := { c.unnoticed.notices with door1 := false, door2 := false } } := by
    rw [Coach.litFor_cleared, Coach.evalDoors, Coach.litDoors_unnoticed hlist]
    rfl
  rw [Coach.notice_notices, Coach.pagedFor, dark]
  rfl

/-- The page of a SHOWN entry, where it stood, falls due anew with the EMPTY change. -/
theorem Coach.notice_cleared_pageDue (e : Env) {c : Coach} {n : Notice} (hshown : c.notices.fields.shown = some n.id) :
    (c.notice e .cleared).notices.pageDue = true := by
  rw [Coach.notice_notices, Coach.pagedFor_pageDue]
  refine .inr (.inr (.inl fun h => ?_))
  have idle : (c.litFor e .cleared).notices.shown = none := by
    rw [Coach.litFor_cleared]
    rfl
  rw [Coach.pageFields_idle idle] at h
  rw [← h] at hshown
  cases hshown

theorem windowStops_empty (portion : Fin 4) (trackDots : Nat) {j : Journey} (h : j.phase = .empty) : windowStops portion trackDots j = [] := by
  simp [windowStops, windowBase, h]

/-- A window change of an EMPTY journey leaves a dark strip. -/
theorem Coach.mapWindow_empty (e : Env) {c : Coach} (h : c.journey.phase = .empty) : (c.mapWindow e).map = { c.map with
    layout := List.replicate 48 .unused, base := none, count := 0, target := 0, marker := 0, shadow := List.replicate 48 .forcedOff } := by
  have base : windowBase e.portion c.journey = none := if_pos h
  have roles : (List.range 48).map (roleOf [] e.params.trackDots) = List.replicate 48 .unused := by
    refine List.eq_replicate_iff.2 ⟨by simp, fun b hb => ?_⟩
    obtain ⟨k, -, rfl⟩ := List.mem_map.1 hb
    simp [roleOf]
  have modes : ∀ m : MapUnit, (List.range 48).map (modeOf e c.journey c.position m) = List.replicate 48 .forcedOff := fun m => by
    refine List.eq_replicate_iff.2 ⟨by simp, fun b hb => ?_⟩
    obtain ⟨k, -, rfl⟩ := List.mem_map.1 hb
    simp [modeOf, h]
  simp only [Coach.mapWindow, MapUnit.jump, MapUnit.render, MapUnit.retarget, MapUnit.relayout, MapUnit.targetOf, if_pos h, base, modes,
    windowStops_empty _ _ h, roles]
  rfl

/-- The coach that RESTART COACH hands to the other units. -/
def Coach.emptiedCoach (c : Coach) : Coach :=
  Coach.flagBoth .positionDegraded false { c with journey := emptied c.journey, position := c.position.restarted }

theorem exec_restartCoach {s : State} {q : LinePort} (h : s.leads q) :
    exec (.restartCoach (.line q)) s = .next (State.answer (.line q) 30 .accepted [] (restartCoachBody s.renewed).1) :=
  live_leadOnly h 30 fun _ => restartCoachBody

/-- What RESTART COACH leaves of the coach but its staging list, which is empty already. -/
theorem restartCoachBody_eq (s : State) : (restartCoachBody s).1 = { s with
    consist := { s.consist with stagingOwner := none }
    coach := { s.coach.emptiedCoach.handEmpty s.env with
      journey := { emptied s.coach.journey with staging := [] }
      reportsA := (s.coach.emptiedCoach.handEmpty s.env).reportsA.restarted
      reportsB := (s.coach.emptiedCoach.handEmpty s.env).reportsB.restarted } } := by
  have journey : (s.coach.emptiedCoach.handEmpty s.env).journey = emptied s.coach.journey := Coach.handEmpty_journey _ _
  rw [← journey]
  rfl

theorem Coach.handEmpty_reports (e : Env) (c : Coach) (p : LinePort) : (c.handEmpty e).reports p = c.reports p := by
  have raised : ((c.reserveEmpty e).notice e .cleared).reports p = (c.reserveEmpty e).reports p := by
    rw [Coach.notice_reports, Coach.noticeQueueStep_cleared]
    cases p <;> rfl
  cases p
  · exact raised.trans (by simp [Coach.reports, Coach.reserveEmpty])
  · exact raised.trans (by simp [Coach.reports, Coach.reserveEmpty])

theorem Coach.handEmpty_grows (e : Env) (c : Coach) : c.LinesGrow (c.handEmpty e) :=
  ((Coach.LinesGrow.of_eq (d := { c with seats := c.seats.map fun s => { s with entries := [] } }) rfl).trans
    (Coach.refresh_grows e _)).trans ((Coach.notice_grows e .cleared _).trans (.of_eq rfl))

theorem Coach.handEmpty_bare (e : Env) (c : Coach) :
    (c.handEmpty e).seats.map Seat.bare = c.seats.map fun y => { y.bare with entries := [] } := by
  simp [Coach.handEmpty, Coach.reserveEmpty, Function.comp_def, Seat.bare]

theorem Coach.contentOf_empty {c : Coach} (h : c.journey.phase = .empty) (e : Env) (y : Seat) : c.contentOf e y = ⟨.noInfo, []⟩ := if_pos h

theorem Coach.handEmpty_contents (e : Env) {c : Coach} (h : c.journey.phase = .empty) : ∀ y ∈ (c.handEmpty e).seats, y.content = ⟨.noInfo, []⟩ := by
  intro y hy
  have content := Coach.notice_content e .cleared
    (Coach.refresh_content e { c with seats := c.seats.map fun s => { s with entries := [] } }) y hy
  rw [content, Coach.contentOf_empty]
  simpa using h

/-- Settles O55: the EMPTY change unit by unit, then the reports. -/
theorem restartCoachEmptiesTheJourney : Obligations.RestartCoachEmptiesTheJourney := by
  intro s q hleads
  have hand : (s.coach.emptiedCoach.handEmpty s.env).notices = ((s.coach.emptiedCoach.reserveEmpty s.env).notice s.env .cleared).notices := rfl
  have kept : (s.coach.emptiedCoach.reserveEmpty s.env).notices = s.coach.notices := by simp [Coach.emptiedCoach]
  have position : (s.coach.emptiedCoach.handEmpty s.env).position = s.coach.position.restarted := Coach.handEmpty_position _ _
  have accepted : (s.coach.emptiedCoach.handEmpty s.env).position.accepted = s.coach.position.accepted := by rw [position]; rfl
  have motion : (s.coach.emptiedCoach.handEmpty s.env).position.motion = s.coach.position.restarted.motion := by rw [position]
  refine ⟨(restartCoachBody s.renewed).1, exec_restartCoach hleads, ?_⟩
  rw [restartCoachBody_eq, State.renewed_coach, State.renewed_env]
  refine ⟨⟨rfl, rfl, rfl, rfl, rfl, rfl, rfl, rfl, rfl⟩, rfl, rfl, congrArg Position.estimate position, congrArg Position.contribution position,
    congrArg Position.fix position, accepted, congrArg Position.lastForward position, fun h => ?_, fun h => ?_,
    Coach.handEmpty_axle _ _, Coach.handEmpty_sensors _ _, Coach.handEmpty_bare _ _, Coach.handEmpty_contents _ rfl,
    Coach.handEmpty_grows _ _, ?_, fun hshown hfields => ?_, ?_, fun p => ?_⟩
  · refine motion.trans ?_
    simp [Position.restarted, h]
  · refine motion.trans ?_
    cases hmotion : s.coach.position.motion <;> simp_all [Position.restarted]
  · rw [← kept]
    exact Coach.notice_cleared_notices s.env (by simp [Coach.emptiedCoach, emptied])
  · obtain ⟨n, hn⟩ := Option.ne_none_iff_exists'.1 hshown
    refine Coach.notice_cleared_pageDue (n := n) s.env ?_
    rw [kept, hfields, Coach.pageFields_shown hn]
  · refine (Coach.mapWindow_empty s.env ?_).trans ?_
    · simp [Coach.emptiedCoach, emptied]
    · simp [Coach.emptiedCoach]
  · have restarted : ∀ y : PortReports, y.restarted.queue = [] ∧ y.restarted.mask = y.mask ∧ y.restarted.flags = { y.flags with
        restarted := true, reportOverrun := y.flags.reportOverrun || !y.queue.isEmpty } := fun _ => ⟨rfl, rfl, rfl⟩
    have reports := Coach.handEmpty_reports s.env s.coach.emptiedCoach p
    cases p <;> dsimp only [Coach.reports] at reports ⊢ <;> rw [reports] <;> exact restarted _

end Sys2Proof.Machine
end

section
/-! # The map unit and what the position hands on (4.1, 9.1 to 9.4) -/
namespace Sys2Proof.Machine

/-! ## The window (R163, R164) -/

theorem windowStops_some {portion : Fin 4} {trackDots b : Nat} {j : Journey} (h : windowBase portion j = some b) :
    windowStops portion trackDots j
      = (b :: (List.range j.list.length).filter fun i => b < i && (j.list[i]?).any (StopRec.callsAt portion)).take (47 / (trackDots + 1) + 1) := by
  rw [windowStops, h]
  rfl

/-- The base and the calling records after it, in their order. -/
theorem windowStops_candidates (portion : Fin 4) (list : List StopRec) (b : Nat) :
    (b :: (List.range list.length).filter fun i => b < i && (list[i]?).any (StopRec.callsAt portion)).Pairwise (· < ·) := by
  rw [List.pairwise_cons]
  refine ⟨fun i hi => ?_, List.pairwise_lt_range.filter _⟩
  have hi := (List.mem_filter.1 hi).2
  rw [Bool.and_eq_true, decide_eq_true_eq] at hi
  exact hi.1

theorem windowStops_nonempty {portion : Fin 4} {trackDots b : Nat} {j : Journey} (h : windowBase portion j = some b) :
    (windowStops portion trackDots j).head? = some b := by
  rw [windowStops_some h]
  rfl

theorem windowStops_length (portion : Fin 4) (trackDots : Nat) (j : Journey) :
    (windowStops portion trackDots j).length ≤ 47 / (trackDots + 1) + 1 := by
  cases h : windowBase portion j with
  | none => simp [windowStops, h]
  | some b =>
    rw [windowStops_some h, List.length_take]
    exact Nat.min_le_left _ _

theorem windowStops_increasing {portion : Fin 4} {trackDots b : Nat} {j : Journey} (h : windowBase portion j = some b) :
    (windowStops portion trackDots j).Pairwise (· < ·) := by
  rw [windowStops_some h]
  exact (windowStops_candidates portion j.list b).sublist (List.take_sublist _ _)

theorem windowStops_calling {portion : Fin 4} {trackDots b : Nat} {j : Journey} (h : windowBase portion j = some b) {i : Nat}
    (hi : i ∈ windowStops portion trackDots j) (hne : i ≠ b) : ∃ r, j.list[i]? = some r ∧ r.callsAt portion = true := by
  rw [windowStops_some h] at hi
  rcases List.mem_cons.1 (List.mem_of_mem_take hi) with rfl | hi
  · exact absurd rfl hne
  · have hi := (List.mem_filter.1 hi).2
    rw [Bool.and_eq_true, Option.any_eq_true] at hi
    exact hi.2

/-- A calling record after the base is in the window, or the window is full of records before it. -/
theorem windowStops_complete {portion : Fin 4} {trackDots b : Nat} {j : Journey} (h : windowBase portion j = some b) {i : Nat} {r : StopRec}
    (hi : b < i) (hr : j.list[i]? = some r) (hcalls : r.callsAt portion = true) :
    i ∈ windowStops portion trackDots j
      ∨ ((windowStops portion trackDots j).length = 47 / (trackDots + 1) + 1 ∧ ∀ y ∈ windowStops portion trackDots j, y < i) := by
  have candidate : i ∈ b :: (List.range j.list.length).filter fun i => b < i && (j.list[i]?).any (StopRec.callsAt portion) := by
    refine List.mem_cons_of_mem _ (List.mem_filter.2 ⟨List.mem_range.2 (List.getElem?_eq_some_iff.1 hr).1, ?_⟩)
    simp [hi, hr, hcalls]
  have increasing := windowStops_candidates portion j.list b
  rw [windowStops_some h]
  rw [← List.take_append_drop (47 / (trackDots + 1) + 1)
    (b :: (List.range j.list.length).filter fun i => b < i && (j.list[i]?).any (StopRec.callsAt portion))] at candidate increasing
  rcases List.mem_append.1 candidate with htaken | hdropped
  · exact .inl htaken
  · have long := List.length_pos_of_mem hdropped
    rw [List.length_drop] at long
    exact .inr ⟨by rw [List.length_take]; omega, fun y hy => (List.pairwise_append.1 increasing).2.2 y hy i hdropped⟩

/-! ## The layout (R163) -/

theorem roleOf_stop {stops : List Nat} {trackDots n i : Nat} (h : stops[n]? = some i) : roleOf stops trackDots (n * (trackDots + 1)) = .stop i := by
  rw [roleOf, if_pos (Nat.mul_mod_left _ _), Nat.mul_div_cancel _ (Nat.succ_pos _), h]

theorem roleOf_track {stops : List Nat} {trackDots n k : Nat} (h : n + 1 < stops.length) (hmin : 1 ≤ k) (hmax : k < trackDots + 1) :
    roleOf stops trackDots (n * (trackDots + 1) + k) = .track := by
  have rest : (n * (trackDots + 1) + k) % (trackDots + 1) = k := by
    rw [Nat.add_comm, Nat.add_mul_mod_self_right, Nat.mod_eq_of_lt hmax]
  have quotient : (n * (trackDots + 1) + k) / (trackDots + 1) = n := by
    rw [Nat.add_comm, Nat.add_mul_div_right _ _ (Nat.succ_pos _), Nat.div_eq_of_lt hmax, Nat.zero_add]
  rw [roleOf, rest, quotient, if_neg (by omega), if_pos h]

/-- A dot past the last of n STOP dots lies in no segment of two stops. -/
theorem past_last_stop {n t k q r : Nat} (hk : t * q + r = k) (hr : r < t) (h : (n - 1) * t < k) : n ≤ q ∨ (n ≤ q + 1 ∧ r ≠ 0) := by
  refine Classical.byContradiction fun hshort => ?_
  have hlow : q < n := by omega
  have hzero : n ≤ q + 1 → r = 0 := by omega
  by_cases hlast : n ≤ q + 1
  · have last : n - 1 = q := by omega
    rw [last, Nat.mul_comm] at h
    have := hzero hlast
    omega
  · have more : (q + 1) * t ≤ (n - 1) * t := Nat.mul_le_mul_right _ (by omega)
    rw [Nat.add_mul, Nat.mul_comm q] at more
    omega

/-- Past the last STOP dot every dot is UNUSED. -/
theorem roleOf_unused {stops : List Nat} {trackDots k : Nat} (h : stops = [] ∨ (stops.length - 1) * (trackDots + 1) < k) :
    roleOf stops trackDots k = .unused := by
  have bound : stops.length ≤ k / (trackDots + 1) ∨ (stops.length ≤ k / (trackDots + 1) + 1 ∧ k % (trackDots + 1) ≠ 0) := by
    rcases h with rfl | h
    · exact .inl (Nat.zero_le _)
    · exact past_last_stop (Nat.div_add_mod k (trackDots + 1)) (Nat.mod_lt k (Nat.succ_pos trackDots)) h
  unfold roleOf
  split
  next hzero =>
    have outside : stops.length ≤ k / (trackDots + 1) := by omega
    rw [List.getElem?_eq_none outside]
  next hrest => rw [if_neg (by omega)]

theorem MapUnit.relayout_layout (e : Env) (j : Journey) (m : MapUnit) {k : Nat} (hk : k < 48) :
    (m.relayout e j).layout[k]? = some (roleOf (windowStops e.portion e.params.trackDots j) e.params.trackDots k) := by
  simp [MapUnit.relayout, hk]

theorem windowBase_running {portion : Fin 4} {j : Journey} (h : j.phase ≠ .empty) :
    windowBase portion j = if j.lastDeparted = none then nextCall j.list portion 0 else j.lastDeparted := by
  rw [windowBase, if_neg h]
  cases j.lastDeparted <;> rfl

/-! ## The target (R165) -/

theorem trackCovered_before {metres prev next trackDots : Nat} (hsegment : prev < next) (h : metres ≤ prev) :
    trackCovered metres prev next trackDots = 0 := by
  have quotient : ((metres : Int) - prev) * (trackDots + 1) / ((next : Int) - prev) ≤ 0 := by
    refine Int.ediv_nonpos_of_nonpos_of_neg ?_ (by omega)
    exact Int.mul_nonpos_of_nonpos_of_nonneg (by omega) (by omega)
  unfold trackCovered
  omega

theorem trackCovered_past {metres prev next trackDots : Nat} (hsegment : prev < next) (h : next ≤ metres) :
    trackCovered metres prev next trackDots + 1 = trackDots + 1 := by
  have quotient : (trackDots : Int) + 1 ≤ ((metres : Int) - prev) * (trackDots + 1) / ((next : Int) - prev) := by
    rw [Int.le_ediv_iff_mul_le (by omega), Int.mul_comm]
    exact Int.mul_le_mul_of_nonneg_right (by omega) (by omega)
  unfold trackCovered
  omega

/-- Inside the segment the dots covered are the share of the segment covered, rounded down. -/
theorem trackCovered_within {metres prev next trackDots : Nat} (hlow : prev < metres) (hhigh : metres < next) :
    trackCovered metres prev next trackDots < trackDots + 1
      ∧ trackCovered metres prev next trackDots * (next - prev) ≤ (metres - prev) * (trackDots + 1)
      ∧ (metres - prev) * (trackDots + 1) < (trackCovered metres prev next trackDots + 1) * (next - prev) := by
  have share : ((metres : Int) - prev) * (trackDots + 1) / ((next : Int) - prev) = ((metres - prev) * (trackDots + 1) / (next - prev) : Nat) := by
    have done : ((metres - prev : Nat) : Int) = metres - prev := by omega
    have whole : ((next - prev : Nat) : Int) = next - prev := by omega
    rw [Int.natCast_ediv, Int.natCast_mul, done, whole]
    rfl
  have bound : (metres - prev) * (trackDots + 1) / (next - prev) < trackDots + 1 := by
    rw [Nat.div_lt_iff_lt_mul (by omega), Nat.mul_comm]
    exact Nat.mul_lt_mul_of_pos_left (by omega) (by omega)
  have covered : trackCovered metres prev next trackDots = (metres - prev) * (trackDots + 1) / (next - prev) := by
    unfold trackCovered
    rw [share]
    generalize (metres - prev) * (trackDots + 1) / (next - prev) = share at bound ⊢
    omega
  rw [covered]
  exact ⟨bound, Nat.div_mul_le_self _ _, Nat.lt_mul_of_div_lt (Nat.lt_succ_self _) (by omega)⟩

theorem MapUnit.targetOf_based {e : Env} {j : Journey} {p : Position} {m : MapUnit} {b : Nat} (hphase : j.phase ≠ .empty) (hbase : m.base = some b) :
    m.targetOf e j p = match j.atStop, j.nextCalling with
      | some i, _ => (m.stopDot i).getD 47
      | none, none => (m.stopDot b).getD 0
      | none, some n =>
        if (m.stopDot n).isNone then 47
        else if n = b then 0
        else match j.list[j.lastDeparted.getD b]?, j.list[n]? with
          | some a, some z => (m.stopDot (j.lastDeparted.getD b)).getD 0 + trackCovered p.metres a.position z.position e.params.trackDots
          | _, _ => 0 := by
  rw [MapUnit.targetOf, if_neg hphase, hbase] <;> rfl

/-! ## Rendering (R167) -/

theorem Motion.stopped_iff (m : Motion) : m.stopped = true ↔ m = .standstill := by cases m <;> simp [Motion.stopped]

theorem MapUnit.render_shadow (e : Env) (j : Journey) (p : Position) (m : MapUnit) {k : Nat} (hk : k < 48) :
    (MapUnit.render e j p m).shadow[k]? = some (modeOf e j p m k) := by
  simp [MapUnit.render, hk]

theorem modeOf_marker {e : Env} {j : Journey} {p : Position} {m : MapUnit} {k : Nat} (hphase : j.phase ≠ .empty) (hk : k = m.marker) :
    modeOf e j p m k = if p.motion = .standstill then .forcedOn else .blink := by
  rw [modeOf, if_neg hphase, if_pos hk]
  simp only [Motion.stopped_iff]

theorem modeOf_unused {e : Env} {j : Journey} {p : Position} {m : MapUnit} {k : Nat} (hphase : j.phase ≠ .empty) (hk : k ≠ m.marker)
    (hrole : m.layout[k]? = some .unused) : modeOf e j p m k = .forcedOff := by
  simp [modeOf, hphase, hk, List.getD_eq_getElem?_getD, hrole]

theorem modeOf_track {e : Env} {j : Journey} {p : Position} {m : MapUnit} {k : Nat} (hphase : j.phase ≠ .empty) (hk : k ≠ m.marker)
    (hrole : m.layout[k]? = some .track) : modeOf e j p m k = if k < m.marker then .duty e.params.dimDuty else .forcedOff := by
  simp [modeOf, hphase, hk, List.getD_eq_getElem?_getD, hrole]

theorem modeOf_stop {e : Env} {j : Journey} {p : Position} {m : MapUnit} {k i : Nat} {r : StopRec} (hphase : j.phase ≠ .empty) (hk : k ≠ m.marker)
    (hrole : m.layout[k]? = some (.stop i)) (hr : j.list[i]? = some r) :
    modeOf e j p m k = if r.split then .dutyInv e.params.dimDuty else if k < m.marker then .duty e.params.dimDuty else .forcedOn := by
  simp [modeOf, hphase, hk, List.getD_eq_getElem?_getD, hrole, hr]

/-! ## Pacing (R170, R171) -/

/-- The target is beyond JUMP_LIMIT from the marker. -/
def MapUnit.Far (e : Env) (m : MapUnit) : Prop := m.marker + e.params.jumpLimit < m.target ∨ m.target + e.params.jumpLimit < m.marker

theorem MapUnit.far_iff (e : Env) (m : MapUnit) : m.Far e ↔ e.params.jumpLimit < m.pendingSize := by
  unfold MapUnit.Far MapUnit.pendingSize
  omega

theorem MapUnit.pace_far {e : Env} {m : MapUnit} (h : m.Far e) (j : Journey) (p : Position) : m.pace e j p = m.jump e j p :=
  if_pos ((m.far_iff e).1 h)

theorem MapUnit.pace_rests {e : Env} {m : MapUnit} (h : ¬ m.Far e) (hrests : m.target = m.marker ∨ m.stepAt ≠ none) (j : Journey) (p : Position) :
    m.pace e j p = m := by
  rw [MapUnit.pace, if_neg (mt (m.far_iff e).2 h), if_neg]
  rintro ⟨hmoves, hidle⟩
  exact hrests.elim hmoves fun hruns => hruns (Option.isNone_iff_eq_none.1 hidle)

theorem MapUnit.pace_steps {e : Env} {m : MapUnit} (h : ¬ m.Far e) (hmoves : m.target ≠ m.marker) (hidle : m.stepAt = none) (j : Journey)
    (p : Position) : m.pace e j p = m.step e j p := by
  rw [MapUnit.pace, if_neg (mt (m.far_iff e).2 h), if_pos ⟨hmoves, by simp [hidle]⟩]

/-! ## The hand-over of position and motion state (R62, R63, R168) -/

/-- The reservation and notice units have taken a change of the estimate from before. -/
def Coach.heardPosition (e : Env) (b : Position) (c : Coach) : Coach :=
  if c.position.estimate = b.estimate then c else (c.reservePosition e).notice e .position

theorem Coach.heardPosition_position (e : Env) (b : Position) (c : Coach) : (c.heardPosition e b).position = c.position := by
  unfold Coach.heardPosition
  split <;> simp

/-- The map unit has taken it too. -/
def Coach.targetedPosition (e : Env) (b : Position) (c : Coach) : Coach :=
  if c.position.estimate = b.estimate then c else (c.heardPosition e b).mapTarget e

theorem Coach.targetedPosition_position (e : Env) (b : Position) (c : Coach) : (c.targetedPosition e b).position = c.position := by
  unfold Coach.targetedPosition
  split <;> simp [Coach.heardPosition_position]

/-- A change between STANDSTILL and the other motion states. -/
def Position.turnedFrom (b p : Position) : Prop := ¬ (p.motion = .standstill ↔ b.motion = .standstill)

theorem Position.turnedFrom_iff (b p : Position) : b.turnedFrom p ↔ (p.motion.stopped != b.motion.stopped) = true := by
  rw [Position.turnedFrom, bne_iff_ne, ne_eq, Bool.eq_iff_iff, Motion.stopped_iff, Motion.stopped_iff]

theorem Coach.handPosition_eq (e : Env) (b : Position) (c : Coach) : c.handPosition e b
    = if (c.position.motion.stopped != b.motion.stopped) = true then
        if c.position.motion.stopped = true ∧ e.params.stepDiscard = true then (((c.heardPosition e b).mapTarget e).mapMotion e).evaluate e
        else ((c.targetedPosition e b).mapMotion e).evaluate e
      else if c.position.estimate = b.estimate then c else (c.targetedPosition e b).evaluate e := by
  simp only [Coach.handPosition, Coach.heardPosition, Coach.targetedPosition]
  generalize (c.position.motion.stopped != b.motion.stopped) = turned
  generalize c.position.motion.stopped = stopped
  generalize e.params.stepDiscard = discard
  by_cases hmoved : c.position.estimate = b.estimate
  · have still : (c.position.estimate != b.estimate) = false := by simp [hmoved]
    simp only [still, if_pos hmoved]
    cases turned <;> cases stopped <;> cases discard <;> simp
  · have moves : (c.position.estimate != b.estimate) = true := by simp [hmoved]
    simp only [moves, if_neg hmoved]
    cases turned <;> cases stopped <;> cases discard <;> simp

theorem Coach.handPosition_same {e : Env} {b : Position} {c : Coach} (hmoved : c.position.estimate = b.estimate)
    (hturned : ¬ b.turnedFrom c.position) : c.handPosition e b = c := by
  rw [Coach.handPosition_eq, if_neg (mt (Position.turnedFrom_iff _ _).2 hturned), if_pos hmoved]

theorem Coach.handPosition_moved {e : Env} {b : Position} {c : Coach} (hmoved : c.position.estimate ≠ b.estimate)
    (hturned : ¬ b.turnedFrom c.position) : c.handPosition e b = (c.targetedPosition e b).evaluate e := by
  rw [Coach.handPosition_eq, if_neg (mt (Position.turnedFrom_iff _ _).2 hturned), if_neg hmoved]

theorem Coach.mapMotion_jumps {e : Env} {c : Coach} (hstopped : c.position.motion = .standstill) (hdiscard : e.params.stepDiscard = true) :
    c.mapMotion e = { c with map := MapUnit.render e c.journey c.position { c.map with marker := c.map.target } } := by
  rw [Coach.mapMotion, if_pos ⟨(Motion.stopped_iff _).2 hstopped, hdiscard⟩]
  rfl

theorem Coach.mapMotion_renders {e : Env} {c : Coach} (h : c.position.motion ≠ .standstill ∨ e.params.stepDiscard = false) :
    c.mapMotion e = { c with map := MapUnit.render e c.journey c.position c.map } := by
  rw [Coach.mapMotion, if_neg]
  rintro ⟨hstopped, hdiscard⟩
  exact h.elim (· ((Motion.stopped_iff _).1 hstopped)) (by simp [hdiscard])

/-- A change to STANDSTILL with STEP_DISCARD ON works the target out and jumps to it (R171). -/
theorem Coach.handPosition_jumps {e : Env} {b : Position} {c : Coach} (hturned : b.turnedFrom c.position)
    (hstopped : c.position.motion = .standstill) (hdiscard : e.params.stepDiscard = true) :
    c.handPosition e b = (((c.heardPosition e b).mapTarget e).mapMotion e).evaluate e := by
  rw [Coach.handPosition_eq, if_pos ((Position.turnedFrom_iff _ _).1 hturned), if_pos ⟨(Motion.stopped_iff _).2 hstopped, hdiscard⟩]

/-- Any other change between STANDSTILL and the other motion states renders the strip (R168). -/
theorem Coach.handPosition_renders {e : Env} {b : Position} {c : Coach} (hturned : b.turnedFrom c.position)
    (h : c.position.motion ≠ .standstill ∨ e.params.stepDiscard = false) :
    c.handPosition e b = ((c.targetedPosition e b).mapMotion e).evaluate e := by
  rw [Coach.handPosition_eq, if_pos ((Position.turnedFrom_iff _ _).1 hturned), if_neg]
  rintro ⟨hstopped, hdiscard⟩
  exact h.elim (· ((Motion.stopped_iff _).1 hstopped)) (by simp [hdiscard])

/-- Settles O52: the layout by its stops, the target by the rows of R165, the modes by the rows of R167, pacing, and the hand-over by what has
changed. -/
theorem mapLayoutTargetAndRendering : Obligations.MapLayoutTargetAndRendering := by
  refine ⟨fun e j m => ?_, fun e j p m => ?_, fun e j p m => ?_, fun e c => ?_, fun e b c => ?_⟩
  · refine ⟨m.relayout e j, windowStops e.portion e.params.trackDots j, e.params.trackDots + 1, rfl, rfl, rfl, by simp [MapUnit.relayout],
      fun hphase => if_pos hphase, fun hphase => windowBase_running hphase, fun hbase => ?_, fun b hbase => ?_, fun n i hi => ?_,
      fun n k hn hmin hmax => ?_, fun k hk hpast => ?_⟩
    · rw [windowStops, show windowBase e.portion j = none from hbase]
    · exact ⟨windowStops_nonempty hbase, windowStops_length _ _ _, windowStops_increasing hbase, fun i hi hne => windowStops_calling hbase hi hne,
        fun i r hi hr hcalls => windowStops_complete hbase hi hr hcalls⟩
    · have within : n ≤ 47 / (e.params.trackDots + 1) := by
        have inside := (List.getElem?_eq_some_iff.1 hi).1
        have length := windowStops_length e.portion e.params.trackDots j
        omega
      have below := (Nat.le_div_iff_mul_le (show 0 < e.params.trackDots + 1 by omega)).1 within
      rw [MapUnit.relayout_layout e j m (by omega), roleOf_stop hi]
    · have within : n + 1 ≤ 47 / (e.params.trackDots + 1) := by
        have length := windowStops_length e.portion e.params.trackDots j
        omega
      have below := (Nat.le_div_iff_mul_le (show 0 < e.params.trackDots + 1 by omega)).1 within
      rw [Nat.add_mul] at below
      rw [MapUnit.relayout_layout e j m (by omega), roleOf_track hn hmin hmax]
    · rw [MapUnit.relayout_layout e j m hk, roleOf_unused hpast]
  · refine ⟨m.targetOf e j p, p.metres, e.params.trackDots + 1, rfl, rfl, rfl, fun hnone => ?_, fun b hphase hbase => ?_⟩
    · by_cases hphase : j.phase = .empty
      · exact if_pos hphase
      · rw [MapUnit.targetOf, if_neg hphase, hnone.resolve_left hphase]
    · rw [MapUnit.targetOf_based hphase hbase]
      refine ⟨fun i hstop => by rw [hstop], fun hstop hnext => by rw [hstop, hnext], fun n hstop hnext => ?_⟩
      rw [hstop, hnext]
      dsimp only
      refine ⟨fun hdot => by rw [hdot]; rfl, fun hdot hbase => ?_, fun a z hdot hbase ha hz hsegment => ?_⟩
      · rw [if_neg (by simpa using hdot), if_pos hbase]
      · rw [if_neg (by simpa using hdot), if_neg hbase, ha, hz]
        exact ⟨_, rfl, trackCovered_before hsegment, trackCovered_past hsegment, trackCovered_within⟩
  · refine ⟨MapUnit.render e j p m, rfl, rfl, by simp [MapUnit.render], fun k hk => ⟨_, MapUnit.render_shadow e j p m hk, fun hphase => if_pos hphase,
      modeOf_marker, fun hphase hmarker => ⟨modeOf_unused hphase hmarker, modeOf_track hphase hmarker, fun i r hrole hr =>
        modeOf_stop hphase hmarker hrole hr⟩⟩⟩
  · refine ⟨(c.map.relayout e c.journey).retarget e c.journey c.position, rfl, rfl, c.map.retarget e c.journey c.position,
      MapUnit.Far e (c.map.retarget e c.journey c.position), rfl, rfl, fun hfar => ?_, fun hnear hrests => ?_, fun hnear hmoves hidle => ?_⟩
    · rw [Coach.mapTarget, MapUnit.pace_far hfar]
      rfl
    · rw [Coach.mapTarget, MapUnit.pace_rests hnear hrests]
    · rw [Coach.mapTarget, MapUnit.pace_steps hnear hmoves hidle]
      exact ⟨_, rfl, rfl⟩
  · refine ⟨c.position.estimate ≠ b.estimate, b.turnedFrom c.position, c.heardPosition e b, c.targetedPosition e b, rfl, rfl,
      fun hmoved => ⟨if_neg hmoved, if_neg hmoved⟩, fun hsame => ⟨if_pos (Classical.not_not.1 hsame), if_pos (Classical.not_not.1 hsame)⟩,
      fun hsame hturned => Coach.handPosition_same (Classical.not_not.1 hsame) hturned, Coach.handPosition_moved,
      fun hturned hstopped hdiscard => ⟨(c.heardPosition e b).mapTarget e, rfl, ?_⟩, fun hturned h => ?_⟩
    · rw [Coach.handPosition_jumps hturned hstopped hdiscard, Coach.mapMotion_jumps _ hdiscard]
      simpa [Coach.heardPosition_position] using hstopped
    · rw [Coach.handPosition_renders hturned h, Coach.mapMotion_renders]
      rwa [Coach.targetedPosition_position]

end Sys2Proof.Machine
end

section
/-! # Searches in the stop list, the calling set, the progress evaluation and the reads (1.4 to 1.8) -/
namespace Sys2Proof.Machine

/-! ## Searches (R14) -/

/-- What a search from an index on finds: the lowest record there with the property. -/
theorem findFrom_eq_some {list : List StopRec} {k n : Nat} {f : StopRec → Bool} :
    findFrom list k f = some n ↔ k ≤ n ∧ (∃ r, list[n]? = some r ∧ f r = true)
      ∧ ∀ m y, k ≤ m → m < n → list[m]? = some y → f y = false := by
  rw [findFrom, Option.map_eq_some_iff]
  constructor
  · rintro ⟨i, hi, rfl⟩
    rw [List.findIdx?_eq_some_iff_getElem] at hi
    obtain ⟨hlength, hfound, hbefore⟩ := hi
    refine ⟨by omega, ⟨list[k + i]'(by simp at hlength; omega), by rw [Nat.add_comm]; exact List.getElem?_eq_getElem _, by simpa using hfound⟩,
      fun m y hk hm hy => ?_⟩
    have before := hbefore (m - k) (by omega)
    obtain ⟨hm', rfl⟩ := List.getElem?_eq_some_iff.1 hy
    have index : k + (m - k) = m := by omega
    simpa [index] using before
  · rintro ⟨hk, ⟨r, hr, hf⟩, hbefore⟩
    obtain ⟨hn, rfl⟩ := List.getElem?_eq_some_iff.1 hr
    refine ⟨n - k, ?_, by omega⟩
    rw [List.findIdx?_eq_some_iff_getElem]
    have index : k + (n - k) = n := by omega
    refine ⟨by simp; omega, by simpa [index] using hf, fun m hm => ?_⟩
    have before := hbefore (k + m) (list[k + m]'(by omega)) (by omega) (by omega) (List.getElem?_eq_getElem _)
    simpa using before

theorem findFrom_eq_none {list : List StopRec} {k : Nat} {f : StopRec → Bool} :
    findFrom list k f = none ↔ ∀ m y, k ≤ m → list[m]? = some y → f y = false := by
  rw [findFrom, Option.map_eq_none_iff, List.findIdx?_eq_none_iff]
  constructor
  · intro h m y hk hy
    refine h y (List.mem_of_getElem? (i := m - k) ?_)
    rw [List.getElem?_drop, Nat.add_sub_cancel' hk, hy]
  · intro h y hy
    obtain ⟨i, hi⟩ := List.mem_iff_getElem?.1 hy
    rw [List.getElem?_drop] at hi
    exact h (k + i) y (Nat.le_add_right k i) hi

theorem lastCall_iff {list : List StopRec} {portion : Fin 4} {i : Nat} :
    lastCall list portion i = true ↔ ∀ m r, i < m → list[m]? = some r → r.callsAt portion = false := by
  rw [lastCall, Option.isNone_iff_eq_none, nextCall, findFrom_eq_none]
  rfl

theorem nextAhead_eq_none {list : List StopRec} {portion : Fin 4} {k : Nat} :
    nextAhead portion list k = none ↔ ∀ m y, k ≤ m → list[m]? = some y → y.status = .ahead → y.callsAt portion = false := by
  rw [nextAhead, findFrom_eq_none]
  simp

/-! ## The calling-set recalculation (R14) -/

theorem recalculate_stopped {j : Journey} {i : Nat} (h : j.atStop = some i) (portion : Fin 4) :
    recalculate portion j = { j with nextCalling := some i, phase := if lastCall j.list portion i then .terminated else j.phase } := by
  simp only [recalculate, h]

theorem recalculate_between {j : Journey} (h : j.atStop = none) (portion : Fin 4) :
    recalculate portion j = { j with nextCalling := nextAhead portion j.list 0
                                     phase := if (nextAhead portion j.list 0).isNone && j.phase.running then .terminated else j.phase } := by
  simp only [recalculate, h]

theorem Phase.running_iff (p : Phase) : p.running = true ↔ p = .staged ∨ p = .inService := by cases p <;> simp [Phase.running]

theorem Phase.not_running_iff (p : Phase) : p.running = false ↔ p = .empty ∨ p = .terminated := by cases p <;> simp [Phase.running]

/-- Settles O20: at a stop, with a record AHEAD to call at, and with none. -/
theorem callingSetIsRecalculated : Obligations.CallingSetIsRecalculated := by
  intro portion j
  refine ⟨recalculate portion j, rfl, rfl, fun i hstop => ?_, fun i r hstop hr hahead hcalls hbefore => ?_, fun hstop hnone => ?_⟩
  · rw [recalculate_stopped hstop]
    refine ⟨rfl, fun hlast => if_pos (lastCall_iff.2 hlast), fun ⟨m, r, hm, hr, hcalls⟩ => if_neg fun hlast => ?_⟩
    rw [lastCall_iff.1 hlast m r hm hr] at hcalls
    cases hcalls
  · have next : nextAhead portion j.list 0 = some i := findFrom_eq_some.2
      ⟨Nat.zero_le i, ⟨r, hr, by simp [hahead, hcalls]⟩, fun m y _ hm hy => by simpa using hbefore m y hm hy⟩
    rw [recalculate_between hstop, next]
    exact ⟨rfl, rfl⟩
  · have next : nextAhead portion j.list 0 = none :=
      nextAhead_eq_none.2 fun m y _ hy hahead => hnone y (List.mem_of_getElem? hy) hahead
    rw [recalculate_between hstop, next]
    refine ⟨rfl, fun hrunning => ?_, fun hended => ?_⟩
    · simp [(Phase.running_iff _).2 hrunning]
    · simp [(Phase.not_running_iff _).2 hended]

/-! ## The progress evaluation, step by step (R17) -/

theorem Coach.whileRunning_runs {c : Coach} (h : c.journey.phase.running = true) (f : Coach → Coach) : c.whileRunning f = f c := if_pos h

theorem Coach.whileRunning_rests {c : Coach} (h : c.journey.phase.running = false) (f : Coach → Coach) : c.whileRunning f = c :=
  if_neg (by simp [h])

theorem Coach.evaluate_rests {c : Coach} (h : c.journey.phase.running = false) (e : Env) : c.evaluate e = c := by
  simp only [Coach.evaluate, Coach.whileRunning_rests h]

theorem Coach.evalDeparture_between {c : Coach} (h : c.journey.atStop = none) (e : Env) : c.evalDeparture e = c := by
  rw [Coach.evalDeparture, h]

theorem Coach.evalRunThrough_at {c : Coach} {i : Nat} (h : c.journey.atStop = some i) (e : Env) (n : Nat) : c.evalRunThrough e n = c := by
  cases n with
  | zero => rfl
  | succ n => rw [Coach.evalRunThrough, h]

/-- There is no run-through while next calling is none or not behind by more than the window. -/
theorem Coach.evalRunThrough_rests {c : Coach} {e : Env} (h : ∀ i r, c.journey.nextCalling = some i → c.journey.list[i]? = some r →
    ¬ c.position.exceeds (r.position + e.params.platformWin) = true) (n : Nat) : c.evalRunThrough e n = c := by
  cases n with
  | zero => rfl
  | succ n =>
    rw [Coach.evalRunThrough]
    split
    · split
      · next i _ hnext _ r hr => exact if_neg fun hruns => h i r hnext hr hruns.2
      · rfl
    · rfl

/-- There is no arrival while next calling is none or not within the window at standstill. -/
theorem Coach.evalArrival_rests {c : Coach} {e : Env} (h : ∀ i r, c.journey.nextCalling = some i → c.journey.list[i]? = some r →
    ¬ (c.position.motion.stopped = true ∧ c.position.within r.position e.params.platformWin = true)) : c.evalArrival e = c := by
  unfold Coach.evalArrival
  split
  · split
    · next i _ hnext _ r hr => exact if_neg (h i r hnext hr)
    · rfl
  · rfl

theorem Coach.evalArrival_at {c : Coach} {i : Nat} (h : c.journey.atStop = some i) (e : Env) : c.evalArrival e = c := by
  rw [Coach.evalArrival, h]

/-- The evaluation after a departure step that did nothing, while the journey runs. -/
theorem Coach.evaluate_undeparted {c : Coach} {e : Env} (hrunning : c.journey.phase.running = true) (h : c.evalDeparture e = c)
    (hthrough : c.evalRunThrough e c.journey.list.length = c) : c.evaluate e = (c.evalPassing e).evalArrival e := by
  have running : (c.evalPassing e).journey.phase.running = true := hrunning
  simp only [Coach.evaluate, Coach.whileRunning_runs hrunning, h, hthrough, Coach.whileRunning_runs running]

theorem Position.exceeds_iff (p : Position) (m : Nat) : p.exceeds m = true ↔ m * 65536000 < p.estimate := by
  exact decide_eq_true_iff

theorem Coach.evalPassing_record (e : Env) (c : Coach) (i : Nat) :
    (c.evalPassing e).journey.list[i]? = (c.journey.list[i]?).map (passRecord e c.position) := by
  simp [Coach.evalPassing, Coach.onJourney]

theorem passRecord_behind {e : Env} {p : Position} {r : StopRec}
    (h : r.status = .ahead ∧ r.callsAt e.portion = false ∧ (r.position + e.params.platformWin) * 65536000 < p.estimate) :
    passRecord e p r = { r with status := .passed } := by
  obtain ⟨hahead, hcalls, hbehind⟩ := h
  exact if_pos ⟨hahead, by simp [hcalls], (p.exceeds_iff _).2 hbehind⟩

theorem passRecord_kept {e : Env} {p : Position} {r : StopRec}
    (h : ¬ (r.status = .ahead ∧ r.callsAt e.portion = false ∧ (r.position + e.params.platformWin) * 65536000 < p.estimate)) :
    passRecord e p r = r := by
  refine if_neg ?_
  rintro ⟨hahead, hcalls, hbehind⟩
  exact h ⟨hahead, by simpa using hcalls, (p.exceeds_iff _).1 hbehind⟩

theorem passRecord_position (e : Env) (p : Position) (r : StopRec) : (passRecord e p r).position = r.position := by
  unfold passRecord
  split <;> rfl

theorem Position.within_iff (p : Position) (m d : Nat) : p.within m d = true
    ↔ m * 65536000 ≤ p.estimate + d * 65536000 ∧ p.estimate ≤ (m + d) * 65536000 := by
  rw [Position.within, Bool.and_eq_true]
  exact and_congr decide_eq_true_iff decide_eq_true_iff

/-- Settles O24: a journey that does not run, a coach between stops, and the records passed one by one. -/
theorem passingMarksWhatIsBehind : Obligations.PassingMarksWhatIsBehind := by
  refine ⟨fun e c hended => Coach.evaluate_rests ((Phase.not_running_iff _).2 hended) e, fun e c hrunning hbetween hnext => ?_, fun e c => ?_⟩
  · have hthrough : c.evalRunThrough e c.journey.list.length = c := by
      refine Coach.evalRunThrough_rests (fun i r hi hr hexceeds => ?_) _
      have behind := (Position.exceeds_iff _ _).1 hexceeds
      have near := (hnext i r hi hr).1
      omega
    rw [Coach.evaluate_undeparted ((Phase.running_iff _).2 hrunning) (Coach.evalDeparture_between hbetween e) hthrough]
    refine Coach.evalArrival_rests fun i r hi hr hstands => ?_
    rw [Coach.evalPassing_record, Option.map_eq_some_iff] at hr
    obtain ⟨y, hy, rfl⟩ := hr
    obtain ⟨hstopped, hwithin⟩ := hstands
    rw [passRecord_position, Position.within_iff] at hwithin
    have short := (hnext i y hi hy).2 ((Motion.stopped_iff _).1 hstopped)
    have near : y.position * 65536000 ≤ c.position.estimate + e.params.platformWin * 65536000 := hwithin.1
    omega
  · refine ⟨c.evalPassing e, rfl, rfl, by simp [Coach.evalPassing, Coach.onJourney], fun i r hr => ⟨_, rfl, fun hbehind => ?_, fun hnot => ?_⟩⟩
    · rw [Coach.evalPassing_record, hr, Option.map_some, passRecord_behind hbehind]
    · rw [Coach.evalPassing_record, hr, Option.map_some, passRecord_kept hnot]

/-! ## SET ORIENTATION (R24) -/

theorem exec_setOrientation {s : State} {q : LinePort} (h : s.leads q) (v : Nat) :
    exec (.setOrientation (.line q) v) s = .next (State.answer (.line q) 5 (setOrientationBody v s.renewed).2.status
      (setOrientationBody v s.renewed).2.results (setOrientationBody v s.renewed).1) :=
  live_leadOnly h 5 fun _ => setOrientationBody v

theorem setOrientationBody_none {v : Nat} (h : orientationOf v = none) (s : State) : setOrientationBody v s = refuse .badField s := by
  rw [setOrientationBody, h]

theorem setOrientationBody_some {v : Nat} {o : Orientation} (h : orientationOf v = some o) (s : State) :
    setOrientationBody v s = (s.onCoach (Coach.turn o), { status := .accepted }) := by
  rw [setOrientationBody, h]
  rfl

theorem orientationOf_none {v : Nat} (h : 3 ≤ v) : orientationOf v = none := by
  unfold orientationOf
  split
  case h_4 => rfl
  all_goals omega

/-- Settles O15: the three values, each with the change that the notice unit takes, and any other. -/
theorem setOrientationTakesThreeValues : Obligations.SetOrientationTakesThreeValues := by
  intro s q v hleads
  refine ⟨fun hv => ?_, fun o hv => ?_⟩
  · rw [exec_setOrientation hleads, setOrientationBody_none (orientationOf_none hv), refuse]
  · have value : orientationOf v = some o := by
      rcases hv with ⟨rfl, rfl⟩ | ⟨rfl, rfl⟩ | ⟨rfl, rfl⟩ <;> rfl
    have quiet := Coach.notice_other_reports s.env { s.coach with journey := { s.coach.journey with orientation := o } }
    refine ⟨s.renewed.onCoach (Coach.turn o), ?_, ⟨rfl, rfl, rfl, rfl, rfl, rfl, rfl, rfl, rfl⟩, rfl, ?_, rfl, ?_, ?_, ?_, ?_, quiet.1, quiet.2, ?_⟩
    · rw [exec_setOrientation hleads, setOrientationBody_some value]
    all_goals simp [State.onCoach, Coach.turn, Coach.onJourney]

/-! ## The reads (R25, R102, R124, R160, R191) -/

theorem exec_readStop {s : State} {q : LinePort} (h : s.takes (.line q)) (n : Nat) :
    exec (.readStop (.line q) n) s = .next (State.answer (.line q) 12 (readStopBody n (s.renew (.line q))).2.status
      (readStopBody n (s.renew (.line q))).2.results (s.renew (.line q))) :=
  (live_request h 12 (lineOnly (.line q) fun _ => readStopBody n)).trans (by rw [lineOnly_line, readStopBody_state])

theorem exec_readSeat {s : State} {p : Port} (h : s.takes p) (n : Nat) :
    exec (.readSeat p n) s = .next (State.answer p 17 (readSeatBody n (s.renew p)).2.status (readSeatBody n (s.renew p)).2.results (s.renew p)) :=
  (live_request h 17 (readSeatBody n)).trans (by rw [readSeatBody_state])

theorem readNoticesBody_state (n : Nat) (text : Option Nat) (s : State) : (readNoticesBody n text s).1 = s := by
  rw [readNoticesBody, judge_cons, judge_nil]
  split <;> rfl

theorem exec_readNotices {s : State} {q : LinePort} (h : s.takes (.line q)) (n : Nat) (text : Option Nat) :
    exec (.readNotices (.line q) n text) s = .next (State.answer (.line q) 25 (readNoticesBody n text (s.renew (.line q))).2.status
      (readNoticesBody n text (s.renew (.line q))).2.results (s.renew (.line q))) :=
  (live_request h 25 (lineOnly (.line q) fun _ => readNoticesBody n text)).trans (by rw [lineOnly_line, readNoticesBody_state])

theorem exec_readStatus {s : State} {p : Port} (h : s.takes p) (n : Nat) :
    exec (.readStatus p n) s
      = .next (State.answer p 26 (readStatusBody p n (s.renew p)).2.status (readStatusBody p n (s.renew p)).2.results (s.renew p)) :=
  (live_request h 26 (readStatusBody p n)).trans (by rw [readStatusBody_state])

theorem readStopBody_wrongPhase {s : State} (h : s.coach.journey.phase = .empty) (n : Nat) : readStopBody n s = refuse .wrongPhase s := if_pos h

theorem readStopBody_badField {s : State} (h : s.coach.journey.phase ≠ .empty) {n : Nat} (hn : s.coach.journey.list.length ≤ n) :
    readStopBody n s = refuse .badField s := by
  rw [readStopBody, if_neg h, List.getElem?_eq_none hn]

theorem readStopBody_read {s : State} (h : s.coach.journey.phase ≠ .empty) {n : Nat} {r : StopRec} (hr : s.coach.journey.list[n]? = some r) :
    (readStopBody n s).2 = { status := .accepted
                             results := s.coach.journey.chars ++ leBytes 1 s.coach.journey.list.length ++ r.chars } := by
  rw [readStopBody, if_neg h, hr]

theorem readNoticesBody_eq (n : Nat) (text : Option Nat) (s : State) : readNoticesBody n text s
    = if 23 < n ∨ text.any (31 < ·) = true then refuse .badField s
      else (s, { status := .accepted, results := s.coach.notices.chars s.env.noticeTime n text }) := by
  rw [readNoticesBody, judge_cons, judge_nil]
  simp only [decide_eq_true_eq]

theorem readStatusBody_part {s : State} {p : Port} {n : Nat} {cs : List Byte} (h : s.statusPart p n = some cs) :
    (readStatusBody p n s).2 = { status := .accepted, results := cs } := by
  rw [readStatusBody, h]

theorem statusPart_none {n : Nat} (h : 3 < n) (s : State) (p : Port) : s.statusPart p n = none := by
  unfold State.statusPart
  split
  case h_5 => rfl
  all_goals omega

theorem statusPart_some {n : Nat} (h : n ≤ 3) (s : State) (p : Port) : ∃ cs, s.statusPart p n = some cs := by
  match n, h with
  | 0, _ | 1, _ | 2, _ | 3, _ => exact ⟨_, rfl⟩

/-- A table that holds no seat of the number finds none. -/
theorem Coach.seat_none {c : Coach} {n : Nat} (h : ∀ x ∈ c.seats, x.number ≠ n) : c.seat n = none := by
  rw [Coach.seat, List.find?_eq_none]
  simpa using h

theorem State.portChars_renew (s : State) (p k : Port) : (s.renew p).portChars k = s.portChars k := by
  cases k <;> simp [State.portChars]

/-- Settles O22: each read by the check that refuses it and by what it returns. -/
theorem readsChangeNothing : Obligations.ReadsChangeNothing := by
  intro s p n text htakes
  refine ⟨fun q hq => ?_, ⟨_, _, exec_readSeat htakes n, fun hnone => ?_, fun x hx => ?_⟩, fun q hq => ?_,
    ⟨_, _, exec_readStatus htakes n, fun hn => ?_, fun hn => ?_, fun hn => ⟨s.renew p, rfl, ?_⟩, fun i k hparts => ?_, fun hn => ?_⟩⟩
  · subst hq
    refine ⟨_, _, exec_readStop htakes n, fun hphase => ?_, fun hphase hn => ?_, fun r hphase hr => ?_⟩
    · rw [readStopBody_wrongPhase (by simpa using hphase)]
      exact ⟨rfl, rfl⟩
    · rw [readStopBody_badField (by simpa using hphase) (by simpa using hn)]
      exact ⟨rfl, rfl⟩
    · rw [readStopBody_read (r := r) (by simpa using hphase) (by simpa using hr), State.renew_coach]
      exact ⟨rfl, rfl⟩
  · rw [readSeatBody, State.renew_coach, Coach.seat_none hnone]
    exact ⟨rfl, rfl⟩
  · rw [readSeatBody, State.renew_coach, hx]
    exact ⟨rfl, rfl⟩
  · subst hq
    refine ⟨_, _, exec_readNotices htakes n text, fun hout => ?_, fun hn hk => ?_⟩
    · rw [readNoticesBody_eq, if_pos (by simpa [Option.any_eq_true] using hout)]
      exact ⟨rfl, rfl⟩
    · have inside : ¬ (23 < n ∨ text.any (31 < ·) = true) := by
        rw [Option.any_eq_true]
        rintro (h | ⟨k, htext, h⟩)
        · omega
        · have := hk k htext
          simp at h
          omega
      rw [readNoticesBody_eq, if_neg inside, State.renew_coach, State.renew_env]
      exact ⟨rfl, rfl⟩
  · rw [readStatusBody, statusPart_none hn]
    exact ⟨rfl, rfl⟩
  · obtain ⟨cs, hcs⟩ := statusPart_some hn (s.renew p) p
    rw [readStatusBody_part hcs]
  · subst hn
    rw [readStatusBody_part rfl]
    simp only [State.portChars_renew, State.renew_coach]
    rfl
  · have line : (s.renew p).lineChars i k = s.lineChars i k := by simp [State.lineChars]
    rcases hparts with ⟨rfl, rfl, rfl⟩ | ⟨rfl, rfl, rfl⟩
    · rw [readStatusBody_part rfl, line]
      rfl
    · rw [readStatusBody_part rfl, line]
      rfl
  · subst hn
    rw [readStatusBody_part rfl, State.renew_coach]

end Sys2Proof.Machine
end

section
/-! # What the reservation unit takes, entry by entry and seat by seat (5.5 to 5.7) -/
namespace Sys2Proof.Machine

/-! ## Reports raised one after the other (R187) -/

/-- The second coach has the reports of the first with these raised in order. -/
def Coach.Tells (e : Env) (rs : List Report) (c d : Coach) : Prop := ∀ p, d.reports p = (Coach.raiseAll e rs c).reports p

theorem Coach.Tells.silent {e : Env} {c d : Coach} (hA : d.reportsA = c.reportsA) (hB : d.reportsB = c.reportsB) : c.Tells e [] d
  | .a => hA
  | .b => hB

theorem Coach.Tells.trans {e : Env} {rs ts : List Report} {c d f : Coach} (h : c.Tells e rs d) (k : d.Tells e ts f) : c.Tells e (rs ++ ts) f := by
  intro p
  rw [k p, Coach.raiseAll_reports, h p, Coach.raiseAll_reports, Coach.raiseAll_reports]
  split
  · rw [List.foldl_append]
  · rfl

theorem Coach.Tells.raise (e : Env) (r : Report) (c : Coach) : c.Tells e [r] (c.raise e r) := fun _ => rfl

theorem Coach.Tells.raiseAll (e : Env) (rs : List Report) (c : Coach) : c.Tells e rs (c.raiseAll e rs) := fun _ => rfl

/-- Reports raised on coaches with the same reports leave the same reports. -/
theorem Coach.Tells.of_reports {e : Env} {rs : List Report} {c c' d : Coach} (h : c'.Tells e rs d) (hsame : ∀ p, c'.reports p = c.reports p) :
    c.Tells e rs d := by
  intro p
  rw [h p, Coach.raiseAll_reports, Coach.raiseAll_reports, hsame p]

/-- The reports of one change of the notice unit: those of the end tests, then those of the list tests. -/
def Coach.noticeReports (e : Env) (g : NoticeChange) (c : Coach) : List Report :=
  if g = .cleared then []
  else c.notices.queue.filterMap (endReport c (endCause g))
    ++ (c.endNotices e (endCause g)).notices.queue.filterMap
        (endReport (c.endNotices e (endCause g)) (listCause e (c.endNotices e (endCause g)) g))

theorem Coach.regenerate_reports (e : Env) (g : NoticeChange) (c : Coach) (p : LinePort) : (c.regenerate e g).reports p = c.reports p := by
  obtain ⟨created, hcoach, -⟩ := Coach.createKinds e automaticKinds { c with notices := c.notices.drop (takenAway e c g) } (by decide)
  rw [Coach.regenerate_eq, hcoach]
  cases p <;> rfl

theorem Coach.endNotices_tells (e : Env) (cause : Notice → Option Nat) (c : Coach) :
    c.Tells e (c.notices.queue.filterMap (endReport c cause)) (c.endNotices e cause) := Coach.endNotices_reports e cause c

theorem Coach.notice_tells (e : Env) (g : NoticeChange) (c : Coach) : c.Tells e (c.noticeReports e g) (c.notice e g) := by
  intro p
  rw [Coach.notice_reports]
  by_cases hg : g = .cleared
  · subst hg
    cases p <;> rfl
  · rw [Coach.noticeReports, if_neg hg, Coach.noticeQueueStep_eq e hg]
    have ended := (c.endNotices_tells e (endCause g)).trans (Coach.endNotices_tells e (listCause e (c.endNotices e (endCause g)) g) _)
    split
    · rw [Coach.regenerate_reports]
      exact ended p
    · exact ended p

/-- An empty queue raises no report. -/
theorem Coach.noticeReports_empty {c : Coach} (h : c.notices.queue = []) (e : Env) (g : NoticeChange) : c.noticeReports e g = [] := by
  rw [Coach.noticeReports, Coach.endNotices_eq, h]
  split <;> rfl

/-- A plain change raises no report. -/
theorem Coach.noticeReports_plain (e : Env) {g : NoticeChange} (h : g.plain = true) (c : Coach) : c.Tells e [] (c.notice e g) := by
  obtain ⟨hA, hB⟩ := Coach.notice_plain_reports e h c
  exact .silent hA hB

/-! ## Every seat takes an operation on its entries -/

/-- The reports of an operation on every seat's entries. -/
def Coach.seatReports (e : Env) (f : Seat → EntryCtx → List Entry → List Entry × List Report) (c : Coach) : List Report :=
  c.seats.flatMap fun s => (f s (c.entryCtx e s) s.entries).2

theorem Coach.forSeats_tells (e : Env) (f : Seat → EntryCtx → List Entry → List Entry × List Report) (c : Coach) :
    c.Tells e (c.seatReports e f) (c.forSeats e f) :=
  (Coach.Tells.raiseAll e _ _).of_reports fun p => by cases p <;> rfl

theorem Coach.forSeats_seats (e : Env) (f : Seat → EntryCtx → List Entry → List Entry × List Report) (c : Coach) :
    (c.forSeats e f).seats = c.seats.map fun s => { s with entries := (f s (c.entryCtx e s) s.entries).1 } :=
  Coach.raiseAll_seats _ _ _

theorem Coach.forSeats_entryCtx (e : Env) (f : Seat → EntryCtx → List Entry → List Entry × List Report) (c : Coach) (s : Seat) :
    (c.forSeats e f).entryCtx e s = c.entryCtx e s := by
  simp [Coach.entryCtx, Coach.sensor]

theorem Coach.refresh_tells (e : Env) (c : Coach) : c.Tells e [] (c.refresh e) :=
  .silent (Coach.refresh_reportsA e c) (Coach.refresh_reportsB e c)

theorem filter_const_true {α : Type} (l : List α) : (l.filter fun _ => true) = l := List.filter_eq_self.2 fun _ _ => rfl

theorem retire_eq (last : Option Nat) (xs : List Entry) : retire last xs = xs.filter fun x => last.all fun i => i < x.effAlighting := by
  cases last <;> simp [retire, filter_const_true]

/-- Every seat takes an operation on its entries, past entries are retired where the change retires them, and the displayed states are worked
out again. -/
def Coach.take (e : Env) (f : Seat → EntryCtx → List Entry → List Entry × List Report) (retires : Bool) (c : Coach) : Coach :=
  (if retires then (c.forSeats e f).retireSeats else c.forSeats e f).refresh e

theorem Coach.take_tells (e : Env) (f : Seat → EntryCtx → List Entry → List Entry × List Report) (retires : Bool) (c : Coach) :
    c.Tells e (c.seatReports e f) (c.take e f retires) := by
  have told := c.forSeats_tells e f
  cases retires
  · simpa [Coach.take] using told.trans (Coach.refresh_tells e _)
  · have retired : c.Tells e (c.seatReports e f) (c.forSeats e f).retireSeats := fun p => (by cases p <;> rfl : _ = _).trans (told p)
    simpa [Coach.take] using retired.trans (Coach.refresh_tells e _)

theorem Coach.take_grows (e : Env) (f : Seat → EntryCtx → List Entry → List Entry × List Report) (retires : Bool) (c : Coach) :
    c.LinesGrow (c.take e f retires) := by
  refine Coach.LinesGrow.trans (.of_eq ?_) (Coach.refresh_grows e _)
  cases retires <;> simp

theorem Coach.take_content (e : Env) (f : Seat → EntryCtx → List Entry → List Entry × List Report) (retires : Bool) (c : Coach) :
    ∀ z ∈ (c.take e f retires).seats, z.content = (c.take e f retires).contentOf e z := Coach.refresh_content e _

theorem Coach.take_bare (e : Env) (f : Seat → EntryCtx → List Entry → List Entry × List Report) (retires : Bool) (c : Coach) :
    (c.take e f retires).seats.map Seat.bare = c.seats.map fun z => { z.bare with
      entries := (f z (c.entryCtx e z) z.entries).1.filter fun x => !retires || (c.journey.lastDeparted.all fun l => l < x.effAlighting) } := by
  rw [Coach.take, Coach.refresh_bare]
  cases retires
  · simp [Coach.forSeats_seats, Seat.bare, Function.comp_def, filter_const_true]
  · simp [Coach.retireSeats, Coach.forSeats_seats, Seat.bare, Function.comp_def, retire_eq]

/-- Nothing but seats, lines and reports is touched. -/
theorem Coach.take_eq (e : Env) (f : Seat → EntryCtx → List Entry → List Entry × List Report) (retires : Bool) (c : Coach) :
    c.take e f retires = { c with
      seats := (c.take e f retires).seats, lines := (c.take e f retires).lines
      reportsA := (c.take e f retires).reportsA, reportsB := (c.take e f retires).reportsB } := by
  have journey : (c.take e f retires).journey = c.journey := by cases retires <;> simp [Coach.take]
  have axle : (c.take e f retires).axle = c.axle := by cases retires <;> simp [Coach.take]
  have position : (c.take e f retires).position = c.position := by cases retires <;> simp [Coach.take]
  have sensors : (c.take e f retires).sensors = c.sensors := by cases retires <;> simp [Coach.take]
  have notices : (c.take e f retires).notices = c.notices := by cases retires <;> simp [Coach.take]
  have map : (c.take e f retires).map = c.map := by cases retires <;> simp [Coach.take]
  rw [← journey, ← axle, ← position, ← sensors, ← notices, ← map]

/-! ## The claim window of an entry (R94 to R98) -/

theorem pastRelease_iff {k : EntryCtx} {x : Entry} {code p : Nat} (h : x.anchor = some (code, p)) :
    pastRelease k x = true ↔ (p + k.releaseM) * 65536000 ≤ k.position.estimate := by
  rw [pastRelease, h]
  simp only [Position.atOrAbove, decide_eq_true_eq]
  exact Int.ofNat_le

/-- The report of a claim or a release names the anchor. -/
theorem EntryCtx.report_eq {x : Entry} {code p : Nat} (h : x.anchor = some (code, p)) (k : EntryCtx) (kind : ReportKind) :
    k.report kind x = ⟨kind, some code, some k.seat, some x.token, k.position.estimate / 65536000, .none, none⟩ := by
  rw [EntryCtx.report, h]
  rfl

theorem closeTest_closed {k : EntryCtx} {x : Entry} (h : x.window ≠ .opened ∨ x.anchorLeft = false ∨ pastRelease k x = false) :
    closeTest k x = (x, []) := by
  refine if_neg ?_
  rintro ⟨hopened, hleft, hpast⟩
  rcases h with h | h | h
  · exact h hopened
  · simp [hleft] at h
  · simp [hpast] at h

theorem closeTest_closes {k : EntryCtx} {x : Entry} (hopened : x.window = .opened) (hleft : x.anchorLeft = true) (hpast : pastRelease k x = true) :
    closeTest k x = if x.state = .booked ∧ ¬ x.unverified = true then
        if k.position.fix = .fixed then ({ x with state := .released, window := .spent }, [k.report .seatReleased x])
        else ({ x with window := .deferred }, [])
      else ({ x with window := .spent }, []) := if_pos ⟨hopened, hleft, hpast⟩

theorem lookAtSeat_shut {k : EntryCtx} {x : Entry} (h : x.window = .pending ∨ x.window = .spent) : lookAtSeat k x = (x, []) := by
  refine if_neg ?_
  rcases h with h | h <;> simp [h]

theorem lookAtSeat_open {k : EntryCtx} {x : Entry} (h : x.window = .opened ∨ x.window = .deferred) :
    lookAtSeat k x = if k.sensor.isOccupied then
        if x.state = .booked then
          ({ x with state := .claimed, window := if x.window = .deferred then .spent else x.window }, [k.report .seatClaimed x])
        else (x, [])
      else if k.sensor = .unknown then ({ x with unverified := true }, [])
      else (x, []) := if_pos h

theorem PlaceState.isOccupied_iff (p : PlaceState) : p.isOccupied = true ↔ p = .occupied ∨ p = .leaving := by
  cases p <;> simp [PlaceState.isOccupied]

theorem lookAtSeat_claims {k : EntryCtx} {x : Entry} (h : x.window = .opened ∨ x.window = .deferred)
    (hsensor : k.sensor = .occupied ∨ k.sensor = .leaving) (hbooked : x.state = .booked) :
    lookAtSeat k x = ({ x with state := .claimed, window := if x.window = .deferred then .spent else .opened }, [k.report .seatClaimed x]) := by
  rw [lookAtSeat_open h, if_pos ((PlaceState.isOccupied_iff _).2 hsensor), if_pos hbooked]
  rcases h with h | h <;> simp [h]

theorem lookAtSeat_claimed {k : EntryCtx} {x : Entry} (h : x.window = .opened ∨ x.window = .deferred)
    (hsensor : k.sensor = .occupied ∨ k.sensor = .leaving) (hbooked : x.state ≠ .booked) : lookAtSeat k x = (x, []) := by
  rw [lookAtSeat_open h, if_pos ((PlaceState.isOccupied_iff _).2 hsensor), if_neg hbooked]

theorem lookAtSeat_unknown {k : EntryCtx} {x : Entry} (h : x.window = .opened ∨ x.window = .deferred) (hsensor : k.sensor = .unknown) :
    lookAtSeat k x = ({ x with unverified := true }, []) := by
  rw [lookAtSeat_open h, if_neg (by simp [hsensor, PlaceState.isOccupied]), if_pos hsensor]

theorem lookAtSeat_empty {k : EntryCtx} {x : Entry} (h : x.window = .opened ∨ x.window = .deferred)
    (hsensor : k.sensor = .settling ∨ k.sensor = .vacant ∨ k.sensor = .entering) : lookAtSeat k x = (x, []) := by
  rw [lookAtSeat_open h]
  rcases hsensor with hsensor | hsensor | hsensor <;> simp [hsensor, PlaceState.isOccupied]

/-! ## An entry at an arrival, a departure and a run-through -/

/-- The window of an entry that alights at an index is ended there. -/
theorem endAtAlighting_eq (i : Nat) (x : Entry) : endAtAlighting i x = if x.effAlighting = i then { x with window := .spent } else x := by
  unfold endAtAlighting
  by_cases h : x.effAlighting = i
  · by_cases hspent : x.window = .spent
    · rw [if_neg (by simp [hspent]), if_pos h, ← hspent]
    · rw [if_pos ⟨h, hspent⟩, if_pos h]
  · rw [if_neg fun hboth => h hboth.1, if_neg h]

theorem endAtAlighting_boarding (i : Nat) (x : Entry) : (endAtAlighting i x).effBoarding = x.effBoarding := by
  unfold endAtAlighting
  split <;> rfl

theorem openIfReached_shut {k : EntryCtx} {x : Entry} (h : x.window ≠ .pending) : openIfReached k x = (x, []) := by
  unfold openIfReached
  split
  · exact if_neg fun hboth => h hboth.1
  · rfl

theorem openIfReached_opens {k : EntryCtx} {x : Entry} {r : StopRec} (hr : k.list[x.effBoarding]? = some r) (h : x.window = .pending)
    (hreached : r.status ≠ .ahead) : openIfReached k x = openWindow k r x := by
  rw [openIfReached, hr]
  refine if_pos ⟨h, ?_⟩
  cases hstatus : r.status <;> simp_all [StopStatus.reached]

theorem openIfReached_ahead {k : EntryCtx} {x : Entry} {r : StopRec} (hr : k.list[x.effBoarding]? = some r) (hahead : r.status = .ahead) :
    openIfReached k x = (x, []) := by
  rw [openIfReached, hr]
  refine if_neg ?_
  simp [hahead, StopStatus.reached]

theorem lookAtSeat_anchorLeft (k : EntryCtx) (x : Entry) : (lookAtSeat k x).1.anchorLeft = x.anchorLeft := by
  unfold lookAtSeat
  split
  · split
    · split <;> rfl
    · split <;> rfl
  · rfl

theorem openWindow_eq (k : EntryCtx) (r : StopRec) (x : Entry) : openWindow k r x
    = andThen (lookAtSeat k) (closeTest k)
      { x with window := .opened, anchor := some (r.code, r.position), anchorLeft := decide (r.status ≠ .current) } := by
  unfold openWindow
  cases r.status <;> rfl

/-- The close test leaves alone a window whose anchor stop is not left. -/
theorem openWindow_current {k : EntryCtx} {r : StopRec} (h : r.status = .current) (x : Entry) :
    openWindow k r x = lookAtSeat k { x with window := .opened, anchor := some (r.code, r.position), anchorLeft := false } := by
  have anchored : decide (r.status ≠ .current) = false := by simp [h]
  rw [openWindow_eq, anchored]
  have shut := closeTest_closed (k := k)
    (.inr (.inl (lookAtSeat_anchorLeft k { x with window := .opened, anchor := some (r.code, r.position), anchorLeft := false })))
  rw [andThen, shut, List.append_nil]

theorem entryAtArrival_eq (k : EntryCtx) (i : Nat) (x : Entry) : entryAtArrival k i x
    = if x.effBoarding = i then openIfReached k (endAtAlighting i x) else (endAtAlighting i x, []) := by
  rw [entryAtArrival, endAtAlighting_boarding]

theorem entryAtRunThrough_eq (k : EntryCtx) (i code : Nat) (x : Entry) : entryAtRunThrough k i code x
    = if x.effBoarding = i ∧ (endAtAlighting i x).window = .pending then openIfReached k (endAtAlighting i x)
      else closeTest k (leaveAnchor code (endAtAlighting i x)) := by
  rw [entryAtRunThrough, endAtAlighting_boarding]

/-- A window that is still PENDING at a stop is not of an entry that alights there. -/
theorem endAtAlighting_pending {i : Nat} {x : Entry} (h : (endAtAlighting i x).window = .pending) : endAtAlighting i x = x := by
  rw [endAtAlighting_eq] at h ⊢
  split at h
  · cases h
  · next hne => rw [if_neg hne]

/-! ## The hand-overs to the reservation unit as one operation (R93 to R98, R139) -/

/-- An operation on an entry, taken of every entry of a list. -/
def ofEntries (f : EntryCtx → Seat → Entry → Entry × List Report) : Seat → EntryCtx → List Entry → List Entry × List Report :=
  fun s k xs => mapEntries (f k s) xs

theorem Coach.reserveArrival_take (e : Env) (i : Nat) (c : Coach) :
    c.reserveArrival e i = c.take e (ofEntries fun k _ => entryAtArrival k i) false := rfl

theorem Coach.reserveDeparture_take (e : Env) (code : Nat) (c : Coach) :
    c.reserveDeparture e code = c.take e (ofEntries fun k _ => entryAtDeparture k code) true := rfl

theorem Coach.reserveRunThrough_take (e : Env) (i code : Nat) (c : Coach) :
    c.reserveRunThrough e i code = c.take e (ofEntries fun k _ => entryAtRunThrough k i code) true := rfl

theorem Coach.reservePosition_take (e : Env) (c : Coach) : c.reservePosition e = c.take e (ofEntries fun k _ => closeTest k) false := rfl

theorem Coach.reserveFixed_take (e : Env) (c : Coach) : c.reserveFixed e = c.take e (ofEntries fun k _ => entryAtFixed k) false := rfl

/-- A change of a place is looked at by the entries of its seat alone. -/
def atPlace (p : PlaceId) (k : EntryCtx) (s : Seat) (x : Entry) : Entry × List Report :=
  if s.placeId = p then lookAtSeat k x else (x, [])

theorem Coach.reservePlace_take (e : Env) (p : PlaceId) (c : Coach) : c.reservePlace e p = c.take e (ofEntries (atPlace p)) false := by
  have place : (fun (s : Seat) (k : EntryCtx) (xs : List Entry) => if s.placeId = p then mapEntries (lookAtSeat k) xs else (xs, []))
      = ofEntries (atPlace p) := by
    funext s k xs
    unfold ofEntries
    split
    next h =>
      rw [show atPlace p k s = lookAtSeat k from funext fun x => if_pos h]
    next h =>
      rw [show atPlace p k s = fun x => (x, []) from funext fun x => if_neg h]
      simp [mapEntries, Function.comp_def]
  rw [Coach.reservePlace, place]
  rfl

/-- What a coach is after every entry of every seat has taken an operation. -/
def Coach.Handed (e : Env) (f : EntryCtx → Seat → Entry → Entry × List Report) (retires : Bool) (c d : Coach) : Prop :=
  d = { c with seats := d.seats, lines := d.lines, reportsA := d.reportsA, reportsB := d.reportsB }
    ∧ d.seats.map Seat.bare = c.seats.map (fun z => { z.bare with entries :=
        (z.entries.map fun x => (f (c.entryCtx e z) z x).1).filter fun x =>
          !retires || (c.journey.lastDeparted.all fun l => l < x.effAlighting) })
    ∧ (∀ z ∈ d.seats, z.content = d.contentOf e z)
    ∧ (∀ q, d.reports q = (Coach.raiseAll e (c.seats.flatMap fun z => z.entries.flatMap fun x => (f (c.entryCtx e z) z x).2) c).reports q)
    ∧ ∀ n, ∃ g, d.lines.get n = { c.lines.get n with showQueue := (c.lines.get n).showQueue ++ g }

theorem Coach.take_handed (e : Env) (f : EntryCtx → Seat → Entry → Entry × List Report) (retires : Bool) (c : Coach) :
    c.Handed e f retires (c.take e (ofEntries f) retires) := by
  refine ⟨c.take_eq e _ retires, ?_, c.take_content e _ retires, ?_, c.take_grows e _ retires⟩
  · rw [Coach.take_bare]
    simp [ofEntries, mapEntries, Function.comp_def]
  · have told := c.take_tells e (ofEntries f) retires
    simp only [Coach.seatReports, ofEntries, mapEntries, List.flatMap_map] at told
    exact told

/-- Settles O31: the close test, the look at the seat, an entry at each event, and the hand-overs. -/
theorem claimWindowClaimsAndReleases : Obligations.ClaimWindowClaimsAndReleases := by
  refine ⟨fun k x code p hopened hleft hanchor => ⟨fun hbelow => ?_, fun hpast => ?_⟩, fun k x h => closeTest_closed (h.imp_right .inl),
    fun k x code p hanchor => ⟨lookAtSeat_shut, fun hwindow => ⟨lookAtSeat_unknown hwindow, fun hsensor hbooked => ?_,
      lookAtSeat_claimed hwindow, lookAtSeat_empty hwindow⟩⟩, fun k i code x => ?_, fun e c i code p => ?_⟩
  · refine closeTest_closed (.inr (.inr ?_))
    rw [Bool.eq_false_iff]
    intro hpast
    have := (pastRelease_iff hanchor).1 hpast
    omega
  · rw [closeTest_closes hopened hleft ((pastRelease_iff hanchor).2 hpast), EntryCtx.report_eq hanchor]
    refine ⟨fun hbooked hverified hfix => ?_, fun hbooked hverified hfix => ?_, fun hheld => ?_⟩
    · rw [if_pos ⟨hbooked, by simp [hverified]⟩, if_pos hfix]
    · rw [if_pos ⟨hbooked, by simp [hverified]⟩, if_neg hfix]
    · rw [if_neg]
      rintro ⟨hbooked, hverified⟩
      exact hheld.elim (· hbooked) hverified
  · rw [lookAtSeat_claims hwindow hsensor hbooked, EntryCtx.report_eq hanchor]
  · refine ⟨endAtAlighting i x, leaveAnchor code, fun r b => { x with window := .opened, anchor := some (r.code, r.position), anchorLeft := b },
      endAtAlighting_eq i x, fun _ => rfl, fun _ _ => rfl, fun hshut => ⟨?_, ?_⟩, fun r hboards hpending hr => ⟨fun hcurrent => ?_, fun hrun => ?_⟩,
      rfl⟩
    · rw [entryAtArrival_eq]
      split
      next hboards => exact openIfReached_shut (hshut.resolve_left (Classical.not_not.2 hboards))
      next => rfl
    · rw [entryAtRunThrough_eq, if_neg]
      rintro ⟨hboards, hpending⟩
      exact hshut.elim (· hboards) (· hpending)
    · have whole := endAtAlighting_pending hpending
      rw [whole] at hpending
      rw [entryAtArrival_eq, if_pos hboards, whole, openIfReached_opens (by rw [hboards]; exact hr) hpending (by simp [hcurrent]),
        openWindow_current hcurrent]
    · have whole := endAtAlighting_pending hpending
      rw [entryAtRunThrough_eq, if_pos ⟨hboards, hpending⟩, whole]
      rw [whole] at hpending
      rw [openIfReached_opens (by rw [hboards]; exact hr) hpending (by simp [hrun]), openWindow_eq]
      simp only [hrun]
      exact ⟨_, _, rfl, rfl, rfl⟩
  · refine ⟨fun f retires d => c.Handed e f retires d, fun _ _ _ => rfl, ?_, ?_, ?_, ?_, ?_, ?_⟩
    · exact Coach.reserveArrival_take e i c ▸ c.take_handed e _ false
    · exact Coach.reserveDeparture_take e code c ▸ c.take_handed e _ true
    · exact Coach.reserveRunThrough_take e i code c ▸ c.take_handed e _ true
    · exact Coach.reservePosition_take e c ▸ c.take_handed e _ false
    · exact Coach.reserveFixed_take e c ▸ c.take_handed e _ false
    · exact Coach.reservePlace_take e p c ▸ c.take_handed e _ false

end Sys2Proof.Machine
end

section
/-! # The displayed state, CANCEL, RELEASE and SEAT MAP (5.1, 5.4, 5.7) -/
namespace Sys2Proof.Machine

/-! ## The displayed state (R99 to R101) -/

/-- An entry is BOOKED or CLAIMED. -/
def Entry.Held (x : Entry) : Prop := x.state = .booked ∨ x.state = .claimed

/-- An entry covers the current leg. -/
def Entry.Covers (e : Env) (c : Coach) (x : Entry) : Prop := ∃ i, c.legStart e = some i ∧ x.effBoarding ≤ i ∧ i < x.effAlighting

/-- An entry boards after the start of the current leg. -/
def Entry.Later (e : Env) (c : Coach) (x : Entry) : Prop := ∃ i, c.legStart e = some i ∧ i < x.effBoarding

theorem Entry.held_iff (x : Entry) : x.held = true ↔ x.Held := by
  unfold Entry.held Entry.Held
  cases x.state <;> simp

theorem Entry.not_held_iff (x : Entry) : x.held = false ↔ x.state = .released := by
  unfold Entry.held
  cases x.state <;> simp

theorem Entry.covers_iff (e : Env) (c : Coach) (x : Entry) : x.covers (c.legStart e) = true ↔ x.Covers e c := by
  simp [Entry.covers, Entry.Covers, Option.any_eq_true]

theorem Entry.later_iff (e : Env) (c : Coach) (x : Entry) : (c.legStart e).any (· < x.effBoarding) = true ↔ x.Later e c := by
  simp [Entry.Later, Option.any_eq_true]

theorem Coach.nextArmed_iff (c : Coach) : c.nextArmed = true ↔ ∃ n ∈ c.notices.queue, ∃ code, n.stop = some code
    ∧ codeAt c.journey.list c.journey.nextCalling = some code ∧ (n.kind = .nextStop ∨ n.kind = .arriving)
    ∧ (n.state = .armed ∨ n.state = .shown) := by
  unfold Coach.nextArmed
  split
  next code hcode =>
    simp only [List.any_eq_true, Bool.and_eq_true, Bool.or_eq_true, decide_eq_true_eq]
    constructor
    · rintro ⟨n, hn, ⟨hkind, hstop⟩, hstate⟩
      exact ⟨n, hn, code, hstop, hcode, hkind, hstate⟩
    · rintro ⟨n, hn, code', hstop, hcode', hkind, hstate⟩
      obtain rfl := Option.some.inj (hcode.symm.trans hcode')
      exact ⟨n, hn, ⟨hkind, hstop⟩, hstate⟩
  next hnone => simp [hnone]

theorem Coach.contentOf_running {c : Coach} {s : Seat} (h : c.journey.phase ≠ .empty) (huse : s.outOfUse = false) (e : Env) :
    c.contentOf e s = match s.entries.find? fun x => x.held && x.covers (c.legStart e) with
      | some x => ⟨if some x.effAlighting = c.journey.nextCalling ∧ c.nextArmed = true then .ending else .reserved,
          [stopShown c.journey.list x.effBoarding, stopShown c.journey.list x.effAlighting]⟩
      | none =>
        match ((s.entries.filter fun x => x.held && (c.legStart e).any (· < x.effBoarding)).map Entry.effBoarding).min? with
        | some b => ⟨.freeUntil, [stopShown c.journey.list b]⟩
        | none => if s.entries.any fun x => !x.held && x.covers (c.legStart e) then ⟨.releasedFree, []⟩ else ⟨.free, []⟩ := by
  rw [Coach.contentOf, if_neg h, if_neg (by simp [huse])] <;> rfl

/-- What a seat shows, row by row. -/
inductive Coach.Shows (e : Env) (c : Coach) (s : Seat) : Content → Prop
  | noInfo (hphase : c.journey.phase = .empty) : Coach.Shows e c s ⟨.noInfo, []⟩
  | outOfUse (hphase : c.journey.phase ≠ .empty) (huse : s.outOfUse = true) : Coach.Shows e c s ⟨.outOfUse, []⟩
  | covered (hphase : c.journey.phase ≠ .empty) (huse : s.outOfUse = false) (x : Entry) (hx : x ∈ s.entries) (hheld : x.Held)
      (hcovers : x.Covers e c) : Coach.Shows e c s
        ⟨if some x.effAlighting = c.journey.nextCalling ∧ c.nextArmed = true then .ending else .reserved,
          [stopShown c.journey.list x.effBoarding, stopShown c.journey.list x.effAlighting]⟩
  | freeUntil (hphase : c.journey.phase ≠ .empty) (huse : s.outOfUse = false) (hopen : ∀ x ∈ s.entries, x.Held → ¬ x.Covers e c) (x : Entry)
      (hx : x ∈ s.entries) (hheld : x.Held) (hlater : x.Later e c)
      (hfirst : ∀ y ∈ s.entries, y.Held → y.Later e c → x.effBoarding ≤ y.effBoarding) :
      Coach.Shows e c s ⟨.freeUntil, [stopShown c.journey.list x.effBoarding]⟩
  | releasedFree (hphase : c.journey.phase ≠ .empty) (huse : s.outOfUse = false)
      (hopen : ∀ x ∈ s.entries, x.Held → ¬ x.Covers e c ∧ ¬ x.Later e c) (x : Entry) (hx : x ∈ s.entries) (hreleased : x.state = .released)
      (hcovers : x.Covers e c) : Coach.Shows e c s ⟨.releasedFree, []⟩
  | free (hphase : c.journey.phase ≠ .empty) (huse : s.outOfUse = false)
      (hopen : ∀ x ∈ s.entries, x.Held → ¬ x.Covers e c ∧ ¬ x.Later e c)
      (hreleased : ∀ x ∈ s.entries, x.state = .released → ¬ x.Covers e c) : Coach.Shows e c s ⟨.free, []⟩

theorem Coach.contentOf_shows (e : Env) (c : Coach) (s : Seat) : Coach.Shows e c s (c.contentOf e s) := by
  by_cases hphase : c.journey.phase = .empty
  · rw [Coach.contentOf_empty hphase]
    exact .noInfo hphase
  cases huse : s.outOfUse with
  | true =>
    rw [show c.contentOf e s = ⟨.outOfUse, []⟩ from (if_neg hphase).trans (if_pos huse)]
    exact .outOfUse hphase huse
  | false =>
    rw [Coach.contentOf_running hphase huse]
    split
    next x hfound =>
      have holds := List.find?_some hfound
      simp only [Bool.and_eq_true, Entry.held_iff, Entry.covers_iff] at holds
      exact .covered hphase huse x (List.mem_of_find?_eq_some hfound) holds.1 holds.2
    next hnone =>
      have hopen : ∀ x ∈ s.entries, x.Held → ¬ x.Covers e c := by
        simpa only [List.find?_eq_none, Bool.and_eq_true, Entry.held_iff, Entry.covers_iff, not_and] using hnone
      split
      next b hmin =>
        obtain ⟨hb, hleast⟩ := List.min?_eq_some_iff.1 hmin
        obtain ⟨x, hx, rfl⟩ := List.mem_map.1 hb
        obtain ⟨hx, hlater⟩ := List.mem_filter.1 hx
        simp only [Bool.and_eq_true, Entry.held_iff, Entry.later_iff] at hlater
        refine .freeUntil hphase huse hopen x hx hlater.1 hlater.2 fun y hy hheld hy' => hleast _ (List.mem_map_of_mem ?_)
        exact List.mem_filter.2 ⟨hy, by simp only [Bool.and_eq_true, Entry.held_iff, Entry.later_iff]; exact ⟨hheld, hy'⟩⟩
      next hmin =>
        have hnever : ∀ x ∈ s.entries, x.Held → ¬ x.Covers e c ∧ ¬ x.Later e c := fun x hx hheld => by
          refine ⟨hopen x hx hheld, fun hlater => ?_⟩
          rw [List.min?_eq_none_iff, List.map_eq_nil_iff, List.filter_eq_nil_iff] at hmin
          exact hmin x hx (by simp only [Bool.and_eq_true, Entry.held_iff, Entry.later_iff]; exact ⟨hheld, hlater⟩)
        split
        next hany =>
          obtain ⟨x, hx, hreleased⟩ := List.any_eq_true.1 hany
          simp only [Bool.and_eq_true, Bool.not_eq_true', Entry.not_held_iff, Entry.covers_iff] at hreleased
          exact .releasedFree hphase huse hnever x hx hreleased.1 hreleased.2
        next hany =>
          refine .free hphase huse hnever fun x hx hreleased hcovers => hany (List.any_eq_true.2 ⟨x, hx, ?_⟩)
          simp only [Bool.and_eq_true, Bool.not_eq_true', Entry.not_held_iff, Entry.covers_iff]
          exact ⟨hreleased, hcovers⟩

/-- Settles O32: the rows of the displayed state one by one. -/
theorem displayedStateFollowsTheEntries : Obligations.DisplayedStateFollowsTheEntries := by
  intro e c s
  refine ⟨c.contentOf e s, (c.contentOf e s).shown, Entry.Held, Entry.Covers e c, Entry.Later e c, rfl, rfl, fun _ => rfl, fun _ => rfl,
    fun _ => rfl, ?_⟩
  have armed := c.nextArmed_iff
  have shows := c.contentOf_shows e s
  generalize c.contentOf e s = v at shows
  rw [← armed]
  cases shows with
  | noInfo hphase => grind
  | outOfUse hphase huse => grind
  | covered hphase huse x hx hheld hcovers => grind
  | freeUntil hphase huse hopen x hx hheld hlater hfirst => grind
  | releasedFree hphase huse hopen x hx hreleased hcovers => grind
  | free hphase huse hopen hreleased => grind

/-! ## Changes of seats that raise nothing (R100) -/

/-- Working the displayed states out again changes seats and lines alone. -/
theorem Coach.refresh_eq (e : Env) (c : Coach) : c.refresh e = { c with seats := (c.refresh e).seats, lines := (c.refresh e).lines } := by
  rw [← c.refresh_journey e, ← c.refresh_axle e, ← c.refresh_position e, ← c.refresh_sensors e, ← c.refresh_notices e, ← c.refresh_map e,
    ← c.refresh_reportsA e, ← c.refresh_reportsB e]

theorem Coach.onEntries_eq (e : Env) (n : Nat) (f : List Entry → List Entry) (c : Coach) :
    c.onEntries e n f = { c with seats := (c.onEntries e n f).seats, lines := (c.onEntries e n f).lines } :=
  Coach.refresh_eq e _

/-- A change of one seat's entries. -/
theorem Coach.onEntries_bare (e : Env) (n : Nat) (f : List Entry → List Entry) (c : Coach) :
    (c.onEntries e n f).seats.map Seat.bare
      = c.seats.map fun y => if y.number = n then { y.bare with entries := f y.entries } else y.bare := by
  rw [Coach.onEntries, Coach.refresh_bare, List.map_map]
  refine List.map_congr_left fun y _ => ?_
  simp only [Function.comp_apply]
  split <;> rfl

theorem Coach.onEntries_content (e : Env) (n : Nat) (f : List Entry → List Entry) (c : Coach) :
    ∀ z ∈ (c.onEntries e n f).seats, z.content = (c.onEntries e n f).contentOf e z := Coach.refresh_content e _

theorem Coach.setUse_eq (n : Nat) (on : Bool) (e : Env) (c : Coach) :
    c.setUse n on e = { c with seats := (c.setUse n on e).seats, lines := (c.setUse n on e).lines } := Coach.refresh_eq e _

theorem Coach.setUse_bare (n : Nat) (on : Bool) (e : Env) (c : Coach) : (c.setUse n on e).seats.map Seat.bare
    = c.seats.map fun z => if z.number = n then { z.bare with outOfUse := on } else z.bare := by
  rw [Coach.setUse, Coach.refresh_bare, List.map_map]
  refine List.map_congr_left fun y _ => ?_
  simp only [Function.comp_apply]
  split <;> rfl

/-! ## CANCEL and RELEASE (R90, R91) -/

theorem Coach.entry_none_iff {c : Coach} {token : Nat} : c.entry token = none ↔ ∀ z ∈ c.seats, ∀ y ∈ z.entries, y.token ≠ token := by
  simp [Coach.entry, List.findSome?_eq_none_iff]

theorem exec_cancel {s : State} {q : LinePort} (h : s.leads q) (token : Nat) :
    exec (.cancel (.line q) token) s = .next (State.answer (.line q) 14 (cancelBody token s.renewed).2.status
      (cancelBody token s.renewed).2.results (cancelBody token s.renewed).1) :=
  live_leadOnly h 14 fun _ => cancelBody token

theorem exec_release {s : State} {q : LinePort} (h : s.leads q) (token : Nat) :
    exec (.release (.line q) token) s = .next (State.answer (.line q) 15 (releaseBody token s.renewed).2.status
      (releaseBody token s.renewed).2.results (releaseBody token s.renewed).1) :=
  live_leadOnly h 15 fun _ => releaseBody token

theorem cancelBody_none {s : State} {token : Nat} (h : s.coach.entry token = none) : cancelBody token s = refuse .notFound s := by
  rw [cancelBody, h]

theorem cancelBody_some {s : State} {token : Nat} {seat : Seat} {y : Entry} (h : s.coach.entry token = some (seat, y)) :
    cancelBody token s = (s.onCoach fun e c => c.onEntries e seat.number fun xs => xs.filter fun x => x.token ≠ token,
      { status := .accepted, results := [BitVec.ofNat 8 seat.number] }) := by
  rw [cancelBody, h]
  rfl

theorem releaseBody_none {s : State} {token : Nat} (h : s.coach.entry token = none) : releaseBody token s = refuse .notFound s := by
  rw [releaseBody, h]

theorem releaseBody_some {s : State} {token : Nat} {seat : Seat} {y : Entry} (h : s.coach.entry token = some (seat, y)) :
    releaseBody token s = if y.state ≠ .booked then refuse .badState s
      else (s.onCoach fun e c => c.onEntries e seat.number fun xs => xs.map fun y => if y.token = token then y.released else y,
        { status := .accepted }) := by
  rw [releaseBody, h]
  simp only [judge_cons, judge_nil, decide_eq_true_eq, acceptCoach]

/-- Settles O28: the port, the token, and the entry that CANCEL frees or RELEASE gives up. -/
theorem cancelAndReleaseActOnTheEntry : Obligations.CancelAndReleaseActOnTheEntry := by
  intro s q token htakes
  refine ⟨fun hother => ⟨live_leadOnly_other htakes hother 14 fun _ => cancelBody token, live_leadOnly_other htakes hother 15 fun _ => releaseBody token⟩,
    fun hlead hnone => ?_, fun seat y hlead hentry => ?_⟩
  · have absent := Coach.entry_none_iff.2 hnone
    rw [exec_cancel ⟨htakes, hlead⟩, exec_release ⟨htakes, hlead⟩, cancelBody_none (s := s.renewed) absent,
      releaseBody_none (s := s.renewed) absent]
    exact ⟨rfl, rfl⟩
  · rw [exec_cancel ⟨htakes, hlead⟩, exec_release ⟨htakes, hlead⟩, cancelBody_some (s := s.renewed) hentry,
      releaseBody_some (s := s.renewed) hentry]
    refine ⟨⟨_, rfl, ?_, ?_, Coach.onEntries_content _ _ _ _⟩, fun hstate => ?_, fun hstate => ?_⟩
    · exact congrArg (fun c => { s.renewed with coach := c }) (Coach.onEntries_eq s.env _ _ _)
    · refine (Coach.onEntries_bare _ _ _ _).trans (List.map_congr_left fun z _ => ?_)
      simp only [bne, decide_not, Bool.beq_eq_decide_eq]
    · rw [if_pos hstate, refuse]
    · rw [if_neg (Classical.not_not.2 hstate)]
      refine ⟨_, rfl, ?_, Coach.onEntries_bare _ _ _ _, Coach.onEntries_content _ _ _ _⟩
      exact congrArg (fun c => { s.renewed with coach := c }) (Coach.onEntries_eq s.env _ _ _)

/-! ## SEAT MAP (R82) -/

theorem insertSeat_perm (x : Seat) (xs : List Seat) : (insertSeat x xs).Perm (x :: xs) := by
  induction xs with
  | nil => exact .refl _
  | cons y ys ih =>
    rw [insertSeat]
    split
    · exact .refl _
    · exact (ih.cons y).trans (.swap x y ys)

/-- A record of a number that the table does not hold keeps the order of the numbers. -/
theorem insertSeat_increasing {x : Seat} {xs : List Seat} (h : xs.Pairwise fun a b => a.number < b.number) (hnew : ∀ y ∈ xs, y.number ≠ x.number) :
    (insertSeat x xs).Pairwise fun a b => a.number < b.number := by
  induction xs with
  | nil => exact List.pairwise_singleton _ _
  | cons y ys ih =>
    obtain ⟨hy, hys⟩ := List.pairwise_cons.1 h
    rw [insertSeat]
    split
    next hlt =>
      refine List.pairwise_cons.2 ⟨fun z hz => ?_, h⟩
      rcases List.mem_cons.1 hz with rfl | hz
      · exact hlt
      · exact Nat.lt_trans hlt (hy z hz)
    next hge =>
      refine List.pairwise_cons.2 ⟨fun z hz => ?_, ih hys fun z hz => hnew z (List.mem_cons_of_mem _ hz)⟩
      rcases List.mem_cons.1 ((insertSeat_perm x ys).mem_iff.1 hz) with rfl | hz
      · have := hnew y List.mem_cons_self
        omega
      · exact hy z hz

/-- The table of descriptions of different numbers: one record each, in the order of the numbers. -/
theorem seatTable (ds : List SeatDesc) : ∀ ts : List Seat, ts.Pairwise (fun a b => a.number < b.number) →
    ds.Pairwise (fun a b => a.number ≠ b.number) → (∀ t ∈ ts, ∀ d ∈ ds, t.number ≠ d.number) →
    (ds.foldl (fun ts d => insertSeat (seatRecord d) ts) ts).Perm (ts ++ ds.map seatRecord)
      ∧ (ds.foldl (fun ts d => insertSeat (seatRecord d) ts) ts).Pairwise fun a b => a.number < b.number := by
  induction ds with
  | nil => exact fun ts hts _ _ => ⟨by simp, hts⟩
  | cons d ds ih =>
    intro ts hts hdiffer hnew
    obtain ⟨hd, hds⟩ := List.pairwise_cons.1 hdiffer
    have inserted := insertSeat_perm (seatRecord d) ts
    obtain ⟨hperm, hsorted⟩ := ih (insertSeat (seatRecord d) ts)
      (insertSeat_increasing hts fun t ht => hnew t ht d List.mem_cons_self) hds fun t ht y hy => by
        rcases List.mem_cons.1 (inserted.mem_iff.1 ht) with rfl | ht
        · exact hd y hy
        · exact hnew t ht y (List.mem_cons_of_mem _ hy)
    refine ⟨hperm.trans ?_, hsorted⟩
    rw [List.map_cons]
    exact (inserted.append_right _).trans List.perm_middle.symm

theorem SeatLine.queueShow_mem {l : SeatLine} {m : Fin 16} (h : m.val < l.moduleCount) : m ∈ (l.queueShow m).showQueue := by
  unfold SeatLine.queueShow
  split
  · simp
  next hin => simpa [h] using hin

theorem Coach.LinesGrow.mem {c d : Coach} (h : c.LinesGrow d) {i : Fin 4} {m : Fin 16} (hm : m ∈ (c.lines.get i).showQueue) :
    m ∈ (d.lines.get i).showQueue := by
  obtain ⟨g, hg⟩ := h i
  rw [hg]
  exact List.mem_append_left _ hm

theorem Coach.LinesGrow.moduleCount {c d : Coach} (h : c.LinesGrow d) (i : Fin 4) : (d.lines.get i).moduleCount = (c.lines.get i).moduleCount := by
  obtain ⟨g, hg⟩ := h i
  rw [hg]

/-- The contents of seats are handed to the controllers of their lines. -/
def Coach.handContents (c : Coach) (ys : List Seat) : Coach := ys.foldl (fun d s => d.contentChange s.line s.module) c

theorem Coach.handContents_grows (c : Coach) (ys : List Seat) : c.LinesGrow (c.handContents ys) :=
  Coach.LinesGrow.foldl (f := fun d (s : Seat) => d.contentChange s.line s.module) (fun c s => c.contentChange_grows s.line s.module) ys c

/-- Every served module whose content is handed on waits in its line's SHOW queue. -/
theorem Coach.handContents_waits (ys : List Seat) : ∀ c : Coach, ∀ y ∈ ys, y.module.val < (c.lines.get y.line).moduleCount →
    y.module ∈ ((c.handContents ys).lines.get y.line).showQueue := by
  induction ys with
  | nil => exact fun _ y hy => absurd hy List.not_mem_nil
  | cons x xs ih =>
    intro c y hy hserved
    have grows := c.contentChange_grows x.line x.module
    rw [Coach.handContents, List.foldl_cons, ← Coach.handContents]
    rcases List.mem_cons.1 hy with rfl | hy
    · refine (Coach.handContents_grows _ xs).mem ?_
      simpa [Coach.contentChange] using SeatLine.queueShow_mem hserved
    · exact ih _ y hy (by rwa [grows.moduleCount])

theorem exec_seatMap {s : State} {q : LinePort} (h : s.leads q) (n : Nat) (ds : List SeatDesc) :
    exec (.seatMap (.line q) n ds) s = .next (State.answer (.line q) 7 (seatMapBody n ds s.renewed).2.status
      (seatMapBody n ds s.renewed).2.results (seatMapBody n ds s.renewed).1) :=
  live_leadOnly h 7 fun _ => seatMapBody n ds

theorem seatMapBody_eq (n : Nat) (ds : List SeatDesc) (s : State) : seatMapBody n ds s
    = if s.coach.journey.phase ≠ .empty then refuse .wrongPhase s
      else if 96 < n ∨ n ≠ ds.length ∨ (ds.any fun d => !seatDescOk d) = true then refuse .badField s
      else if seatsClash ds = true then refuse .badField s
      else (s.onCoach fun _ c => c.mapSeats ds, { status := .accepted }) := by
  simp only [seatMapBody, judge_cons, judge_nil, decide_eq_true_eq, acceptCoach]

theorem seatDescOk_iff (ds : List SeatDesc) : (ds.any fun d => !seatDescOk d) = true
    ↔ ∃ d ∈ ds, d.number = 0 ∨ 199 < d.number ∨ 3 < d.line ∨ 15 < d.module ∨ 1 < d.place := by
  rw [List.any_eq_true]
  refine exists_congr fun d => and_congr_right fun _ => ?_
  simp only [seatDescOk, Bool.not_eq_true', Bool.and_eq_false_iff, decide_eq_false_iff_not]
  omega

/-- Two descriptions that share neither number nor place. -/
def SeatDesc.Apart (a b : SeatDesc) : Prop := a.number ≠ b.number ∧ ¬ (a.line = b.line ∧ a.module = b.module ∧ a.place = b.place)

theorem seatsClash_iff (ds : List SeatDesc) : seatsClash ds = true ↔ ¬ ds.Pairwise SeatDesc.Apart := by
  induction ds with
  | nil => simp [seatsClash]
  | cons d ds ih =>
    rw [seatsClash, Bool.or_eq_true, ih, List.pairwise_cons, Classical.not_and_iff_not_or_not, List.any_eq_true]
    refine or_congr_left ?_
    simp only [Classical.not_forall, exists_prop]
    refine exists_congr fun b => and_congr_right fun _ => ?_
    simp [sharesSeat, SeatDesc.Apart, and_assoc, Classical.or_iff_not_imp_left]

theorem Coach.mapSeats_eq (ds : List SeatDesc) (c : Coach) :
    c.mapSeats ds = { c with seats := (c.mapSeats ds).seats, lines := (c.mapSeats ds).lines } := by
  rw [← c.mapSeats_journey ds, ← c.mapSeats_axle ds, ← c.mapSeats_position ds, ← c.mapSeats_sensors ds, ← c.mapSeats_notices ds,
    ← c.mapSeats_map ds, ← c.mapSeats_reportsA ds, ← c.mapSeats_reportsB ds]

theorem Coach.mapSeats_seats (ds : List SeatDesc) (c : Coach) :
    (c.mapSeats ds).seats = ds.foldl (fun ts d => insertSeat (seatRecord d) ts) [] :=
  foldl_keeps Coach.seats (fun (d : Coach) (s : Seat) => d.contentChange s.line s.module) (fun _ _ => rfl) _ _

/-- The table after SEAT MAP, before its contents are handed on. -/
def Coach.withTable (ds : List SeatDesc) (c : Coach) : Coach := { c with seats := ds.foldl (fun ts d => insertSeat (seatRecord d) ts) [] }

theorem Coach.mapSeats_hands (ds : List SeatDesc) (c : Coach) :
    c.mapSeats ds = (c.withTable ds).handContents (c.seats ++ (c.mapSeats ds).seats) := by
  rw [Coach.mapSeats_seats]
  rfl

/-- Settles O25: the three checks, then the table and the contents that are handed on. -/
theorem seatMapReplacesTheTable : Obligations.SeatMapReplacesTheTable := by
  intro s q n ds hleads
  refine ⟨_, _, rfl, rfl, fun hphase => ?_, fun hphase hbad => ?_, fun hphase hgood hapart => ?_⟩
  · rw [exec_seatMap hleads, seatMapBody_eq, State.renewed_coach, if_pos hphase, refuse]
  · rw [exec_seatMap hleads, seatMapBody_eq, State.renewed_coach, if_neg (Classical.not_not.2 hphase)]
    rcases hbad with hbad | hclash
    · rw [if_pos (hbad.imp_right (.imp_right (seatDescOk_iff ds).2)), refuse]
    · rw [if_pos ((seatsClash_iff ds).2 hclash), ite_self, refuse]
  · have apart : ds.Pairwise SeatDesc.Apart := Classical.not_not.1 hapart
    have table := seatTable ds [] .nil (apart.imp fun h => h.1) (by simp)
    rw [← Coach.mapSeats_seats ds s.coach] at table
    refine ⟨s.renewed.onCoach fun _ c => c.mapSeats ds, ?_, ?_, table.1, table.2, ?_, ?_⟩
    · rw [exec_seatMap hleads, seatMapBody_eq, State.renewed_coach, if_neg (Classical.not_not.2 hphase),
        if_neg (fun h => hgood (h.imp_right (.imp_right (seatDescOk_iff ds).1))), if_neg (fun h => hapart ((seatsClash_iff ds).1 h))]
    · exact congrArg (fun c => { s.renewed with coach := c }) (Coach.mapSeats_eq ds s.coach)
    · rw [State.onCoach_coach, State.renewed_coach]
      have waits := Coach.handContents_waits (s.coach.seats ++ (s.coach.mapSeats ds).seats) (s.coach.withTable ds)
      rwa [← Coach.mapSeats_hands] at waits
    · have grows := Coach.handContents_grows (s.coach.withTable ds) (s.coach.seats ++ (s.coach.mapSeats ds).seats)
      rwa [← Coach.mapSeats_hands] at grows

end Sys2Proof.Machine
end

section
/-! # RESERVE (5.4) -/
namespace Sys2Proof.Machine

/-! ## The place of a new entry in its seat's list (R84) -/

/-- An entry joins after the entries that board no further along and before the first that does. -/
theorem insertEntry_split (list : List StopRec) (x : Entry) (ys : List Entry) : ∃ pre post, ys = pre ++ post
    ∧ insertEntry list x ys = pre ++ x :: post ∧ (∀ y ∈ pre, (y.leg list).1 ≤ (x.leg list).1)
    ∧ ∀ y, post.head? = some y → (x.leg list).1 < (y.leg list).1 := by
  induction ys with
  | nil => exact ⟨[], [], rfl, rfl, by simp, by simp⟩
  | cons y ys ih =>
    rw [insertEntry]
    split
    next hlt =>
      refine ⟨[], y :: ys, rfl, rfl, by simp, fun z hz => ?_⟩
      obtain rfl := Option.some.inj hz
      exact hlt
    next hge =>
      obtain ⟨pre, post, hys, hinserted, hpre, hpost⟩ := ih
      refine ⟨y :: pre, post, by rw [hys, List.cons_append], by rw [hinserted, List.cons_append], fun z hz => ?_, hpost⟩
      rcases List.mem_cons.1 hz with rfl | hz
      · omega
      · exact hpre z hz

/-! ## What an entry is booked for stays (R84, R86) -/

/-- Two entries of one booking: token, booked stops and effective leg. -/
def Entry.SameBooking (x y : Entry) : Prop :=
  y.token = x.token ∧ y.boarding = x.boarding ∧ y.alighting = x.alighting ∧ y.effBoarding = x.effBoarding ∧ y.effAlighting = x.effAlighting

theorem Entry.SameBooking.refl (x : Entry) : x.SameBooking x := ⟨rfl, rfl, rfl, rfl, rfl⟩

theorem Entry.SameBooking.trans {x y z : Entry} (h : x.SameBooking y) (k : y.SameBooking z) : x.SameBooking z := by
  obtain ⟨h1, h2, h3, h4, h5⟩ := h
  obtain ⟨k1, k2, k3, k4, k5⟩ := k
  exact ⟨k1.trans h1, k2.trans h2, k3.trans h3, k4.trans h4, k5.trans h5⟩

theorem Entry.SameBooking.leg {x y : Entry} (h : x.SameBooking y) (list : List StopRec) : y.leg list = x.leg list := by
  obtain ⟨-, hboarding, halighting, -, -⟩ := h
  rw [Entry.leg, Entry.leg, hboarding, halighting]

theorem lookAtSeat_sameBooking (k : EntryCtx) (x : Entry) : x.SameBooking (lookAtSeat k x).1 := by
  unfold lookAtSeat
  split
  · split
    · split <;> exact .refl x
    · split <;> exact .refl x
  · exact .refl x

theorem closeTest_sameBooking (k : EntryCtx) (x : Entry) : x.SameBooking (closeTest k x).1 := by
  unfold closeTest
  split
  · split
    · split <;> exact .refl x
    · exact .refl x
  · exact .refl x

theorem openWindow_sameBooking (k : EntryCtx) (r : StopRec) (x : Entry) : x.SameBooking (openWindow k r x).1 :=
  (lookAtSeat_sameBooking k { x with window := .opened, anchor := some (r.code, r.position), anchorLeft := r.status != .current }).trans
    (closeTest_sameBooking k _)

theorem openIfReached_sameBooking (k : EntryCtx) (x : Entry) : x.SameBooking (openIfReached k x).1 := by
  unfold openIfReached
  split
  · split
    · exact openWindow_sameBooking k _ x
    · exact .refl x
  · exact .refl x

/-! ## The freeing of the entries that a booking overtakes (R88) -/

/-- The entries of a seat that a booking leaves there. -/
def Booking.freed (b : Booking) (list : List StopRec) (xs : List Entry) : List Entry := xs.filter fun x => !b.overtakes list x

/-- The coach after the freeing. -/
def Coach.freeFor (e : Env) (b : Booking) (seat : Seat) (c : Coach) : Coach := c.onEntries e seat.number (b.freed c.journey.list)

/-- The first seat of a number after a change of that seat's entries. -/
theorem Coach.onEntries_seat (e : Env) (n : Nat) (f : List Entry → List Entry) (c : Coach) :
    ((c.onEntries e n f).seat n).map Seat.entries = (c.seat n).map fun z => f z.entries := by
  have found : ∀ xs : List Seat, (xs.find? fun z => z.number = n).map Seat.entries
      = ((xs.map Seat.bare).find? fun z => z.number = n).map Seat.entries := fun xs => by
    rw [List.find?_map, Option.map_map]
    rfl
  rw [Coach.seat, Coach.seat, found, Coach.onEntries_bare, List.find?_map, Option.map_map]
  have same : ((fun z : Seat => decide (z.number = n)) ∘ fun y : Seat =>
      if y.number = n then { y.bare with entries := f y.entries } else y.bare) = fun z : Seat => decide (z.number = n) := by
    funext z
    simp only [Function.comp_apply]
    split <;> rfl
  rw [same]
  refine Option.map_congr fun z hz => ?_
  simp only [Function.comp_apply]
  rw [if_pos (by simpa using List.find?_some hz)]

theorem Coach.onEntries_attached (e : Env) (n : Nat) (f : List Entry → List Entry) (c : Coach) :
    (c.onEntries e n f).attached = (c.seats.map fun z => if z.number = n then (f z.entries).length else z.entries.length).sum := by
  have counted : ∀ xs : List Seat, xs.map (fun z => z.entries.length) = (xs.map Seat.bare).map fun z => z.entries.length := fun xs => by
    rw [List.map_map]
    rfl
  rw [Coach.attached, counted, Coach.onEntries_bare, List.map_map]
  congr 1
  refine List.map_congr_left fun z _ => ?_
  simp only [Function.comp_apply]
  split <;> rfl

theorem Coach.onEntries_entryCtx (e : Env) (n : Nat) (f : List Entry → List Entry) (c : Coach) (seat : Seat) :
    (c.onEntries e n f).entryCtx e seat = c.entryCtx e seat := by
  rw [Coach.onEntries_eq]
  rfl

/-- A change of one seat's entries after another of the same seat. -/
theorem Coach.onEntries_twice_bare (e : Env) (n : Nat) (f g : List Entry → List Entry) {c d : Coach} (h : d.seats = (c.onEntries e n f).seats) :
    (d.onEntries e n g).seats.map Seat.bare
      = c.seats.map fun y => if y.number = n then { y.bare with entries := g (f y.entries) } else y.bare := by
  have changed : ∀ xs : List Seat, (xs.map fun y => if y.number = n then { y.bare with entries := g y.entries } else y.bare)
      = (xs.map Seat.bare).map fun y => if y.number = n then { y with entries := g y.entries } else y := fun xs => by
    rw [List.map_map]
    rfl
  rw [Coach.onEntries_bare, h, changed, Coach.onEntries_bare, List.map_map]
  refine List.map_congr_left fun y _ => ?_
  simp only [Function.comp_apply]
  by_cases hy : y.number = n
  · rw [if_pos hy, if_pos hy, if_pos (show Seat.number { y.bare with entries := f y.entries } = n from hy)]
  · rw [if_neg hy, if_neg hy, if_neg (show ¬ y.bare.number = n from hy)]

/-- Reports are raised whatever the seats and the lines are. -/
theorem Coach.raiseAll_seatsLines (e : Env) (rs : List Report) (c : Coach) (seats : List Seat) (lines : Quad SeatLine) :
    Coach.raiseAll e rs { c with seats, lines } = { Coach.raiseAll e rs c with seats, lines } := by
  induction rs generalizing c with
  | nil => rfl
  | cons r rs ih => exact ih (c.raise e r)

/-! ## The checks of RESERVE (R88) -/

theorem exec_reserve {s : State} {q : LinePort} (h : s.leads q) (n token b a : Nat) :
    exec (.reserve (.line q) n token b a) s = .next (State.answer (.line q) 13 (reserveBody n ⟨token, b, a⟩ s.renewed).2.status
      (reserveBody n ⟨token, b, a⟩ s.renewed).2.results (reserveBody n ⟨token, b, a⟩ s.renewed).1) :=
  live_leadOnly h 13 fun _ => reserveBody n ⟨token, b, a⟩

/-- The values of a booking are in their ranges. -/
def Booking.Good (b : Booking) : Prop := b.token ≠ 0 ∧ (1 ≤ b.boarding ∧ b.boarding ≤ 65534) ∧ 1 ≤ b.alighting ∧ b.alighting ≤ 65534

theorem Booking.not_good_iff (b : Booking) :
    (b.token = 0 ∨ ¬ stopCodeOk b.boarding = true ∨ ¬ stopCodeOk b.alighting = true) ↔ ¬ b.Good := by
  simp only [Booking.Good, stopCodeOk, Bool.and_eq_true, decide_eq_true_eq]
  omega

theorem reserveBody_empty {s : State} (h : s.coach.journey.phase = .empty) (n : Nat) (b : Booking) : reserveBody n b s = refuse .wrongPhase s :=
  if_pos h

theorem reserveBody_bad {s : State} {b : Booking} (h : s.coach.journey.phase ≠ .empty) (hbad : ¬ b.Good) (n : Nat) :
    reserveBody n b s = refuse .badField s := (if_neg h).trans (if_pos (b.not_good_iff.2 hbad))

theorem reserveBody_unknown {s : State} {b : Booking} {n : Nat} (h : s.coach.journey.phase ≠ .empty) (hgood : b.Good) (hseat : s.coach.seat n = none) :
    reserveBody n b s = refuse .unknownSeat s := by
  rw [reserveBody, if_neg h, if_neg fun hbad => b.not_good_iff.1 hbad hgood, hseat]

/-- The checks of RESERVE on a seat that is known. -/
def seatChecks (b : Booking) (seat : Seat) (s : State) : List (Bool × Status) :=
  [ (seat.outOfUse, .outOfUse),
    ((s.coach.entry b.token).isSome, .duplicateToken),
    ((findCode s.coach.journey.list b.boarding).isNone || (findCode s.coach.journey.list b.alighting).isNone, .unknownStop),
    (b.badLeg s.consist.portion s.coach.journey.list, .badLeg),
    ((recordAt s.coach.journey.list (findCode s.coach.journey.list b.boarding)).any fun r => r.status.past, .pastStop),
    (seat.entries.any fun x => x.held && b.overlapsEntry s.coach.journey.list x, .overlap) ]

theorem reserveBody_known {s : State} {b : Booking} {n : Nat} {seat : Seat} (h : s.coach.journey.phase ≠ .empty) (hgood : b.Good)
    (hseat : s.coach.seat n = some seat) : reserveBody n b s = judge (seatChecks b seat s) (bookSeat b seat) s := by
  rw [reserveBody, if_neg h, if_neg fun hbad => b.not_good_iff.1 hbad hgood, hseat]
  rfl

/-- A refusal before the freeing. -/
def Status.beforeFreeing (st : Status) : Prop := st ≠ .accepted ∧ st ≠ .seatFull ∧ st ≠ .poolFull

/-- RESERVE is refused before the freeing, or comes to the booking of its seat. -/
theorem reserveBody_cases (n : Nat) (b : Booking) (s : State) : (∃ st : Status, st.beforeFreeing ∧ reserveBody n b s = refuse st s)
    ∨ ∃ seat, s.coach.seat n = some seat ∧ reserveBody n b s = bookSeat b seat s := by
  by_cases h : s.coach.journey.phase = .empty
  · exact .inl ⟨.wrongPhase, ⟨nofun, nofun, nofun⟩, reserveBody_empty h n b⟩
  by_cases hgood : b.Good
  · cases hseat : s.coach.seat n with
    | none => exact .inl ⟨.unknownSeat, ⟨nofun, nofun, nofun⟩, reserveBody_unknown h hgood hseat⟩
    | some seat =>
      rw [reserveBody_known h hgood hseat]
      rcases judge_cases (seatChecks b seat s) (bookSeat b seat) s with ⟨st, hst, hrefused⟩ | ⟨-, htaken⟩
      · refine .inl ⟨st, ?_, hrefused⟩
        simp only [seatChecks, List.mem_cons, List.not_mem_nil, or_false, Prod.mk.injEq] at hst
        rcases hst with ⟨-, rfl⟩ | ⟨-, rfl⟩ | ⟨-, rfl⟩ | ⟨-, rfl⟩ | ⟨-, rfl⟩ | ⟨-, rfl⟩ <;> exact ⟨nofun, nofun, nofun⟩
      · exact .inr ⟨seat, rfl, htaken⟩
  · exact .inl ⟨.badField, ⟨nofun, nofun, nofun⟩, reserveBody_bad h hgood n⟩

/-- Steps 11 and 12, on the coach after the freeing. -/
theorem bookSeat_eq (b : Booking) (seat : Seat) (s : State) : bookSeat b seat s
    = let t := s.onCoach fun e c => c.freeFor e b seat
      let leg := (effLeg s.coach.journey.list s.consist.portion b.boarding b.alighting).getD (0, 0)
      if 4 ≤ ((t.coach.seat seat.number).map fun x => x.entries.length).getD 0 then refuse .seatFull t
      else if t.coach.poolFree = 0 then refuse .poolFull t
      else (t.onCoach fun e c => c.book e seat (b.entry leg), { status := .accepted, results := legCodes s.coach.journey.list leg }) := by
  simp only [bookSeat, judge_cons, judge_nil, decide_eq_true_eq]
  rfl

/-- How many entries the coach holds after the freeing. -/
def Coach.left (b : Booking) (n : Nat) (c : Coach) : Nat :=
  (c.seats.map fun z => if z.number = n then (b.freed c.journey.list z.entries).length else z.entries.length).sum

theorem Coach.seat_number {c : Coach} {n : Nat} {seat : Seat} (h : c.seat n = some seat) : seat.number = n := by
  simpa using List.find?_some h

theorem Coach.freeFor_count {c : Coach} {n : Nat} {seat : Seat} (h : c.seat n = some seat) (e : Env) (b : Booking) :
    (((c.freeFor e b seat).seat seat.number).map fun x => x.entries.length).getD 0 = (b.freed c.journey.list seat.entries).length := by
  have counted := congrArg (Option.map List.length) (c.onEntries_seat e n (b.freed c.journey.list))
  rw [h, Option.map_map] at counted
  rw [Coach.freeFor, Coach.seat_number h, show (fun x : Seat => x.entries.length) = List.length ∘ Seat.entries from rfl, counted]
  rfl

theorem Coach.freeFor_poolFree (e : Env) (b : Booking) (seat : Seat) (c : Coach) :
    (c.freeFor e b seat).poolFree = 0 ↔ 256 ≤ c.left b seat.number := by
  rw [Coach.poolFree, Coach.freeFor, Coach.onEntries_attached, Coach.left]
  omega

theorem bookSeat_seatFull {s : State} {n : Nat} {seat : Seat} {b : Booking} (hseat : s.coach.seat n = some seat)
    (hfull : 4 ≤ (b.freed s.coach.journey.list seat.entries).length) :
    bookSeat b seat s = refuse .seatFull (s.onCoach fun e c => c.freeFor e b seat) := by
  have counted := Coach.freeFor_count hseat s.env b
  rw [bookSeat_eq]
  dsimp only
  rw [State.onCoach_coach, counted, if_pos hfull]

theorem bookSeat_poolFull {s : State} {n : Nat} {seat : Seat} {b : Booking} (hseat : s.coach.seat n = some seat)
    (hroom : (b.freed s.coach.journey.list seat.entries).length < 4) (hfull : 256 ≤ s.coach.left b n) :
    bookSeat b seat s = refuse .poolFull (s.onCoach fun e c => c.freeFor e b seat) := by
  have counted := Coach.freeFor_count hseat s.env b
  rw [bookSeat_eq]
  dsimp only
  rw [State.onCoach_coach, counted, if_neg (by omega), if_pos ((Coach.freeFor_poolFree _ _ _ _).2 (by rwa [Coach.seat_number hseat]))]

theorem bookSeat_books {s : State} {n : Nat} {seat : Seat} {b : Booking} {leg : Nat × Nat} (hseat : s.coach.seat n = some seat)
    (hroom : (b.freed s.coach.journey.list seat.entries).length < 4) (hfree : s.coach.left b n < 256)
    (hleg : effLeg s.coach.journey.list s.consist.portion b.boarding b.alighting = some leg) :
    bookSeat b seat s = ((s.onCoach fun e c => c.freeFor e b seat).onCoach fun e c => c.book e seat (b.entry leg),
      { status := .accepted, results := legCodes s.coach.journey.list leg }) := by
  have counted := Coach.freeFor_count hseat s.env b
  rw [bookSeat_eq]
  dsimp only
  rw [State.onCoach_coach, counted, if_neg (by omega), if_neg, hleg, Option.getD_some]
  rw [Coach.freeFor_poolFree, Coach.seat_number hseat]
  omega

/-- What the booking of a seat can come to. -/
theorem bookSeat_cases (b : Booking) (seat : Seat) (s : State) :
    ((bookSeat b seat s).2.status = .seatFull ∨ (bookSeat b seat s).2.status = .poolFull)
        ∧ (bookSeat b seat s).2.results = [] ∧ (bookSeat b seat s).1 = s.onCoach (fun e c => c.freeFor e b seat)
      ∨ (bookSeat b seat s).2.status = .accepted := by
  rw [bookSeat_eq]
  dsimp only
  split
  · exact .inl ⟨.inl rfl, rfl, rfl⟩
  · split
    · exact .inl ⟨.inr rfl, rfl, rfl⟩
    · exact .inr rfl

/-! ## The checks on a seat that is known, in order -/

theorem findCode_some {list : List StopRec} {code i : Nat} (h : findCode list code = some i) : ∃ r, list[i]? = some r ∧ r.code = code := by
  obtain ⟨hi, hcode, -⟩ := List.findIdx?_eq_some_iff_getElem.1 h
  exact ⟨_, List.getElem?_eq_getElem hi, by simpa using hcode⟩

theorem Coach.entry_isSome_iff (c : Coach) (token : Nat) :
    (c.entry token).isSome = true ↔ ∃ z ∈ c.seats, ∃ y ∈ z.entries, y.token = token := by
  rw [← Option.ne_none_iff_isSome, Ne, Coach.entry_none_iff]
  simp only [ne_eq, Classical.not_forall, Classical.not_not, exists_prop]

theorem Booking.badLeg_iff {b : Booking} {list : List StopRec} {i k : Nat} (hi : findCode list b.boarding = some i)
    (hk : findCode list b.alighting = some k) (portion : Fin 4) :
    b.badLeg portion list = true ↔ k ≤ i ∨ effLeg list portion b.boarding b.alighting = none := by
  simp [Booking.badLeg, hi, hk, or_comm]

theorem Booking.any_overlap_iff (b : Booking) (list : List StopRec) (ys : List Entry) :
    (ys.any fun x => x.held && b.overlapsEntry list x) = true ↔ ∃ y ∈ ys, y.state ≠ .released ∧ b.overlapsEntry list y = true := by
  simp [List.any_eq_true, Entry.held]

theorem Booking.overtakes_eq (b : Booking) (list : List StopRec) (y : Entry) :
    b.overtakes list y = (y.state == .released && b.overlapsEntry list y) := by
  unfold Booking.overtakes
  cases y.state <;> rfl

/-- Settles O26: the checks one after the other, the last two after the freeing. -/
theorem reserveIsJudgedInOrder : Obligations.ReserveIsJudgedInOrder := by
  intro s q n token b a hleads
  refine ⟨_, _, _, s.coach.journey.list, s.coach.left ⟨token, b, a⟩ n, Booking.overtakes ⟨token, b, a⟩ s.coach.journey.list, rfl,
    Booking.overtakes_eq _ _, rfl, exec_reserve hleads n token b a, fun hphase => ?_, fun hphase hbad => ?_,
    fun hphase htoken hb1 hb2 ha1 ha2 => ⟨fun hseat => ?_, fun seat hseat => ?_⟩, ?_, ?_⟩
  · rw [reserveBody_empty (s := s.renewed) hphase, refuse]
  · rw [reserveBody_bad (s := s.renewed) hphase, refuse]
    rintro ⟨h1, h2, h3⟩
    dsimp only at h1 h2 h3
    omega
  · rw [reserveBody_unknown (s := s.renewed) hphase ⟨htoken, ⟨hb1, hb2⟩, ha1, ha2⟩ hseat, refuse]
  · rw [reserveBody_known (s := s.renewed) hphase ⟨htoken, ⟨hb1, hb2⟩, ha1, ha2⟩ hseat,
      show seatChecks ⟨token, b, a⟩ seat s.renewed = seatChecks ⟨token, b, a⟩ seat s from rfl]
    simp only [seatChecks, judge_cons, judge_nil]
    have duplicate := s.coach.entry_isSome_iff token
    refine ⟨fun huse => ?_, fun huse hdup => ?_, fun huse hnew => ?_⟩
    · rw [if_pos huse, refuse]
    · rw [if_neg (by simp [huse]), if_pos (duplicate.2 hdup), refuse]
    · rw [if_neg (by simp [huse]), if_neg fun h => absurd (duplicate.1 h) fun ⟨z, hz, y, hy, htoken⟩ => hnew z hz y hy htoken]
      refine ⟨fun habsent => ?_, fun i k r hi hk hr => ⟨fun hbad => ?_, fun leg hik hleg => ?_⟩⟩
      · rw [if_pos (by simpa using habsent), refuse]
      · rw [if_neg (by simp [hi, hk]), if_pos ((Booking.badLeg_iff hi hk _).2 hbad), refuse]
      · rw [if_neg (by simp [hi, hk]), if_neg fun h => by have := (Booking.badLeg_iff hi hk _).1 h; simp [hleg] at this; omega]
        have behind : ((recordAt s.coach.journey.list (findCode s.coach.journey.list b)).any fun r => r.status.past) = r.status.past := by
          rw [hi, recordAt, Option.bind_some, hr, Option.any_some]
        have overlap := Booking.any_overlap_iff ⟨token, b, a⟩ s.coach.journey.list seat.entries
        rw [behind]
        refine ⟨fun hpast => ?_, fun hpast hover => ?_, fun hpast hclear => ?_⟩
        · rw [if_pos hpast, refuse]
        · rw [if_neg (by simp [hpast]), if_pos (overlap.2 hover), refuse]
        · rw [if_neg (by simp [hpast]), if_neg fun h => by
            obtain ⟨y, hy, hheld, hover⟩ := overlap.1 h
            rw [hclear y hy hheld] at hover
            cases hover]
          refine ⟨fun hfull => ?_, fun hroom hfull => ?_, fun hroom hfree => ?_⟩
          · rw [bookSeat_seatFull (s := s.renewed) hseat hfull, refuse]
          · rw [bookSeat_poolFull (s := s.renewed) hseat hroom hfull, refuse]
          · rw [bookSeat_books (s := s.renewed) hseat hroom hfree hleg]
  · intro haccepted hseatFull hpoolFull
    rcases reserveBody_cases n ⟨token, b, a⟩ s.renewed with ⟨st, -, hrefused⟩ | ⟨seat, hseat, hbooks⟩
    · rw [hrefused, refuse]
      exact ⟨rfl, rfl⟩
    · rw [hbooks] at haccepted hseatFull hpoolFull
      rcases bookSeat_cases ⟨token, b, a⟩ seat s.renewed with ⟨hfull, -, -⟩ | hstatus
      · exact absurd hfull (not_or.2 ⟨hseatFull, hpoolFull⟩)
      · exact absurd hstatus haccepted
  · intro hfull
    rcases reserveBody_cases n ⟨token, b, a⟩ s.renewed with ⟨st, ⟨-, hseatFull, hpoolFull⟩, hrefused⟩ | ⟨seat, hseat, hbooks⟩
    · rw [hrefused, refuse] at hfull
      exact absurd hfull (not_or.2 ⟨hseatFull, hpoolFull⟩)
    · rw [hbooks] at hfull ⊢
      rcases bookSeat_cases ⟨token, b, a⟩ seat s.renewed with ⟨-, hresults, hstate⟩ | hstatus
      · rw [hresults, hstate, State.onCoach_coach, State.renewed_coach, Coach.freeFor, Coach.seat_number hseat]
        exact ⟨rfl, Coach.refresh_reportsA _ _, Coach.refresh_reportsB _ _, Coach.onEntries_bare _ _ _ _⟩
      · rw [hstatus] at hfull
        simp at hfull

/-! ## The booking itself (R89, R94) -/

/-- The coach after the freeing and the booking. -/
def Coach.bookFreed (e : Env) (b : Booking) (seat : Seat) (x : Entry) (c : Coach) : Coach := (c.freeFor e b seat).book e seat x

theorem Coach.bookFreed_eq (e : Env) (b : Booking) (seat : Seat) (x : Entry) (c : Coach) :
    c.bookFreed e b seat x = (Coach.raiseAll e (openIfReached (c.entryCtx e seat) x).2 (c.freeFor e b seat)).onEntries e seat.number
      (insertEntry c.journey.list (openIfReached (c.entryCtx e seat) x).1) := by
  have journey : (c.freeFor e b seat).journey = c.journey := Coach.refresh_journey _ _
  rw [Coach.bookFreed, Coach.book, Coach.freeFor, Coach.onEntries_entryCtx, ← Coach.freeFor, journey]

theorem Coach.bookFreed_frame (e : Env) (b : Booking) (seat : Seat) (x : Entry) (c : Coach) :
    c.bookFreed e b seat x = { (Coach.raiseAll e (openIfReached (c.entryCtx e seat) x).2 c) with
      seats := (c.bookFreed e b seat x).seats, lines := (c.bookFreed e b seat x).lines } := by
  have raised := Coach.raiseAll_seatsLines e (openIfReached (c.entryCtx e seat) x).2 c (c.freeFor e b seat).seats (c.freeFor e b seat).lines
  rw [← show c.freeFor e b seat = { c with seats := (c.freeFor e b seat).seats, lines := (c.freeFor e b seat).lines } from
    Coach.onEntries_eq _ _ _ _] at raised
  rw [Coach.bookFreed_eq, Coach.onEntries_eq, raised]

theorem Coach.bookFreed_bare (e : Env) (b : Booking) (seat : Seat) (x : Entry) (c : Coach) :
    (c.bookFreed e b seat x).seats.map Seat.bare = c.seats.map (fun y => if y.number = seat.number then { y.bare with
        entries := insertEntry c.journey.list (openIfReached (c.entryCtx e seat) x).1 (b.freed c.journey.list y.entries) }
      else y.bare) := by
  rw [Coach.bookFreed_eq]
  exact Coach.onEntries_twice_bare e seat.number (b.freed c.journey.list) _ (Coach.raiseAll_seats _ _ _)

theorem reserveBody_books {s : State} {n i k : Nat} {b : Booking} {seat : Seat} {leg : Nat × Nat} {r : StopRec}
    (hphase : s.coach.journey.phase ≠ .empty) (hgood : b.Good) (hseat : s.coach.seat n = some seat) (huse : seat.outOfUse = false)
    (hnew : ∀ z ∈ s.coach.seats, ∀ y ∈ z.entries, y.token ≠ b.token)
    (hclear : ∀ y ∈ seat.entries, y.state ≠ .released → b.overlapsEntry s.coach.journey.list y = false)
    (hroom : (b.freed s.coach.journey.list seat.entries).length < 4) (hfree : s.coach.left b n < 256)
    (hi : findCode s.coach.journey.list b.boarding = some i) (hk : findCode s.coach.journey.list b.alighting = some k) (hik : i < k)
    (hr : s.coach.journey.list[i]? = some r) (hpast : r.status.past = false)
    (hleg : effLeg s.coach.journey.list s.consist.portion b.boarding b.alighting = some leg) :
    reserveBody n b s = ((s.onCoach fun e c => c.freeFor e b seat).onCoach fun e c => c.book e seat (b.entry leg),
      { status := .accepted, results := legCodes s.coach.journey.list leg }) := by
  have behind : ((recordAt s.coach.journey.list (findCode s.coach.journey.list b.boarding)).any fun r => r.status.past) = r.status.past := by
    rw [hi, recordAt, Option.bind_some, hr, Option.any_some]
  rw [reserveBody_known hphase hgood hseat]
  simp only [seatChecks, judge_cons, judge_nil]
  rw [if_neg (by simp [huse]), if_neg fun h => absurd ((s.coach.entry_isSome_iff _).1 h) fun ⟨z, hz, y, hy, htoken⟩ => hnew z hz y hy htoken, if_neg (by simp [hi, hk]),
    if_neg (by rw [Booking.badLeg_iff hi hk, hleg]; simp; omega), behind, if_neg (by simp [hpast]), if_neg ?_,
    bookSeat_books hseat hroom hfree hleg]
  intro hover
  obtain ⟨y, hy, hheld, hover⟩ := (b.any_overlap_iff _ _).1 hover
  rw [hclear y hy hheld] at hover
  cases hover

/-- The window of a booked entry at a seat that the coach stands at (log entry 16). -/
theorem openIfReached_current {k : EntryCtx} {x : Entry} {r : StopRec} (hr : k.list[x.effBoarding]? = some r) (hpending : x.window = .pending)
    (hcurrent : r.status = .current) :
    openIfReached k x = lookAtSeat k { x with window := .opened, anchor := some (r.code, r.position), anchorLeft := false } := by
  rw [openIfReached_opens hr hpending (by simp [hcurrent]), openWindow_current hcurrent]

theorem legCodes_eq {list : List StopRec} {leg : Nat × Nat} {rb ra : StopRec} (hb : list[leg.1]? = some rb) (ha : list[leg.2]? = some ra) :
    legCodes list leg = leBytes 2 rb.code ++ leBytes 2 ra.code := by
  simp [legCodes, codeAt, recordAt, hb, ha]

theorem Entry.leg_boarding {list : List StopRec} {x : Entry} {i k : Nat} {r : StopRec} (hi : findCode list x.boarding = some i)
    (hk : findCode list x.alighting = some k) (hr : list[i]? = some r) : (x.leg list).1 = r.position := by
  obtain ⟨ra, hra, -⟩ := findCode_some hk
  simp [Entry.leg, bookedLeg, recordAt, hi, hk, hr, hra]

/-- Settles O27: the entry, its place in the list, and its window by the state of its boarding stop. -/
theorem reserveBooksOneEntry : Obligations.ReserveBooksOneEntry := by
  intro s q n token b a i k seat leg bb rb ra overtaken hleads hphase htoken hb1 hb2 ha1 ha2 hseat huse hovertaken hnew hclear hroom hfree hi hk hik
    hbb hpast hleg hrb hra
  obtain rfl : overtaken = Booking.overtakes ⟨token, b, a⟩ s.coach.journey.list := by
    funext y
    rw [hovertaken, Booking.overtakes_eq]
  have number := Coach.seat_number hseat
  have books := reserveBody_books (s := s.renewed) (b := ⟨token, b, a⟩) hphase ⟨htoken, ⟨hb1, hb2⟩, ha1, ha2⟩ hseat huse hnew hclear hroom hfree
    hi hk hik hbb hpast hleg
  have frame := s.coach.bookFreed_frame s.env ⟨token, b, a⟩ seat (Booking.entry ⟨token, b, a⟩ leg)
  have bare := s.coach.bookFreed_bare s.env ⟨token, b, a⟩ seat (Booking.entry ⟨token, b, a⟩ leg)
  have content : ∀ y ∈ (s.coach.bookFreed s.env ⟨token, b, a⟩ seat (Booking.entry ⟨token, b, a⟩ leg)).seats, y.content
      = (s.coach.bookFreed s.env ⟨token, b, a⟩ seat (Booking.entry ⟨token, b, a⟩ leg)).contentOf s.env y := Coach.onEntries_content _ _ _ _
  have record : (s.coach.entryCtx s.env seat).list[(Booking.entry ⟨token, b, a⟩ leg).effBoarding]? = some rb := hrb
  have placed : ((openIfReached (s.coach.entryCtx s.env seat) (Booking.entry ⟨token, b, a⟩ leg)).1.leg s.coach.journey.list).1 = bb.position := by
    rw [(openIfReached_sameBooking _ _).leg]
    exact Entry.leg_boarding hi hk hbb
  rw [number] at bare
  refine ⟨s.renewed.onCoach fun _ c => c.bookFreed s.env ⟨token, b, a⟩ seat (Booking.entry ⟨token, b, a⟩ leg),
    (openIfReached (s.coach.entryCtx s.env seat) (Booking.entry ⟨token, b, a⟩ leg)).2, Booking.entry ⟨token, b, a⟩ leg,
    (openIfReached (s.coach.entryCtx s.env seat) (Booking.entry ⟨token, b, a⟩ leg)).1,
    fun ys => insertEntry s.coach.journey.list (openIfReached (s.coach.entryCtx s.env seat) (Booking.entry ⟨token, b, a⟩ leg)).1
      (Booking.freed ⟨token, b, a⟩ s.coach.journey.list ys), (s.coach.sensor seat.placeId).state,
    ?_, ?_, bare, content, fun ys => ?_, rfl, rfl, fun hahead => ?_, fun hcurrent hsensor => ?_, fun hcurrent hsensor => ?_,
    fun hcurrent hsensor => ?_, fun hahead hcurrent => ?_⟩
  · rw [exec_reserve hleads, books]
    exact congrArg (fun rs => Host.Outcome.next (State.answer (.line q) 13 .accepted rs _)) (legCodes_eq hrb hra)
  · exact congrArg (fun c => { s.renewed with coach := c }) frame
  · have split := insertEntry_split s.coach.journey.list
      (openIfReached (s.coach.entryCtx s.env seat) (Booking.entry ⟨token, b, a⟩ leg)).1 (Booking.freed ⟨token, b, a⟩ s.coach.journey.list ys)
    rwa [placed] at split
  · rw [openIfReached_ahead record hahead]
    exact ⟨rfl, rfl⟩
  · rw [openIfReached_current record rfl hcurrent, lookAtSeat_claims (.inl rfl) hsensor rfl, EntryCtx.report_eq rfl]
    exact ⟨rfl, rfl⟩
  · rw [openIfReached_current record rfl hcurrent, lookAtSeat_unknown (.inl rfl) hsensor]
    exact ⟨rfl, rfl⟩
  · rw [openIfReached_current record rfl hcurrent, lookAtSeat_empty (.inl rfl) hsensor]
    exact ⟨rfl, rfl⟩
  · rw [openIfReached_opens record rfl hahead]

end Sys2Proof.Machine
end

section
/-! # List changes (5.3) -/
namespace Sys2Proof.Machine

/-! ## One entry at a list change (R86, R87) -/

/-- At a commit an anchor stop that has left the list is left. -/
theorem anchorGone_eq (k : EntryCtx) (commit : Bool) (x : Entry) : anchorGone k commit x
    = { x with anchorLeft := x.anchorLeft || (commit && x.anchor.any fun a => (findCode k.list a.1).isNone) } := by
  obtain ⟨token, boarding, alighting, state, unverified, b, a, window, anchor, left⟩ := x
  cases anchor with
  | none => simp [anchorGone]
  | some a => cases hgone : commit && (findCode k.list a.1).isNone <;> simp [anchorGone, hgone]

theorem anchorGone_sameBooking (k : EntryCtx) (commit : Bool) (x : Entry) : x.SameBooking (anchorGone k commit x) := by
  rw [anchorGone_eq]
  exact .refl x

theorem windowAtListChange_sameBooking (k : EntryCtx) (commit : Bool) (x : Entry) : x.SameBooking (windowAtListChange k commit x).1 := by
  unfold windowAtListChange
  split
  · exact openIfReached_sameBooking k x
  · exact (anchorGone_sameBooking k commit x).trans (closeTest_sameBooking k _)

theorem windowAtListChange_closed {k : EntryCtx} {commit : Bool} {x : Entry} (h : x.window = .spent ∨ x.window = .deferred) :
    windowAtListChange k commit x = (anchorGone k commit x, []) := by
  have same : (anchorGone k commit x).window = x.window := by rw [anchorGone_eq]
  rw [windowAtListChange, if_neg (by rcases h with h | h <;> simp [h]), closeTest_closed (.inl _)]
  rw [same]
  rcases h with h | h <;> simp [h]

/-- The report of a dropped booking. -/
def EntryCtx.dropped (k : EntryCtx) (code : Nat) (x : Entry) : Report :=
  ⟨.reservationDropped, some code, some k.seat, some x.token, k.position.estimate / 65536000, .none, none⟩

theorem entryAtListChange_boardingGone {k : EntryCtx} {x : Entry} (h : findCode k.list x.boarding = none) (portion : Fin 4) (old : List StopRec) :
    entryAtListChange k portion old true x = (none, [k.dropped x.boarding x]) := by
  simp only [entryAtListChange, h]
  rfl

theorem entryAtListChange_alightingGone {k : EntryCtx} {x : Entry} (hb : findCode k.list x.boarding ≠ none)
    (h : findCode k.list x.alighting = none) (portion : Fin 4) (old : List StopRec) :
    entryAtListChange k portion old true x = (none, [k.dropped x.alighting x]) := by
  obtain ⟨i, hi⟩ := Option.ne_none_iff_exists'.1 hb
  simp only [entryAtListChange, h, hi]
  rfl

/-- An entry whose stops are in the list, or at a change that is no commit, takes its effective leg anew or is freed. -/
theorem entryAtListChange_present {k : EntryCtx} {x : Entry} {commit : Bool}
    (h : commit = false ∨ findCode k.list x.boarding ≠ none ∧ findCode k.list x.alighting ≠ none) (portion : Fin 4) (old : List StopRec) :
    entryAtListChange k portion old commit x = match effLeg k.list portion x.boarding x.alighting with
      | none => (none, [⟨.reservationAffected, some x.boarding, some k.seat, some x.token, k.position.metres, .void, none⟩])
      | some (b, a) =>
        (some (windowAtListChange k commit { x with effBoarding := b, effAlighting := a }).1,
          (if (codeAt old (some x.effBoarding), codeAt old (some x.effAlighting)) = (codeAt k.list (some b), codeAt k.list (some a)) then []
            else [⟨.reservationAffected, codeAt k.list (some b), some k.seat, some x.token, k.position.metres, .none,
              (codeAt k.list (some a)).map Int.ofNat⟩])
          ++ (windowAtListChange k commit { x with effBoarding := b, effAlighting := a }).2) := by
  rcases h with rfl | ⟨hb, ha⟩
  · simp only [entryAtListChange] <;> rfl
  · obtain ⟨i, hi⟩ := Option.ne_none_iff_exists'.1 hb
    obtain ⟨j, hj⟩ := Option.ne_none_iff_exists'.1 ha
    cases commit <;> simp only [entryAtListChange, hi, hj] <;> rfl

/-! ## The order of a seat's list and the overlaps in it (R86) -/

theorem insertEntry_perm (list : List StopRec) (x : Entry) (ys : List Entry) : (insertEntry list x ys).Perm (x :: ys) := by
  obtain ⟨pre, post, hys, hinserted, -⟩ := insertEntry_split list x ys
  rw [hinserted, hys]
  exact List.perm_middle

/-- Bookings in the order of their boarding. -/
def InOrder (list : List StopRec) (ys : List Entry) : Prop := ys.Pairwise fun x y => (x.leg list).1 ≤ (y.leg list).1

theorem insertEntry_inOrder {list : List StopRec} {ys : List Entry} (h : InOrder list ys) (x : Entry) : InOrder list (insertEntry list x ys) := by
  obtain ⟨pre, post, rfl, hinserted, hpre, hpost⟩ := insertEntry_split list x ys
  obtain ⟨hpres, hposts, hacross⟩ := List.pairwise_append.1 h
  have after : ∀ y ∈ post, (x.leg list).1 ≤ (y.leg list).1 := by
    cases post with
    | nil => simp
    | cons z zs =>
      have first := hpost z rfl
      intro y hy
      rcases List.mem_cons.1 hy with rfl | hy
      · exact Nat.le_of_lt first
      · exact Nat.le_trans (Nat.le_of_lt first) (List.rel_of_pairwise_cons hposts hy)
  rw [hinserted]
  refine List.pairwise_append.2 ⟨hpres, List.pairwise_cons.2 ⟨after, hposts⟩, fun a ha y hy => ?_⟩
  rcases List.mem_cons.1 hy with rfl | hy
  · exact hpre a ha
  · exact hacross a ha y hy

/-- Induction over a list that grows at its end. -/
theorem append_induction {α : Type} {motive : List α → Prop} (nil : motive []) (append_singleton : ∀ xs x, motive xs → motive (xs ++ [x]))
    (xs : List α) : motive xs := by
  have reversed : ∀ ys : List α, motive ys.reverse := fun ys => by
    induction ys with
    | nil => exact nil
    | cons y ys ih =>
      rw [List.reverse_cons]
      exact append_singleton _ y ih
  rw [← xs.reverse_reverse]
  exact reversed xs.reverse

theorem sortEntries_sorts (list : List StopRec) (xs : List Entry) : (sortEntries list xs).Perm xs ∧ InOrder list (sortEntries list xs) := by
  induction xs using append_induction with
  | nil => exact ⟨.nil, .nil⟩
  | append_singleton xs x ih =>
    have step : sortEntries list (xs ++ [x]) = insertEntry list x (sortEntries list xs) := by
      rw [sortEntries, List.foldl_append]
      rfl
    rw [step]
    refine ⟨(insertEntry_perm list x _).trans ((ih.1.cons x).trans ?_), insertEntry_inOrder ih.2 x⟩
    exact (List.perm_append_singleton x xs).symm

/-- An entry at the end of a list is judged against those kept before it. -/
theorem dropOverlaps_append (k : EntryCtx) (x : Entry) (xs : List Entry) : ∀ kept, dropOverlaps k kept (xs ++ [x])
    = if (dropOverlaps k kept xs).1.any fun y => overlaps (y.leg k.list) (x.leg k.list) then
        ((dropOverlaps k kept xs).1, (dropOverlaps k kept xs).2 ++ [k.dropped x.boarding x])
      else ((dropOverlaps k kept xs).1 ++ [x], (dropOverlaps k kept xs).2) := by
  induction xs with
  | nil =>
    intro kept
    rw [List.nil_append, dropOverlaps, dropOverlaps]
    split
    · rfl
    · rw [dropOverlaps]
  | cons y ys ih =>
    intro kept
    rw [List.cons_append, dropOverlaps, dropOverlaps]
    split
    · simp only [ih kept]
      split <;> rfl
    · exact ih _

/-- What is kept of a list: a part of it in its order, of which no two overlap, and everything else overlaps something kept before. -/
theorem dropOverlaps_keeps (k : EntryCtx) (xs : List Entry) :
    (dropOverlaps k [] xs).1.Sublist xs
    ∧ (dropOverlaps k [] xs).1.Pairwise (fun x y => overlaps (x.leg k.list) (y.leg k.list) = false)
    ∧ (∀ x ∈ xs, x ∉ (dropOverlaps k [] xs).1 → ∃ y ∈ (dropOverlaps k [] xs).1, overlaps (y.leg k.list) (x.leg k.list) = true)
    ∧ (dropOverlaps k [] xs).2.length + (dropOverlaps k [] xs).1.length = xs.length := by
  induction xs using append_induction with
  | nil => exact ⟨.slnil, .nil, by simp, rfl⟩
  | append_singleton xs x ih =>
    obtain ⟨hsub, hapart, hdropped, hcount⟩ := ih
    rw [dropOverlaps_append]
    split
    next hover =>
      refine ⟨hsub.trans (List.sublist_append_left _ _), hapart, fun y hy hnot => ?_, by simp; omega⟩
      rcases List.mem_append.1 hy with hy | hy
      · exact hdropped y hy hnot
      · obtain rfl := List.mem_singleton.1 hy
        exact List.any_eq_true.1 hover
    next hclear =>
      refine ⟨hsub.append_right [x], List.pairwise_append.2 ⟨hapart, List.pairwise_singleton _ _, fun y hy z hz => ?_⟩, fun y hy hnot => ?_,
        by simp; omega⟩
      · obtain rfl := List.mem_singleton.1 hz
        exact Bool.eq_false_iff.2 fun hover => hclear (List.any_eq_true.2 ⟨y, hy, hover⟩)
      · rw [List.mem_append, not_or] at hnot
        rcases List.mem_append.1 hy with hy | hy
        · obtain ⟨z, hz, hover⟩ := hdropped y hy hnot.1
          exact ⟨z, List.mem_append_left _ hz, hover⟩
        · exact absurd hy hnot.2

/-! ## Every seat at a list change -/

/-- The review of a list change as an operation on a seat's entries. -/
def reviewed (e : Env) (old : EntryCtx → List StopRec) (commit : Bool) : Seat → EntryCtx → List Entry → List Entry × List Report :=
  fun _ k xs => filterEntries (entryAtListChange k e.portion (old k) commit) xs

/-- The removal of overlaps as an operation on a seat's entries. -/
def overlapsDropped : Seat → EntryCtx → List Entry → List Entry × List Report :=
  fun _ k xs => dropOverlaps k [] (sortEntries k.list xs)

theorem Coach.reserveAmend_take (e : Env) (c : Coach) : c.reserveAmend e = c.take e (reviewed e EntryCtx.list false) true := rfl

theorem Coach.reserveCommit_take (e : Env) (old : List StopRec) (c : Coach) :
    c.reserveCommit e old = (c.forSeats e (reviewed e (fun _ => old) true)).take e overlapsDropped true := rfl

theorem Coach.reserveCommit_bare (e : Env) (old : List StopRec) (c : Coach) :
    (c.reserveCommit e old).seats.map Seat.bare = c.seats.map fun z => { z.bare with
      entries := (dropOverlaps (c.entryCtx e z) [] (sortEntries c.journey.list (reviewed e (fun _ => old) true z (c.entryCtx e z) z.entries).1)).1.filter
        fun x => c.journey.lastDeparted.all fun l => l < x.effAlighting } := by
  rw [Coach.reserveCommit_take, Coach.take_bare, Coach.forSeats_seats, Coach.forSeats_journey, List.map_map]
  refine List.map_congr_left fun z _ => ?_
  simp only [Function.comp_apply, Coach.forSeats_entryCtx]
  rfl

theorem Coach.reserveCommit_tells (e : Env) (old : List StopRec) (c : Coach) :
    c.Tells e (c.seatReports e (reviewed e (fun _ => old) true) ++ c.seats.flatMap fun z =>
      (dropOverlaps (c.entryCtx e z) [] (sortEntries c.journey.list (reviewed e (fun _ => old) true z (c.entryCtx e z) z.entries).1)).2)
    (c.reserveCommit e old) := by
  have told := (c.forSeats_tells e (reviewed e (fun _ => old) true)).trans (Coach.take_tells e overlapsDropped true _)
  rw [Coach.reserveCommit_take]
  simp only [Coach.seatReports, Coach.forSeats_seats, Coach.forSeats_entryCtx, List.flatMap_map] at told ⊢
  exact told

/-! ## The fix state becomes FIXED (R97) -/

theorem entryAtFixed_shut {k : EntryCtx} {x : Entry} (h : x.window ≠ .deferred) : entryAtFixed k x = (x, []) := if_neg h

theorem entryAtFixed_deferred {k : EntryCtx} {x : Entry} (h : x.window = .deferred) : entryAtFixed k x
    = if x.unverified then ({ x with window := .spent }, [])
      else ({ x with state := .released, window := .spent }, [k.report .seatReleased x]) := if_pos h

/-- The anchor of an entry is left, or its stop has gone at a commit. -/
theorem anchorGone_is {k : EntryCtx} {commit : Bool} {x z : Entry} (hz : z = { x with anchorLeft := z.anchorLeft })
    (hleft : z.anchorLeft = true ↔ x.anchorLeft = true ∨ commit = true ∧ ∃ code p, x.anchor = some (code, p) ∧ findCode k.list code = none) :
    anchorGone k commit x = z := by
  have gone : (x.anchorLeft || (commit && x.anchor.any fun a => (findCode k.list a.1).isNone)) = z.anchorLeft := by
    rw [Bool.eq_iff_iff, hleft]
    simp [Option.any_eq_true]
  rw [anchorGone_eq, gone, ← hz]

/-- The part of O29 on one entry that keeps its booking. -/
theorem entryAtListChange_kept {k : EntryCtx} {x : Entry} {commit : Bool} {portion : Fin 4} {b a : Nat} {rb ra : StopRec} (old : List StopRec)
    (h : commit = false ∨ findCode k.list x.boarding ≠ none ∧ findCode k.list x.alighting ≠ none)
    (hleg : effLeg k.list portion x.boarding x.alighting = some (b, a)) (hb : k.list[b]? = some rb) (ha : k.list[a]? = some ra) :
    entryAtListChange k portion old commit x = (some (windowAtListChange k commit { x with effBoarding := b, effAlighting := a }).1,
      (if codeAt old (some x.effBoarding) = some rb.code ∧ codeAt old (some x.effAlighting) = some ra.code then []
        else [⟨.reservationAffected, some rb.code, some k.seat, some x.token, k.position.estimate / 65536000, .none, some (ra.code : Int)⟩])
      ++ (windowAtListChange k commit { x with effBoarding := b, effAlighting := a }).2) := by
  have codeB : codeAt k.list (some b) = some rb.code := by simp [codeAt, recordAt, hb]
  have codeA : codeAt k.list (some a) = some ra.code := by simp [codeAt, recordAt, ha]
  rw [entryAtListChange_present h, hleg]
  simp only [codeB, codeA, Prod.mk.injEq]
  exact ⟨trivial, rfl⟩

/-- The window of an entry that keeps its booking. -/
theorem windowAtListChange_rules (k : EntryCtx) (commit : Bool) (x : Entry) (rb : StopRec) (hb : k.list[x.effBoarding]? = some rb) :
    (x.window = .spent ∨ x.window = .deferred ∨ (x.window = .pending ∧ rb.status = .ahead) →
      (windowAtListChange k commit x).2 = [] ∧ (windowAtListChange k commit x).1.state = x.state
      ∧ (windowAtListChange k commit x).1.window = x.window ∧ (windowAtListChange k commit x).1.unverified = x.unverified)
    ∧ (x.window ≠ .pending → windowAtListChange k commit x = closeTest k (anchorGone k commit x))
    ∧ (x.window = .pending → rb.status ≠ .ahead → windowAtListChange k commit x = andThen (lookAtSeat k) (closeTest k)
        { x with window := .opened, anchor := some (rb.code, rb.position), anchorLeft := decide (rb.status ≠ .current) }) := by
  refine ⟨fun hshut => ?_, fun hpending => if_neg hpending, fun hpending hahead => ?_⟩
  · rcases or_assoc.2 hshut with hclosed | ⟨hpending, hahead⟩
    · rw [windowAtListChange_closed hclosed, anchorGone_eq]
      exact ⟨rfl, rfl, rfl, rfl⟩
    · rw [windowAtListChange, if_pos hpending, openIfReached_ahead hb hahead]
      exact ⟨rfl, rfl, rfl, rfl⟩
  · rw [windowAtListChange, if_pos hpending, openIfReached_opens hb hpending hahead, openWindow_eq]

/-- Settles O29: one entry, the overlaps, every seat, and the change to FIXED. -/
theorem listChangesReviewTheBookings : Obligations.ListChangesReviewTheBookings := by
  refine ⟨fun k portion old commit x => ⟨k.position.estimate / 65536000, rfl, fun hcommit hboarding => ?_, fun hcommit hboarding halighting => ?_,
    fun hpresent => ⟨fun hvoid => ?_, fun b a rb ra hleg hb ha => ?_⟩⟩, fun k xs => ?_, fun e c old => ?_, fun k x code p hanchor => ?_⟩
  · rw [hcommit, entryAtListChange_boardingGone hboarding, EntryCtx.dropped]
  · rw [hcommit, entryAtListChange_alightingGone hboarding halighting, EntryCtx.dropped]
  · rw [entryAtListChange_present hpresent, hvoid]
    rfl
  · obtain ⟨hshut, hclosed, hopens⟩ := windowAtListChange_rules k commit { x with effBoarding := b, effAlighting := a } rb hb
    obtain ⟨htoken, hboarding, halighting, heffB, heffA⟩ := windowAtListChange_sameBooking k commit { x with effBoarding := b, effAlighting := a }
    refine ⟨_, _, _, entryAtListChange_kept old hpresent hleg hb ha, htoken, hboarding, halighting, heffB, heffA, rfl, hshut,
      fun z hpending hz hleft => ?_, fun hpending hahead => ?_⟩
    · rw [← anchorGone_is (k := k) (commit := commit) (x := { x with effBoarding := b, effAlighting := a }) hz hleft]
      exact hclosed hpending
    · exact ⟨_, _, _, rfl, rfl, rfl, hopens hpending hahead⟩
  · obtain ⟨hperm, hsorted⟩ := sortEntries_sorts k.list xs
    obtain ⟨hsub, hapart, hdropped, hcount⟩ := dropOverlaps_keeps k (sortEntries k.list xs)
    refine ⟨_, rfl, fun y hy => hperm.mem_iff.1 (hsub.subset hy), hapart, hsorted.sublist hsub,
      fun x hx hnot => hdropped x (hperm.mem_iff.2 hx) hnot, hcount.trans hperm.length_eq, hperm, hsorted, rfl, fun pre x => ⟨_, rfl, ?_⟩⟩
    exact dropOverlaps_append k x pre []
  · refine ⟨_, fun z commit => z.entries.filterMap fun x =>
        (entryAtListChange (c.entryCtx e z) e.portion (if commit then old else c.journey.list) commit x).1,
      fun _ => rfl, fun _ _ => rfl, ?_, ?_, Coach.refresh_content e _, Coach.refresh_content e _, ?_, ?_,
      fun commit => c.seats.flatMap fun z => z.entries.flatMap fun x =>
        (entryAtListChange (c.entryCtx e z) e.portion (if commit then old else c.journey.list) commit x).2, fun _ => rfl, fun p => ?_, fun p => ?_⟩
    · rw [Coach.reserveAmend_take, Coach.take_bare]
      simp [reviewed, filterEntries, List.filterMap_map, Coach.entryCtx, Function.comp_def]
    · rw [Coach.reserveCommit_bare]
      simp [reviewed, filterEntries, List.filterMap_map, Function.comp_def]
    · rw [Coach.reserveAmend_take, Coach.take_eq]
    · rw [Coach.reserveCommit_take, Coach.take_eq, Coach.forSeats_journey]
    · have told := c.take_tells e (reviewed e EntryCtx.list false) true p
      rw [← Coach.reserveAmend_take] at told
      simpa [Coach.seatReports, reviewed, filterEntries, List.flatMap_map, Coach.entryCtx] using told
    · have told := c.reserveCommit_tells e old p
      simpa [Coach.seatReports, reviewed, filterEntries, List.flatMap_map, List.filterMap_map, Function.comp_def] using told
  · refine ⟨entryAtFixed_shut, fun hdeferred hunverified => ?_, fun hdeferred hverified => ?_⟩
    · rw [entryAtFixed_deferred hdeferred, if_pos hunverified]
    · rw [entryAtFixed_deferred hdeferred, if_neg (by simp [hverified]), EntryCtx.report_eq hanchor]

end Sys2Proof.Machine
end

section
/-! # The places of the occupancy unit: samples, reseeds and UNKNOWN (chapter 7) -/
namespace Sys2Proof.Machine

/-! ## The sensor record of a place -/

theorem PlaceId.index_lt (p : PlaceId) : p.index < 128 := by
  unfold PlaceId.index
  omega

theorem PlaceId.index_inj {p k : PlaceId} (h : p.index = k.index) : p = k := by
  obtain ⟨⟨l, hl⟩, ⟨m, hm⟩, ⟨n, hn⟩⟩ := p
  obtain ⟨⟨l', hl'⟩, ⟨m', hm'⟩, ⟨n', hn'⟩⟩ := k
  simp only [PlaceId.index] at h
  simp only [PlaceId.mk.injEq, Fin.mk.injEq]
  omega

/-- The sensors with the record of one place written. -/
def Coach.setSensor (p : PlaceId) (y : Sensor) (c : Coach) : Coach := { c with sensors := c.sensors.set p.index y }

theorem Coach.setSensor_same {c : Coach} (h : c.sensors.length = 128) (p : PlaceId) (y : Sensor) : (c.setSensor p y).sensor p = y := by
  simp [Coach.sensor, Coach.setSensor, List.getD_eq_getElem?_getD, h ▸ p.index_lt]

theorem Coach.setSensor_other {p k : PlaceId} (h : k ≠ p) (y : Sensor) (c : Coach) : (c.setSensor p y).sensor k = c.sensor k := by
  have differ : p.index ≠ k.index := fun hindex => h (PlaceId.index_inj hindex).symm
  simp [Coach.sensor, Coach.setSensor, List.getD_eq_getElem?_getD, List.getElem?_set_ne differ]

theorem Coach.setSensor_length (p : PlaceId) (y : Sensor) (c : Coach) : (c.setSensor p y).sensors.length = c.sensors.length := List.length_set

/-- A sensor record is written, and a change of its state is handed to the reservation unit (R139). -/
theorem Coach.changeSensor_eq {c : Coach} (h : c.sensors.length = 128) (e : Env) (p : PlaceId) (f : Sensor → Sensor) :
    c.changeSensor e p f = if (f (c.sensor p)).state = (c.sensor p).state then c.setSensor p (f (c.sensor p))
      else (c.setSensor p (f (c.sensor p))).reservePlace e p := by
  have written := Coach.setSensor_same h p (f (c.sensor p))
  rw [Coach.changeSensor, ← Coach.setSensor, written]

theorem Coach.changeSensor_sensors (e : Env) (p : PlaceId) (f : Sensor → Sensor) (c : Coach) :
    (c.changeSensor e p f).sensors = (c.setSensor p (f (c.sensor p))).sensors := by
  unfold Coach.changeSensor
  dsimp only
  split
  · rfl
  · exact Coach.reservePlace_sensors e p _

theorem Coach.sensor_congr {c d : Coach} (h : d.sensors = c.sensors) (p : PlaceId) : d.sensor p = c.sensor p := by
  rw [Coach.sensor, Coach.sensor, h]

theorem Coach.changeSensor_same {c : Coach} (h : c.sensors.length = 128) (e : Env) (p : PlaceId) (f : Sensor → Sensor) :
    (c.changeSensor e p f).sensor p = f (c.sensor p) :=
  (Coach.sensor_congr (Coach.changeSensor_sensors e p f c) p).trans (Coach.setSensor_same h p _)

theorem Coach.changeSensor_other {p k : PlaceId} (h : k ≠ p) (e : Env) (f : Sensor → Sensor) (c : Coach) :
    (c.changeSensor e p f).sensor k = c.sensor k :=
  (Coach.sensor_congr (Coach.changeSensor_sensors e p f c) k).trans (Coach.setSensor_other h _ c)

theorem Coach.changeSensor_length (e : Env) (p : PlaceId) (f : Sensor → Sensor) (c : Coach) :
    (c.changeSensor e p f).sensors.length = c.sensors.length := by
  rw [Coach.changeSensor_sensors, Coach.setSensor_length]

/-! ## What a changed place changes besides -/

/-- Between two coaches nothing but seats, sensors, SHOW queues and reports differs. -/
def Coach.OnlyPlaces (c d : Coach) : Prop :=
  d = { c with seats := d.seats, sensors := d.sensors, lines := d.lines, reportsA := d.reportsA, reportsB := d.reportsB } ∧ c.LinesGrow d

theorem Coach.OnlyPlaces.refl (c : Coach) : c.OnlyPlaces c := ⟨rfl, .refl c⟩

theorem Coach.OnlyPlaces.trans {c d f : Coach} (h : c.OnlyPlaces d) (k : d.OnlyPlaces f) : c.OnlyPlaces f := by
  obtain ⟨hd, hgrows⟩ := h
  obtain ⟨kd, kgrows⟩ := k
  refine ⟨?_, hgrows.trans kgrows⟩
  rw [kd, hd]

theorem Coach.reservePlace_onlyPlaces (e : Env) (p : PlaceId) (c : Coach) : c.OnlyPlaces (c.reservePlace e p) := by
  rw [Coach.reservePlace_take]
  refine ⟨?_, Coach.take_grows _ _ _ _⟩
  rw [Coach.take_eq]

theorem Coach.changeSensor_onlyPlaces (e : Env) (p : PlaceId) (f : Sensor → Sensor) (c : Coach) : c.OnlyPlaces (c.changeSensor e p f) := by
  have written : ∀ y, c.OnlyPlaces (c.setSensor p y) := fun y => ⟨rfl, .of_eq rfl⟩
  unfold Coach.changeSensor
  dsimp only
  split
  · exact written _
  · exact (written _).trans (Coach.reservePlace_onlyPlaces e p _)

/-- A look at a seat that is not occupied raises no report. -/
theorem lookAtSeat_silent {k : EntryCtx} (h : k.sensor.isOccupied = false) (x : Entry) : (lookAtSeat k x).2 = [] := by
  unfold lookAtSeat
  rw [h]
  split
  · split
    · contradiction
    · split <;> rfl
  · rfl

/-- A place whose state becomes one that is not occupied raises no report. -/
theorem Coach.reservePlace_tells {c : Coach} {p : PlaceId} (h : (c.sensor p).state.isOccupied = false) (e : Env) : c.Tells e [] (c.reservePlace e p) := by
  have told := c.take_tells e (ofEntries (atPlace p)) false
  have silent : c.seatReports e (ofEntries (atPlace p)) = [] := by
    rw [Coach.seatReports, List.flatMap_eq_nil_iff]
    intro s _
    rw [ofEntries, mapEntries, List.flatMap_map, List.flatMap_eq_nil_iff]
    intro x _
    unfold atPlace
    split
    next hplace => exact lookAtSeat_silent (by rw [Coach.entryCtx, hplace]; exact h) x
    next => rfl
  rwa [silent, ← Coach.reservePlace_take] at told

/-- Places take one record after the other. -/
def Coach.putPlaces (e : Env) (y : Sensor) (ps : List PlaceId) (c : Coach) : Coach := ps.foldl (fun c p => c.changeSensor e p fun _ => y) c

theorem Coach.reseedPlaces_eq (e : Env) (ps : List PlaceId) (c : Coach) : ps.foldl (Coach.reseedPlace e) c = c.putPlaces e Sensor.reseeded ps := rfl

theorem Coach.putPlaces_cons (e : Env) (y : Sensor) (p : PlaceId) (ps : List PlaceId) (c : Coach) :
    c.putPlaces e y (p :: ps) = (c.changeSensor e p fun _ => y).putPlaces e y ps := rfl

theorem Coach.putPlaces_onlyPlaces (e : Env) (y : Sensor) (ps : List PlaceId) (c : Coach) : c.OnlyPlaces (c.putPlaces e y ps) := by
  induction ps generalizing c with
  | nil => exact .refl c
  | cons p ps ih => exact (c.changeSensor_onlyPlaces e p _).trans (ih _)

theorem Coach.putPlaces_length (e : Env) (y : Sensor) (ps : List PlaceId) (c : Coach) : (c.putPlaces e y ps).sensors.length = c.sensors.length := by
  induction ps generalizing c with
  | nil => rfl
  | cons p ps ih => exact (ih _).trans (c.changeSensor_length e p _)

/-- The places named have the record, and no other place changes. -/
theorem Coach.putPlaces_sensor {c : Coach} (h : c.sensors.length = 128) (e : Env) (y : Sensor) (ps : List PlaceId) (k : PlaceId) :
    (c.putPlaces e y ps).sensor k = if k ∈ ps then y else c.sensor k := by
  induction ps generalizing c with
  | nil => rfl
  | cons p ps ih =>
    rw [Coach.putPlaces_cons, ih (by rwa [Coach.changeSensor_length])]
    by_cases hk : k = p
    · subst hk
      rw [Coach.changeSensor_same h, if_pos List.mem_cons_self, ite_self]
    · rw [Coach.changeSensor_other hk]
      simp [hk]

theorem Coach.changeSensor_silent {c : Coach} (h : c.sensors.length = 128) (e : Env) (p : PlaceId) {y : Sensor} (hy : y.state.isOccupied = false) :
    c.Tells e [] (c.changeSensor e p fun _ => y) := by
  have written : c.Tells e [] (c.setSensor p y) := .silent rfl rfl
  rw [Coach.changeSensor_eq h]
  split
  · exact written
  · exact written.trans (Coach.reservePlace_tells (by rwa [Coach.setSensor_same h]) e)

/-- Places that are not occupied raise no report. -/
theorem Coach.putPlaces_tells {c : Coach} (h : c.sensors.length = 128) (e : Env) {y : Sensor} (hy : y.state.isOccupied = false) (ps : List PlaceId) :
    c.Tells e [] (c.putPlaces e y ps) := by
  induction ps generalizing c with
  | nil => exact .silent rfl rfl
  | cons p ps ih => exact (Coach.changeSensor_silent h e p hy).trans (ih (by rwa [Coach.changeSensor_length]))

/-! ## Filter, baseline and thresholds (R129, R131) -/

/-- A step toward a target moves by the quotient of the distance, rounded toward minus infinity. -/
theorem approach_eq (f t k : Nat) : ∃ m : Int, (approach f t k : Int) = f + m ∧ m * 2 ^ k ≤ (t : Int) - f ∧ (t : Int) - f < (m + 1) * 2 ^ k := by
  have positive : (0 : Int) < 2 ^ k := Int.pow_pos (by decide)
  refine ⟨((t : Int) - f) / 2 ^ k, ?_, Int.ediv_mul_le _ (Int.ne_of_gt positive), Int.lt_ediv_add_one_mul_self _ positive⟩
  have lower : -(f : Int) ≤ ((t : Int) - f) / 2 ^ k := by
    rw [Int.le_ediv_iff_mul_le positive]
    have : (f : Int) * 1 ≤ f * 2 ^ k := Int.mul_le_mul_of_nonneg_left positive (by omega)
    rw [Int.neg_mul]
    omega
  have cast : ((2 ^ k : Nat) : Int) = 2 ^ k := Int.natCast_pow 2 k
  rw [approach, cast, Int.fdiv_eq_ediv_of_nonneg _ (Int.le_of_lt positive), Int.toNat_of_nonneg] <;> push_cast <;> omega

theorem exitThreshold_eq (p : Params) : ∃ k : Nat, exitThreshold p = (k : Int) ∧ k * 256 ≤ p.occThreshold * (256 - p.hyst)
    ∧ p.occThreshold * (256 - p.hyst) < (k + 1) * 256 :=
  ⟨_, rfl, Nat.div_mul_le_self _ _, by omega⟩

/-! ## A sample (R129, R130, R132 to R134) -/

theorem Sensor.sample_settling {x : Sensor} (h : x.state = .settling) (p : Params) (c : Nat) : x.sample p c = settleStep p c x := by
  rw [Sensor.sample, h]

theorem Sensor.sample_settled {x : Sensor} {f b : Nat} (hunknown : x.state ≠ .unknown) (hsettling : x.state ≠ .settling) (hf : x.filtered = some f)
    (hb : x.baseline = some b) (p : Params) (c : Nat) : x.sample p c
      = stateStep p (filterStep p f c) b (deltaOf b (filterStep p f c)) { x with filtered := some (filterStep p f c) } := by
  unfold Sensor.sample
  split
  next h => exact absurd h hunknown
  next h => exact absurd h hsettling
  next => rw [hf, hb]

theorem settleStep_first {x : Sensor} (h : x.seeded = false) (p : Params) (c : Nat) :
    settleStep p c x = { x with seeded := true, filtered := some (c * 256), baseline := some (c * 256), settle := 0 } := by
  rw [settleStep, h]

theorem settleStep_next {x : Sensor} {f : Nat} (h : x.seeded = true) (hf : x.filtered = some f) (p : Params) (c : Nat) : settleStep p c x
    = if 8 ≤ x.settle + 1 then
        { x with state := .vacant, filtered := some (filterStep p f c), baseline := some (filterStep p f c), settle := 0, debounce := 0 }
      else { x with filtered := some (filterStep p f c), baseline := some (filterStep p f c), settle := x.settle + 1 } := by
  rw [settleStep, h, hf]

theorem stateStep_vacant {x : Sensor} (h : x.state = .vacant) (p : Params) (f b : Nat) (d : Int) : stateStep p f b d x
    = if d < 0 ∧ enterThreshold p < -d then { x with baseline := some f }
      else if enterThreshold p < d then
        if p.debIn ≤ 1 then { x with state := .occupied } else { x with state := .entering, debounce := 1 }
      else { x with baseline := some (approach b f p.ltaShift) } := by
  rw [stateStep, h]

theorem stateStep_entering {x : Sensor} (h : x.state = .entering) (p : Params) (f b : Nat) (d : Int) : stateStep p f b d x
    = if enterThreshold p < d then
        if p.debIn ≤ x.debounce + 1 then { x with state := .occupied, debounce := 0 } else { x with debounce := x.debounce + 1 }
      else { x with state := .vacant, debounce := 0 } := by
  rw [stateStep, h]

theorem stateStep_occupied {x : Sensor} (h : x.state = .occupied) (p : Params) (f b : Nat) (d : Int) : stateStep p f b d x
    = if d < exitThreshold p then
        if p.debOut ≤ 1 then { x with state := .vacant } else { x with state := .leaving, debounce := 1 }
      else x := by
  rw [stateStep, h]

theorem stateStep_leaving {x : Sensor} (h : x.state = .leaving) (p : Params) (f b : Nat) (d : Int) : stateStep p f b d x
    = if d < exitThreshold p then
        if p.debOut ≤ x.debounce + 1 then { x with state := .vacant, debounce := 0 } else { x with debounce := x.debounce + 1 }
      else { x with state := .occupied, debounce := 0 } := by
  rw [stateStep, h]

/-- What the occupancy unit hands on when a place takes a record. -/
theorem Coach.changeSensor_hands {c : Coach} (h : c.sensors.length = 128) (e : Env) (p : PlaceId) (f : Sensor → Sensor) :
    ∃ u : Coach, u = { c with sensors := u.sensors } ∧ u.sensors.length = 128 ∧ u.sensor p = f (c.sensor p)
      ∧ (∀ k, k ≠ p → u.sensor k = c.sensor k)
      ∧ ((f (c.sensor p)).state = (c.sensor p).state → c.changeSensor e p f = u)
      ∧ ((f (c.sensor p)).state ≠ (c.sensor p).state → c.changeSensor e p f = u.reservePlace e p) := by
  refine ⟨c.setSensor p (f (c.sensor p)), rfl, (Coach.setSensor_length p _ c).trans h, Coach.setSensor_same h p _,
    fun k hk => Coach.setSensor_other hk _ c, fun hsame => ?_, fun hchanged => ?_⟩
  · rw [Coach.changeSensor_eq h, if_pos hsame]
  · rw [Coach.changeSensor_eq h, if_neg hchanged]

/-- Settles O33: the quotients, the hand-over, and the sample by the state of the place. -/
theorem occupancyFollowsTheFilteredCount : Obligations.OccupancyFollowsTheFilteredCount := by
  refine ⟨fun p f c b => ?_, fun e c p count hlength => ⟨_, fun _ _ => rfl, Coach.changeSensor_hands hlength e p _,
    Coach.changeSensor_hands hlength e p fun _ => Sensor.reseeded, Coach.changeSensor_hands hlength e p fun _ => Sensor.lost⟩,
    fun p count f b g delta x => ⟨fun hunknown => ?_, fun hsettling hfirst => ?_, fun hsettling hseeded hf hg => ⟨fun hcount => ?_, fun hcount => ?_⟩,
      fun hf hb hg hdelta => ?_⟩⟩
  · obtain ⟨m, hm, hmle, hmlt⟩ := approach_eq f (c * 256) p.beta
    obtain ⟨n, hn, hnle, hnlt⟩ := approach_eq b f p.ltaShift
    obtain ⟨k, hk, hkle, hklt⟩ := exitThreshold_eq p
    have cast : ((c * 256 : Nat) : Int) = c * 256 := Int.natCast_mul c 256
    rw [cast] at hmle hmlt
    exact ⟨m, n, k, hm, hmle, hmlt, hn, hnle, hnlt, hk, hkle, hklt⟩
  · rw [Sensor.sample, hunknown]
  · rw [Sensor.sample_settling hsettling, settleStep_first hfirst]
  · rw [Sensor.sample_settling hsettling, settleStep_next hseeded hf, if_neg (by omega), hg]
  · rw [Sensor.sample_settling hsettling, settleStep_next hseeded hf, if_pos hcount, hg]
  · have settled := fun hunknown hsettling => x.sample_settled hunknown hsettling hf hb p count
    rw [← hg, show deltaOf b g = delta from hdelta.symm] at settled
    refine ⟨fun hs h1 h2 => ?_, fun hs h1 h2 => ?_, fun hs h1 h2 => ?_, fun hs h1 h2 => ?_, fun hs h1 h2 => ?_, fun hs h1 h2 => ?_,
      fun hs h1 => ?_, fun hs h1 => ?_, fun hs h1 h2 => ?_, fun hs h1 h2 => ?_, fun hs h1 h2 => ?_, fun hs h1 h2 => ?_, fun hs h1 => ?_⟩
    all_goals rw [settled (by simp [hs]) (by simp [hs])]
    · rw [stateStep_vacant (x := { x with filtered := some g }) hs, if_pos ⟨h1, h2⟩]
    · rw [stateStep_vacant (x := { x with filtered := some g }) hs, if_neg (by omega), if_pos (show enterThreshold p < delta from h1), if_pos h2]
    · rw [stateStep_vacant (x := { x with filtered := some g }) hs, if_neg (by omega), if_pos (show enterThreshold p < delta from h1), if_neg (by omega)]
    · rw [stateStep_vacant (x := { x with filtered := some g }) hs, if_neg (by rw [enterThreshold]; omega), if_neg (by rw [enterThreshold]; omega)]
    · rw [stateStep_entering (x := { x with filtered := some g }) hs, if_pos (show enterThreshold p < delta from h1), if_neg (Nat.not_le.2 h2)]
    · rw [stateStep_entering (x := { x with filtered := some g }) hs, if_pos (show enterThreshold p < delta from h1), if_pos h2]
    · rw [stateStep_entering (x := { x with filtered := some g }) hs, if_neg (by rw [enterThreshold]; omega)]
    · rw [stateStep_occupied (x := { x with filtered := some g }) hs, if_neg (by omega)]
    · rw [stateStep_occupied (x := { x with filtered := some g }) hs, if_pos h1, if_pos h2]
    · rw [stateStep_occupied (x := { x with filtered := some g }) hs, if_pos h1, if_neg (by omega)]
    · rw [stateStep_leaving (x := { x with filtered := some g }) hs, if_pos h1, if_neg (Nat.not_le.2 h2)]
    · rw [stateStep_leaving (x := { x with filtered := some g }) hs, if_pos h1, if_pos h2]
    · rw [stateStep_leaving (x := { x with filtered := some g }) hs, if_neg (by omega)]

/-! ## RESEED SEATS and SET OUT OF USE (R92, R138) -/

theorem mem_bothPlaces {i : Fin 4} {m : Fin 16} {k : PlaceId} : k ∈ bothPlaces i m ↔ k.line = i ∧ k.module = m := by
  obtain ⟨l, n, p⟩ := k
  simp only [bothPlaces, List.mem_cons, List.not_mem_nil, or_false, PlaceId.mk.injEq]
  constructor
  · rintro (⟨rfl, rfl, rfl⟩ | ⟨rfl, rfl, rfl⟩) <;> exact ⟨rfl, rfl⟩
  · rintro ⟨rfl, rfl⟩
    match p with
    | 0 => exact .inl ⟨rfl, rfl, rfl⟩
    | 1 => exact .inr ⟨rfl, rfl, rfl⟩

theorem mem_linePlaces {i : Fin 4} {k : PlaceId} : k ∈ linePlaces i ↔ k.line = i := by
  simp [linePlaces, mem_bothPlaces]

theorem Coach.mem_allPlaces {c : Coach} {k : PlaceId} : k ∈ c.allPlaces ↔ k.module.val < (c.lines.get k.line).moduleCount := by
  simp only [Coach.allPlaces, List.mem_flatMap, List.mem_finRange, true_and, List.mem_filter, decide_eq_true_eq, mem_bothPlaces]
  constructor
  · rintro ⟨l, m, hm, rfl, rfl⟩
    exact hm
  · exact fun h => ⟨k.line, k.module, h, rfl, rfl⟩

/-- One place stands before another: by line, module and place. -/
def PlaceId.Before (a b : PlaceId) : Prop :=
  a.line < b.line ∨ (a.line = b.line ∧ (a.module < b.module ∨ (a.module = b.module ∧ a.place < b.place)))

theorem Coach.allPlaces_inOrder (c : Coach) : c.allPlaces.Pairwise PlaceId.Before := by
  rw [Coach.allPlaces, List.pairwise_flatMap]
  refine ⟨fun l _ => ?_, (List.pairwise_lt_finRange 4).imp fun hlt a ha b hb => .inl ?_⟩
  · rw [List.pairwise_flatMap]
    refine ⟨fun m _ => ?_, ((List.pairwise_lt_finRange 16).filter _).imp fun hlt a ha b hb => ?_⟩
    · exact List.pairwise_pair.2 (.inr ⟨rfl, .inr ⟨rfl, show (0 : Fin 2) < 1 by decide⟩⟩)
    · obtain ⟨rfl, rfl⟩ := mem_bothPlaces.1 ha
      obtain ⟨hline, rfl⟩ := mem_bothPlaces.1 hb
      exact .inr ⟨hline.symm, .inl hlt⟩
  · simp only [List.mem_flatMap, mem_bothPlaces] at ha hb
    obtain ⟨-, -, rfl, -⟩ := ha
    obtain ⟨-, -, rfl, -⟩ := hb
    exact hlt

theorem Coach.eligible_iff (c : Coach) (k : PlaceId) : c.eligible k = true ↔ (c.lines.get k.line).running = true
    ∧ ((c.lines.get k.line).module k.module).health = .healthy
    ∧ (k.place = 0 ∨ ((c.lines.get k.line).module k.module).places ≠ some 1) := by
  simp [Coach.eligible, and_assoc]

theorem exec_reseedSeats {s : State} {p : Port} (h : s.controls p) (seat : Option Nat) :
    exec (.reseedSeats p seat) s = .next (State.answer p 18 (reseedSeatsBody seat (s.renew p)).2.status
      (reseedSeatsBody seat (s.renew p)).2.results (reseedSeatsBody seat (s.renew p)).1) :=
  live_leadOrCrew h 18 (reseedSeatsBody seat)

theorem exec_setOutOfUse {s : State} {p : Port} (h : s.controls p) (n : Nat) (on : Bool) :
    exec (.setOutOfUse p n on) s = .next (State.answer p 16 (setOutOfUseBody n on (s.renew p)).2.status
      (setOutOfUseBody n on (s.renew p)).2.results (setOutOfUseBody n on (s.renew p)).1) :=
  live_leadOrCrew h 16 (setOutOfUseBody n on)

theorem setOutOfUseBody_eq (n : Nat) (on : Bool) (s : State) : setOutOfUseBody n on s
    = if (s.coach.seat n).isNone then refuse .unknownSeat s else (s.onCoach (Coach.setUse n on), { status := .accepted }) := by
  rw [setOutOfUseBody, judge_cons, judge_nil, acceptCoach]

/-- The reseed itself: the places named that are eligible, in order. -/
def State.reseed (seat : Option Nat) (s : State) : State := s.onCoach fun e c => c.putPlaces e Sensor.reseeded (c.reseedable seat)

theorem reseedSeatsBody_unknown {n : Nat} {s : State} (h : s.coach.seat n = none) : reseedSeatsBody (some n) s = refuse .unknownSeat s := by
  rw [reseedSeatsBody, judge_cons, if_pos (by simp [h])]

theorem reseedSeatsBody_taken {seat : Option Nat} {s : State} (h : ∀ n, seat = some n → s.coach.seat n ≠ none) : reseedSeatsBody seat s
    = (s.reseed seat, { status := .accepted, results := [BitVec.ofNat 8 (s.coach.reseedable seat).length] }) := by
  rw [reseedSeatsBody, judge_cons, if_neg, judge_nil, leBytes_one]
  · rfl
  · simpa [Option.any_eq_true, ← Option.ne_none_iff_isSome] using h

theorem State.reseed_outside (seat : Option Nat) (s : State) (p : Port) :
    ((s.renew p).reseed seat).consist = (s.renew p).consist ∧ SameOutside s ((s.renew p).reseed seat) := by
  refine ⟨rfl, ?_⟩
  simp [SameOutside, State.reseed, State.onCoach]

/-- Settles O30: an unknown seat, one seat's flag and place, and all places. -/
theorem seatsOutOfUseAndReseed : Obligations.SeatsOutOfUseAndReseed := by
  intro s p n on hcontrols
  have coach : (s.renew p).coach = s.coach := s.renew_coach p
  have env : (s.renew p).env = s.env := State.renew_env p s
  refine ⟨fun hseat => ⟨?_, ?_⟩, fun seat hseat => ⟨?_, fun hnot => ?_, fun heligible hlength => ?_⟩, fun hlength => ?_⟩
  · rw [exec_setOutOfUse hcontrols, setOutOfUseBody_eq, coach, if_pos (by simp [hseat]), refuse]
  · rw [exec_reseedSeats hcontrols, reseedSeatsBody_unknown (by rw [coach, hseat]), refuse]
  · have whole := Coach.setUse_eq n on s.env s.coach
    refine ⟨(s.renew p).onCoach (Coach.setUse n on), ?_, ?_, ?_, ?_⟩
    · rw [exec_setOutOfUse hcontrols, setOutOfUseBody_eq, coach, if_neg (by simp [hseat])]
    · rw [State.onCoach_coach, coach, env, ← whole, State.onCoach, coach, env]
    · rw [State.onCoach_coach, coach, env]
      exact Coach.setUse_bare n on s.env s.coach
    · rw [State.onCoach_coach, coach, env]
      exact Coach.refresh_content s.env _
  · have none' : (s.renew p).coach.reseedable (some n) = [] := by
      rw [coach, Coach.reseedable, hseat]
      simp [hnot]
    rw [exec_reseedSeats hcontrols, reseedSeatsBody_taken (by simp [hseat]), none', State.reseed, State.onCoach, none']
    rfl
  · have one : (s.renew p).coach.reseedable (some n) = [seat.placeId] := by
      rw [coach, Coach.reseedable, hseat]
      simp [heligible]
    have reseeded : ((s.renew p).reseed (some n)).coach = s.coach.reseedPlace s.env seat.placeId := by
      rw [State.reseed, State.onCoach_coach, one, coach, env]
      rfl
    obtain ⟨consist, outside⟩ := s.reseed_outside (some n) p
    refine ⟨(s.renew p).reseed (some n), ?_, consist, outside, reseeded, ?_, fun k hk => ?_, ?_, ?_, ?_⟩
    · rw [exec_reseedSeats hcontrols, reseedSeatsBody_taken (by simp [hseat]), one]
      rfl
    all_goals rw [reseeded]
    · exact Coach.changeSensor_same hlength _ _ _
    · exact Coach.changeSensor_other hk _ _ _
    all_goals simp
  · have reseeded : ((s.renew p).reseed none).coach = s.coach.putPlaces s.env Sensor.reseeded (s.coach.allPlaces.filter s.coach.eligible) := by
      rw [State.reseed, State.onCoach_coach, coach, env]
      rfl
    have named : ∀ k, k ∈ s.coach.allPlaces.filter s.coach.eligible ↔ k.module.val < (s.coach.lines.get k.line).moduleCount
        ∧ (s.coach.lines.get k.line).running = true ∧ ((s.coach.lines.get k.line).module k.module).health = .healthy
        ∧ (k.place = 0 ∨ ((s.coach.lines.get k.line).module k.module).places ≠ some 1) := fun k => by
      rw [List.mem_filter, Coach.mem_allPlaces, Coach.eligible_iff]
    have sensors := Coach.putPlaces_sensor hlength s.env Sensor.reseeded (s.coach.allPlaces.filter s.coach.eligible)
    obtain ⟨consist, outside⟩ := s.reseed_outside none p
    refine ⟨(s.renew p).reseed none, _, fun _ => rfl, ?_, consist, outside, fun k => ⟨fun hk => ?_, fun hk => ?_, named k⟩,
      s.coach.allPlaces_inOrder.filter _, reseeded, ?_, ?_, ?_⟩
    · rw [exec_reseedSeats hcontrols, reseedSeatsBody_taken (by simp), coach]
      rfl
    · rw [reseeded, sensors, if_pos ((named k).2 hk)]
      rfl
    · rw [reseeded, sensors, if_neg fun h => hk ((named k).1 h)]
    all_goals
      rw [reseeded, ← Coach.reseedPlaces_eq]
      simp

end Sys2Proof.Machine
end

section
/-! # The schedule of a seat line and the ends of its frames (6.2 to 6.4) -/
namespace Sys2Proof.Machine

/-! ## Lines and module records -/

theorem Coach.onLine_same (i : Fin 4) (f : SeatLine → SeatLine) (c : Coach) : (c.onLine i f).lines.get i = f (c.lines.get i) :=
  Quad.get_set_same _ _ _

theorem Coach.onLine_other {i k : Fin 4} (h : k ≠ i) (f : SeatLine → SeatLine) (c : Coach) : (c.onLine i f).lines.get k = c.lines.get k :=
  Quad.get_set_other _ h _

theorem SeatLine.onModule_same {l : SeatLine} (h : l.modules.length = 16) (m : Fin 16) (f : Module → Module) :
    (l.onModule m f).module m = f (l.module m) := by
  simp [SeatLine.onModule, SeatLine.setModule, SeatLine.module, List.getD_eq_getElem?_getD, h]

theorem SeatLine.onModule_other {m k : Fin 16} (h : k ≠ m) (f : Module → Module) (l : SeatLine) : (l.onModule m f).module k = l.module k := by
  have differ : m.val ≠ k.val := fun hval => h (Fin.ext hval).symm
  simp [SeatLine.onModule, SeatLine.setModule, SeatLine.module, List.getD_eq_getElem?_getD, List.getElem?_set_ne differ]

theorem SeatLine.advance_service {f : SeatFrame} (h : f.cmd.isQuery = false) (l : SeatLine) : l.advance f = l := by
  rw [SeatLine.advance, h]
  rfl

theorem SeatLine.advance_query {f : SeatFrame} (h : f.cmd.isQuery = true) (l : SeatLine) :
    l.advance f = { l with round := if l.round + 1 < l.moduleCount then l.round + 1 else 0 } := by
  rw [SeatLine.advance, h]
  rfl

theorem SeatCmd.isQuery_iff (k : SeatCmd) : k.isQuery = true ↔ k = .poll ∨ k = .ident := by
  cases k <;> simp [SeatCmd.isQuery]

theorem SeatCmd.not_isQuery_iff (k : SeatCmd) : k.isQuery = false ↔ k ≠ .poll ∧ k ≠ .ident := by
  cases k <;> simp [SeatCmd.isQuery]

/-! ## The frame in progress -/

theorem Coach.frameOn_eq {c : Coach} {i : Fin 4} {f : SeatFrame} (h : (c.lines.get i).activity = .frame f) : c.frameOn i = some f := by
  rw [Coach.frameOn, h]

theorem State.onFrame_eq {s : State} {i : Fin 4} {f : SeatFrame} (h : (s.coach.lines.get i).activity = .frame f) (cmd : SeatCmd)
    (g : SeatFrame → State → State) : s.onFrame i cmd g = if f.cmd = cmd then g f s else s := by
  rw [State.onFrame, Coach.frameOf, Coach.frameOn_eq h, Option.filter_some]
  by_cases hcmd : f.cmd = cmd <;> simp [hcmd]

theorem exec_showSent {s : State} (h : s.inReset = false) (i : Fin 4) :
    exec (.showSent i) s = .next (s.onFrame i .showContent (State.frameSent i)) :=
  exec_of_live h (f := fun s => s.onFrame i .showContent (State.frameSent i)) rfl

theorem exec_levelSent {s : State} (h : s.inReset = false) (i : Fin 4) :
    exec (.levelSent i) s = .next (s.onFrame i .level (State.frameSent i)) :=
  exec_of_live h (f := fun s => s.onFrame i .level (State.frameSent i)) rfl

theorem exec_namesSent {s : State} (h : s.inReset = false) (i : Fin 4) :
    exec (.namesSent i) s = .next (s.onFrame i .names (State.frameSent i)) :=
  exec_of_live h (f := fun s => s.onFrame i .names (State.frameSent i)) rfl

theorem exec_framing {s : State} {i : Fin 4} {f : SeatFrame} (h : s.inReset = false) (hf : (s.coach.lines.get i).activity = .frame f) :
    exec (.framing i) s = .next (if f.cmd.isQuery then s.failFrame i f .framing else s) := by
  refine (exec_of_live h (f := fun s => match s.coach.frameOn i with
    | some f => if f.cmd.isQuery then s.failFrame i f .framing else s
    | none => s) rfl).trans ?_
  rw [Coach.frameOn_eq hf]

theorem exec_responseTimeout {s : State} {i : Fin 4} {f : SeatFrame} (h : s.inReset = false) (hf : (s.coach.lines.get i).activity = .frame f)
    (n : Nat) : exec (.responseTimeout i n) s = .next (if f.cmd.isQuery ∧ n ≤ f.cmd.answer then
      (s.runTo ((s.coach.lines.get i).timeoutAt f)).failFrame i f (timeoutError n) else s) := by
  refine (exec_of_live h (f := fun s => match s.coach.frameOn i with
    | some f => if f.cmd.isQuery ∧ n ≤ f.cmd.answer then (s.runTo ((s.coach.lines.get i).timeoutAt f)).failFrame i f (timeoutError n) else s
    | none => s) rfl).trans ?_
  rw [Coach.frameOn_eq hf]

theorem exec_echoMismatch {s : State} {i : Fin 4} {f : SeatFrame} (h : s.inReset = false) (hf : (s.coach.lines.get i).activity = .frame f) :
    exec (.echoMismatch i) s = .next (if (s.coach.lines.get i).sends f s.now then
      (s.runTo ((s.coach.lines.get i).bitEnd f s.now)).failFrame i f .echoMismatch else s) := by
  refine (exec_of_live h (f := fun s => match s.coach.frameOn i with
    | some f => if (s.coach.lines.get i).sends f s.now then (s.runTo ((s.coach.lines.get i).bitEnd f s.now)).failFrame i f .echoMismatch else s
    | none => s) rfl).trans ?_
  rw [Coach.frameOn_eq hf]

/-- The state in which a line has come to IDLE at a moment. -/
def State.idledAt (i : Fin 4) (now : Nat) (s : State) : State :=
  { s with now, coach := { s.coach with lines := s.coach.lines.set i { s.coach.lines.get i with activity := .idle, recessiveSince := now } } }

/-- The end of a frame that the part has sent. -/
theorem State.frameSent_eq {f : SeatFrame} (h : f.cmd.isQuery = false) (i : Fin 4) (s : State) :
    State.frameSent i f s = s.idledAt i (max s.now ((s.coach.lines.get i).sentAt f)) := by
  have advanced := fun now => congrArg (SeatLine.toIdle now) (SeatLine.advance_service h (s.coach.lines.get i))
  exact congrArg (fun l => { s with
    now := max s.now ((s.coach.lines.get i).sentAt f), coach := { s.coach with lines := s.coach.lines.set i l } }) (advanced _)

/-- Settles O39: the frames that are sent, and each failure with its cause. -/
theorem transfersEndSentOrWithTheirError : Obligations.TransfersEndSentOrWithTheirError := by
  rintro s i l f n hlive rfl hf
  have sent := fun h => s.frameSent_eq (f := f) h i
  refine ⟨⟨s.idledAt i (max s.now ((s.coach.lines.get i).sentAt f)), rfl, rfl, fun hcmd => ?_, fun hcmd => ?_, fun hcmd => ?_⟩, fun k hk hn => ?_, fun hquery => ?_, fun hpoll hident => ?_, fun hsends => ?_⟩
  · rw [exec_showSent hlive, exec_levelSent hlive, exec_namesSent hlive]
    simp only [State.onFrame_eq hf]
    rw [hcmd, if_pos rfl, if_neg (by simp), if_neg (by simp), sent (by rw [hcmd]; rfl)]
    exact ⟨rfl, rfl, rfl⟩
  · rw [exec_showSent hlive, exec_levelSent hlive, exec_namesSent hlive]
    simp only [State.onFrame_eq hf]
    rw [hcmd, if_pos rfl, if_neg (by simp), if_neg (by simp), sent (by rw [hcmd]; rfl)]
    exact ⟨rfl, rfl, rfl⟩
  · rw [exec_showSent hlive, exec_levelSent hlive, exec_namesSent hlive]
    simp only [State.onFrame_eq hf]
    rw [hcmd, if_pos rfl, if_neg (by simp), if_neg (by simp), sent (by rw [hcmd]; rfl)]
    exact ⟨rfl, rfl, rfl⟩
  · have answers : f.cmd.isQuery = true ∧ f.cmd.answer = k := by
      rcases hk with ⟨hcmd, rfl⟩ | ⟨hcmd, rfl⟩ <;> rw [hcmd] <;> exact ⟨rfl, rfl⟩
    obtain ⟨hquery, rfl⟩ := answers
    refine ⟨_, rfl, ?_⟩
    rw [exec_responseTimeout hlive hf, if_pos ⟨hquery, hn⟩]
    rfl
  · rw [exec_framing hlive hf, if_pos ((SeatCmd.isQuery_iff _).2 hquery)]
    rfl
  · have silent := (SeatCmd.not_isQuery_iff _).2 ⟨hpoll, hident⟩
    rw [exec_framing hlive hf, exec_responseTimeout hlive hf, if_neg (by simp [silent]), if_neg (by simp [silent])]
    exact ⟨rfl, rfl⟩
  · refine ⟨_, rfl, ?_⟩
    rw [exec_echoMismatch hlive hf, if_pos]
    · rfl
    · rw [SeatLine.sends, Bool.or_eq_true, Bool.not_eq_true', SeatCmd.not_isQuery_iff, decide_eq_true_eq]
      exact hsends

/-! ## The slots (R115) -/

theorem SeatLine.lowestStale_some {l : SeatLine} {b : Nat} (h : l.lowestStale = some b) :
    b < 16 ∧ l.stale.getLsbD b = true ∧ ∀ k, k < b → l.stale.getLsbD k = false := by
  have bit := List.find?_some h
  have bound := List.mem_range.1 (List.mem_of_find?_eq_some h)
  refine ⟨bound, bit, fun k hk => ?_⟩
  obtain ⟨-, i, hi, hb, hbefore⟩ := List.find?_eq_some_iff_getElem.1 h
  simp only [List.getElem_range] at hb hbefore
  subst hb
  simpa using hbefore k hk

theorem SeatLine.lowestStale_none {l : SeatLine} : l.lowestStale = none ↔ l.stale = 0 := by
  rw [SeatLine.lowestStale, List.find?_eq_none]
  constructor
  · intro h
    refine BitVec.eq_of_getLsbD_eq fun k hk => ?_
    simpa using h k (List.mem_range.2 hk)
  · intro h k _
    simp [h]

theorem SeatLine.lowestLevel_some {l : SeatLine} {m : Fin 16} (h : l.lowestLevel = some m) :
    (l.module m).levelPending = true ∧ ∀ k, k < m → (l.module k).levelPending = false := by
  obtain ⟨hbit, i, hi, hm, hbefore⟩ := List.find?_eq_some_iff_getElem.1 h
  simp only [List.getElem_finRange] at hm hbefore
  subst hm
  exact ⟨by simpa using hbit, fun k hk => by simpa using hbefore k.val hk⟩

theorem SeatLine.lowestLevel_none {l : SeatLine} : l.lowestLevel = none ↔ ∀ m, (l.module m).levelPending = false := by
  simp [SeatLine.lowestLevel, List.find?_eq_none]

/-- The line whose frame is begun. -/
def SeatLine.begin (f : SeatFrame) (service : Bool) (l : SeatLine) : SeatLine :=
  { l with activity := .frame f, serviceNext := service, dominantSince := none }

/-- A line begins the frame of its module slot: also where nothing waits for the service slot. -/
theorem Coach.startFrame_module {c : Coach} {e : Env} {i : Fin 4} (h : (c.lines.get i).serviceNext = true → c.serviceFrame i e.now = none) :
    c.startFrame e i = c.onLine i fun l => l.begin (l.moduleFrame e.now) true := by
  have nothing : (if (c.lines.get i).serviceNext then c.serviceFrame i e.now else none) = none := by
    split
    next hnext => exact h hnext
    next => rfl
  rw [Coach.startFrame, nothing]
  rfl

/-- A line begins the frame of its service slot. -/
theorem Coach.startFrame_service {c : Coach} {e : Env} {i : Fin 4} {f : SeatFrame} {l : SeatLine} (h : (c.lines.get i).serviceNext = true)
    (hf : c.serviceFrame i e.now = some (f, l)) : c.startFrame e i = c.onLine i fun _ => l.begin f false := by
  rw [Coach.startFrame, if_pos h, hf]
  rfl

theorem exec_seatFrameStart {s : State} (h : s.inReset = false) (i : Fin 4) : exec (.seatFrameStart i) s
    = .next (if s.mayBegin i then (s.runTo (s.coach.lines.get i).frameDue).onCoach fun e c => c.startFrame e i else s) :=
  exec_of_live h (f := fun s => if s.mayBegin i then (s.runTo (s.coach.lines.get i).frameDue).onCoach fun e c => c.startFrame e i else s) rfl

theorem State.mayBegin_iff (s : State) (i : Fin 4) : s.mayBegin i = true ↔ (s.coach.lines.get i).activity = .idle
    ∧ s.levels.get i = .recessive ∧ (s.coach.lines.get i).moduleCount ≠ 0 := by
  simp [State.mayBegin, and_assoc]

/-- What the start of a frame makes of a state. -/
theorem State.frameStart_eq {s : State} {i : Fin 4} {y : SeatLine} (hlive : s.inReset = false) (hbegin : s.mayBegin i = true)
    (hy : (s.runTo (s.coach.lines.get i).frameDue).coach.startFrame (s.runTo (s.coach.lines.get i).frameDue).env i
      = s.coach.onLine i fun _ => y) :
    exec (.seatFrameStart i) s = .next { s with
      now := max s.now (s.coach.lines.get i).frameDue, coach := { s.coach with lines := s.coach.lines.set i y } } := by
  rw [exec_seatFrameStart hlive, if_pos hbegin, State.onCoach, hy]
  rfl

theorem Coach.serviceFrame_names {c : Coach} {i : Fin 4} {b : Nat} (h : (c.lines.get i).lowestStale = some b) (now : Nat) :
    c.serviceFrame i now = some ({ cmd := .names, module := 0, block := b, data := c.namesData b, start := now },
      { c.lines.get i with stale := (c.lines.get i).stale &&& ~~~ (1#16 <<< b) }) := by
  rw [Coach.serviceFrame, h]

theorem Coach.serviceFrame_show {c : Coach} {i : Fin 4} {m : Fin 16} {ms : List (Fin 16)} (h : (c.lines.get i).lowestStale = none)
    (hqueue : (c.lines.get i).showQueue = m :: ms) (now : Nat) :
    c.serviceFrame i now = some ({ cmd := .showContent, module := m, block := 0, data := c.showData i m, start := now },
      { c.lines.get i with showQueue := ms }) := by
  rw [Coach.serviceFrame, h, hqueue]

theorem Coach.serviceFrame_level {c : Coach} {i : Fin 4} {m : Fin 16} (h : (c.lines.get i).lowestStale = none)
    (hqueue : (c.lines.get i).showQueue = []) (hlevel : (c.lines.get i).lowestLevel = some m) (now : Nat) :
    c.serviceFrame i now = some ({ cmd := .level, module := m, block := 0, data := [BitVec.ofNat 8 (c.lines.get i).labelLevel], start := now },
      (c.lines.get i).onModule m fun x => { x with levelPending := false }) := by
  rw [Coach.serviceFrame, h, hqueue, hlevel]

theorem Coach.serviceFrame_none {c : Coach} {i : Fin 4} (h : (c.lines.get i).lowestStale = none) (hqueue : (c.lines.get i).showQueue = [])
    (hlevel : (c.lines.get i).lowestLevel = none) (now : Nat) : c.serviceFrame i now = none := by
  rw [Coach.serviceFrame, h, hqueue, hlevel]

/-- The mark of one block is taken out of the stale blocks. -/
theorem getLsbD_unmarked {v : BitVec 16} {b k : Nat} (hk : k < 16) : (v &&& ~~~ (1#16 <<< b)).getLsbD k = (v.getLsbD k && decide (k ≠ b)) := by
  rw [BitVec.getLsbD_and, BitVec.getLsbD_not, BitVec.getLsbD_shiftLeft]
  by_cases hkb : k = b
  · simp [hkb]
  · by_cases hlt : k < b
    · simp [hk, hlt, hkb]
    · have : k - b ≠ 0 := by omega
      simp [hk, hlt, hkb, BitVec.getLsbD_one, this]

/-- Settles O36: the starts that cannot occur, then the slot by what waits in it. -/
theorem frameStartFollowsTheSchedule : Obligations.FrameStartFollowsTheSchedule := by
  rintro s i l hlive rfl hmodules
  refine ⟨fun hnot => ?_, fun hidle hrecessive hcount => ?_⟩
  · rw [exec_seatFrameStart hlive, if_neg]
    rw [State.mayBegin_iff]
    rintro ⟨hidle, hrecessive, hcount⟩
    rcases hnot with hactivity | hdominant | hnone
    · exact hactivity hidle
    · rw [hrecessive] at hdominant
      cases hdominant
    · exact hcount hnone
  have begins := (s.mayBegin_iff i).2 ⟨hidle, hrecessive, hcount⟩
  let l := s.coach.lines.get i
  let now := max s.now l.frameDue
  have started : ∀ y, Coach.startFrame (s.runTo l.frameDue).env i s.coach = s.coach.onLine i (fun _ => y) →
      exec (.seatFrameStart i) s = .next { s with now, coach := { s.coach with lines := s.coach.lines.set i y } } :=
    fun y hy => State.frameStart_eq hlive begins hy
  have queries := fun h => started (l.begin (l.moduleFrame now) true) (Coach.startFrame_module (c := s.coach) (e := (s.runTo l.frameDue).env) h)
  have serves := fun (f : SeatFrame) (y : SeatLine) hnext (hf : s.coach.serviceFrame i now = some (f, y)) =>
    started (y.begin f false) (Coach.startFrame_service (c := s.coach) (e := (s.runTo l.frameDue).env) hnext hf)
  cases hnext : l.serviceNext with
  | false =>
    exact ⟨_, l.moduleFrame now, l.begin (l.moduleFrame now) true, queries fun h => absurd (hnext.symm.trans h) nofun, rfl, rfl, rfl, rfl, rfl, rfl,
      rfl, fun _ => ⟨rfl, rfl, rfl, rfl, rfl⟩, nofun, fun _ _ h => absurd h nofun, fun _ h => absurd h nofun, nofun⟩
  | true =>
    cases hstale : l.lowestStale with
    | some b =>
      obtain ⟨hb, hbit, hlow⟩ := SeatLine.lowestStale_some hstale
      have some' : l.stale ≠ 0 := fun h => by rw [SeatLine.lowestStale_none.2 h] at hstale; cases hstale
      refine ⟨_, _, _, serves _ _ hnext (Coach.serviceFrame_names hstale now), rfl, rfl, rfl, rfl, rfl, rfl, rfl, nofun,
        fun _ _ => ⟨rfl, rfl, hb, hbit, ?_, hlow, fun k hk hne => ?_, rfl⟩, fun _ _ _ h => absurd h some', fun _ _ h => absurd h some',
        fun _ h => absurd h some'⟩
      · exact (getLsbD_unmarked hb).trans (by simp)
      · exact (getLsbD_unmarked hk).trans (by simp [hne])
    | none =>
      have clear : ∀ {p : Prop}, l.stale ≠ 0 → p := fun h => absurd (SeatLine.lowestStale_none.1 hstale) h
      obtain ⟨queue, hqueue⟩ : ∃ queue, l.showQueue = queue := ⟨_, rfl⟩
      cases queue with
      | cons m ms =>
        refine ⟨_, _, _, serves _ _ hnext (Coach.serviceFrame_show hstale hqueue now), rfl, rfl, rfl, rfl, rfl, rfl, rfl, nofun,
          fun _ h => clear h, fun m' ms' _ _ h => ?_, fun _ _ _ h => absurd (hqueue.symm.trans h) nofun,
          fun _ _ h => absurd (hqueue.symm.trans h) nofun⟩
        obtain ⟨rfl, rfl⟩ := List.cons.inj (hqueue.symm.trans h)
        exact ⟨rfl, rfl, rfl, rfl⟩
      | nil =>
        cases hlevel : l.lowestLevel with
        | some m =>
          obtain ⟨hpending, hlow⟩ := SeatLine.lowestLevel_some hlevel
          refine ⟨_, _, _, serves _ _ hnext (Coach.serviceFrame_level hstale hqueue hlevel now), rfl, rfl, rfl, rfl, rfl, rfl, rfl,
            nofun, fun _ h => clear h, fun _ _ _ _ h => absurd (hqueue.symm.trans h) nofun, fun m' _ _ _ hpending' hlow' => ?_,
            fun _ _ _ h => absurd (hpending.symm.trans (h m)) nofun⟩
          obtain rfl : m' = m := by
            rcases Nat.lt_trichotomy m' m with hlt | hsame | hlt
            · exact absurd hpending' (by rw [hlow m' hlt]; exact nofun)
            · exact Fin.ext hsame
            · exact absurd hpending (by rw [hlow' m hlt]; exact nofun)
          exact ⟨rfl, rfl, rfl, rfl, SeatLine.onModule_same hmodules m' fun x => { x with levelPending := false },
            fun k hk => SeatLine.onModule_other hk (fun x => { x with levelPending := false }) l⟩
        | none =>
          refine ⟨_, l.moduleFrame now, l.begin (l.moduleFrame now) true, queries fun _ => Coach.serviceFrame_none hstale hqueue hlevel now, rfl,
            rfl, rfl, rfl, rfl, rfl, rfl, nofun, fun _ h => clear h, fun _ _ _ _ h => absurd (hqueue.symm.trans h) nofun,
            fun m _ _ _ h => absurd (h.symm.trans (SeatLine.lowestLevel_none.1 hlevel m)) nofun, fun _ _ _ _ => ⟨rfl, rfl, rfl, rfl⟩⟩

end Sys2Proof.Machine
end

section
/-! # Transfers that fail, and lines that lose their places (6.4, 6.5) -/
namespace Sys2Proof.Machine

/-! ## The seats of a module (R120) -/

/-- A seat without entries and display content: what the seat map says of it. -/
def Seat.mapped (s : Seat) : Seat := { s with entries := [], content := .noInfo }

theorem Coach.reservePlace_mapped (e : Env) (p : PlaceId) (c : Coach) : (c.reservePlace e p).seats.map Seat.mapped = c.seats.map Seat.mapped := by
  have through : ∀ xs : List Seat, xs.map Seat.mapped = (xs.map Seat.bare).map fun s => { s with entries := [] } := fun xs => by
    rw [List.map_map]
    rfl
  rw [through, Coach.reservePlace_take, Coach.take_bare, List.map_map]
  rfl

theorem Coach.changeSensor_mapped (e : Env) (p : PlaceId) (f : Sensor → Sensor) (c : Coach) :
    (c.changeSensor e p f).seats.map Seat.mapped = c.seats.map Seat.mapped := by
  unfold Coach.changeSensor
  dsimp only
  split
  · rfl
  · exact Coach.reservePlace_mapped e p _

theorem Coach.putPlaces_mapped (e : Env) (y : Sensor) (ps : List PlaceId) (c : Coach) :
    (c.putPlaces e y ps).seats.map Seat.mapped = c.seats.map Seat.mapped := by
  induction ps generalizing c with
  | nil => rfl
  | cons p ps ih => exact (ih _).trans (c.changeSensor_mapped e p _)

/-- The lowest seat number of a module. -/
def Coach.lowestSeat (c : Coach) (i : Fin 4) (m : Fin 16) : Option Nat := ((c.seats.filter fun s => s.line = i ∧ s.module = m).map Seat.number).min?

theorem Coach.lowestSeat_iff (c : Coach) (i : Fin 4) (m : Fin 16) (n : Nat) : c.lowestSeat i m = some n
    ↔ (∃ z ∈ c.seats, z.line = i ∧ z.module = m ∧ z.number = n) ∧ ∀ z ∈ c.seats, z.line = i → z.module = m → n ≤ z.number := by
  rw [Coach.lowestSeat, List.min?_eq_some_iff]
  simp only [List.mem_map, List.mem_filter, decide_eq_true_eq, forall_exists_index, and_imp, and_assoc]
  exact and_congr_right fun _ => ⟨fun h z hz hline hmodule => h _ z hz hline hmodule rfl,
    fun h b z hz hline hmodule hb => hb ▸ h z hz hline hmodule⟩

theorem Coach.lowestSeat_congr {c d : Coach} (h : d.seats.map Seat.mapped = c.seats.map Seat.mapped) (i : Fin 4) (m : Fin 16) :
    d.lowestSeat i m = c.lowestSeat i m := by
  have through : ∀ xs : List Seat, (xs.filter fun s => s.line = i ∧ s.module = m).map Seat.number
      = ((xs.map Seat.mapped).filter fun s => s.line = i ∧ s.module = m).map Seat.number := fun xs => by
    rw [List.filter_map, List.map_map]
    rfl
  rw [Coach.lowestSeat, Coach.lowestSeat, through, through c.seats, h]

theorem Coach.moduleReport_eq (c : Coach) (kind : ReportKind) (i : Fin 4) (m : Fin 16) : c.moduleReport kind i m
    = ⟨kind, none, c.lowestSeat i m, none, c.position.estimate / 65536000, .none, some (i.val * 16 + m.val : Nat)⟩ := rfl

theorem Coach.moduleReport_congr {c d : Coach} (h : d.seats.map Seat.mapped = c.seats.map Seat.mapped) (hposition : d.position = c.position)
    (kind : ReportKind) (i : Fin 4) (m : Fin 16) : d.moduleReport kind i m = c.moduleReport kind i m := by
  rw [Coach.moduleReport_eq, Coach.moduleReport_eq, Coach.lowestSeat_congr h, hposition]

/-! ## One failure is counted (R120) -/

/-- The failure takes its module to FAULTY. -/
def SeatLine.falls (m : Fin 16) (l : SeatLine) : Bool :=
  decide (l.faultCount ≤ (l.module m).failures + 1 ∧ ((l.module m).health = .waking ∨ (l.module m).health = .healthy))

/-- The module record after a failure. -/
def SeatLine.failed (err : LineError) (m : Fin 16) (l : SeatLine) : Module :=
  { l.module m with
    failures := min l.faultCount ((l.module m).failures + 1), lastError := err, health := if l.falls m then .faulty else (l.module m).health }

/-- The coach in which a failure has been counted against its module. -/
def Coach.counted (i : Fin 4) (m : Fin 16) (err : LineError) (c : Coach) : Coach :=
  c.onLine i (SeatLine.onModule m fun _ => (c.lines.get i).failed err m)

theorem Coach.countFailure_names {f : SeatFrame} (h : f.cmd = .names) (e : Env) (i : Fin 4) (err : LineError) (c : Coach) :
    c.countFailure e i f err = c := if_pos h

theorem Coach.countFailure_eq {f : SeatFrame} (h : f.cmd ≠ .names) (e : Env) (i : Fin 4) (err : LineError) (c : Coach) :
    c.countFailure e i f err = if (c.lines.get i).falls f.module then
        ((c.counted i f.module err).putPlaces e Sensor.lost (bothPlaces i f.module)).raise e (c.moduleReport .moduleFault i f.module)
      else c.counted i f.module err := by
  have falls : (min (c.lines.get i).faultCount (((c.lines.get i).module f.module).failures + 1) = (c.lines.get i).faultCount
      ∧ (((c.lines.get i).module f.module).health = .waking ∨ ((c.lines.get i).module f.module).health = .healthy))
      ↔ (c.lines.get i).falls f.module = true := by
    have reached : ∀ a b : Nat, min a b = a ↔ a ≤ b := fun a b => by omega
    rw [SeatLine.falls, decide_eq_true_eq, reached]
  have report := Coach.moduleReport_congr (d := (c.counted i f.module err).putPlaces e Sensor.lost (bothPlaces i f.module)) (c := c)
    (Coach.putPlaces_mapped e _ _ _) (by rw [(Coach.putPlaces_onlyPlaces e Sensor.lost (bothPlaces i f.module) _).1]; rfl) .moduleFault i f.module
  have written : c.counted i f.module err = c.onLine i (SeatLine.onModule f.module fun x => { x with
      failures := min (c.lines.get i).faultCount (((c.lines.get i).module f.module).failures + 1), lastError := err
      health := if (c.lines.get i).falls f.module then .faulty else x.health }) := rfl
  rw [← report, written, Coach.countFailure, if_neg h]
  cases hfalls : (c.lines.get i).falls f.module
  · rw [hfalls] at falls
    simp only [falls]
    rfl
  · rw [hfalls] at falls
    simp only [falls]
    rfl

/-- Between a coach and another nothing of a line but its SHOW queue differs. -/
theorem Coach.OnlyPlaces.line {c d : Coach} (h : c.OnlyPlaces d) (i : Fin 4) :
    ∃ g, d.lines.get i = { c.lines.get i with showQueue := (c.lines.get i).showQueue ++ g } := h.2 i

/-! ## The slot of a failed transfer (R115, R118) -/

/-- A line whose transfer has failed: the item is back, the round advanced, and the line is in IDLE. -/
def SeatLine.returned (f : SeatFrame) (now : Nat) (l : SeatLine) : SeatLine := ((l.handBack f).advance f).toIdle now

theorem Coach.failTransfer_eq (e : Env) (i : Fin 4) (f : SeatFrame) (err : LineError) (c : Coach) :
    c.failTransfer e i f err = (c.countFailure e i f err).onLine i fun l => l.returned f e.now := rfl

/-- The item of a service frame back in its place. -/
theorem SeatLine.handBack_eq (f : SeatFrame) (l : SeatLine) : l.handBack f = { l with
    stale := if f.cmd = .names then l.stale ||| (1#16 <<< f.block) else l.stale
    showQueue := if f.cmd = .showContent ∧ f.module ∉ l.showQueue then l.showQueue ++ [f.module] else l.showQueue
    modules := if f.cmd = .level then l.modules.set f.module.val { l.module f.module with levelPending := true } else l.modules } := by
  unfold SeatLine.handBack
  cases hcmd : f.cmd with
  | names => simp
  | showContent => by_cases hin : f.module ∈ l.showQueue <;> simp [hin]
  | level => rfl
  | poll => simp
  | ident => simp

theorem SeatLine.returned_eq (f : SeatFrame) (now : Nat) (l : SeatLine) : l.returned f now = { l with
    activity := .idle
    recessiveSince := now
    round := if f.cmd.isQuery then if l.round + 1 < l.moduleCount then l.round + 1 else 0 else l.round
    stale := if f.cmd = .names then l.stale ||| (1#16 <<< f.block) else l.stale
    showQueue := if f.cmd = .showContent ∧ f.module ∉ l.showQueue then l.showQueue ++ [f.module] else l.showQueue
    modules := if f.cmd = .level then l.modules.set f.module.val { l.module f.module with levelPending := true } else l.modules } := by
  unfold SeatLine.returned SeatLine.advance
  rw [SeatLine.handBack_eq]
  split <;> rfl

/-- The mark of one block is put among the stale blocks. -/
theorem getLsbD_marked {v : BitVec 16} {b k : Nat} (hk : k < 16) : (v ||| (1#16 <<< b)).getLsbD k = true ↔ v.getLsbD k = true ∨ k = b := by
  rw [BitVec.getLsbD_or, BitVec.getLsbD_shiftLeft, Bool.or_eq_true]
  refine or_congr_right ?_
  by_cases hlt : k < b
  · simp [hlt]
    omega
  · simp [hk, hlt, BitVec.getLsbD_one]
    omega

/-- The coach in which a failure has taken a module to FAULTY. -/
theorem Coach.countFailure_falls {c : Coach} {i : Fin 4} {f : SeatFrame} (h : f.cmd ≠ .names) (hfalls : (c.lines.get i).falls f.module = true)
    (e : Env) (err : LineError) : c.countFailure e i f err
      = ((c.counted i f.module err).putPlaces e Sensor.lost (bothPlaces i f.module)).raise e (c.moduleReport .moduleFault i f.module) := by
  rw [Coach.countFailure_eq h, if_pos hfalls]

theorem Coach.countFailure_stays {c : Coach} {i : Fin 4} {f : SeatFrame} (h : f.cmd ≠ .names) (hstays : (c.lines.get i).falls f.module = false)
    (e : Env) (err : LineError) : c.countFailure e i f err = c.counted i f.module err := by
  rw [Coach.countFailure_eq h, if_neg (by simp [hstays])]

theorem Coach.raise_onlyPlaces (e : Env) (r : Report) (c : Coach) : c.OnlyPlaces (c.raise e r) := ⟨rfl, .of_eq rfl⟩

theorem Coach.onLine_tells (e : Env) (i : Fin 4) (f : SeatLine → SeatLine) (c : Coach) : c.Tells e [] (c.onLine i f) := .silent rfl rfl

/-- A failure, its module and its line: everything but what the lost places change. -/
theorem Coach.countFailure_onlyPlaces {f : SeatFrame} (h : f.cmd ≠ .names) (e : Env) (i : Fin 4) (err : LineError) (c : Coach) :
    (c.counted i f.module err).OnlyPlaces (c.countFailure e i f err) := by
  rw [Coach.countFailure_eq h]
  split
  · exact (Coach.putPlaces_onlyPlaces e Sensor.lost (bothPlaces i f.module) _).trans (Coach.raise_onlyPlaces e _ _)
  · exact .refl _

/-! ## A failed transfer as a whole (R120) -/

/-- The transfer of a frame takes its module to FAULTY when it fails. -/
abbrev SeatLine.Falls (f : SeatFrame) (l : SeatLine) : Prop := f.cmd ≠ .names ∧ l.faultCount ≤ (l.module f.module).failures + 1
  ∧ ((l.module f.module).health = .waking ∨ (l.module f.module).health = .healthy)

/-- The module record after the failure of the transfer of a frame. -/
def SeatLine.afterFailure (f : SeatFrame) (err : LineError) (l : SeatLine) : Module := { l.module f.module with
  failures := min l.faultCount ((l.module f.module).failures + 1), lastError := err
  health := if l.Falls f then .faulty else (l.module f.module).health }

theorem SeatLine.falls_iff {f : SeatFrame} (h : f.cmd ≠ .names) (l : SeatLine) : l.falls f.module = true ↔ l.Falls f := by
  rw [SeatLine.falls, decide_eq_true_eq, SeatLine.Falls]
  exact (and_iff_right h).symm

theorem SeatLine.afterFailure_eq {f : SeatFrame} (h : f.cmd ≠ .names) (err : LineError) (l : SeatLine) :
    l.failed err f.module = l.afterFailure f err := by
  simp only [SeatLine.failed, SeatLine.afterFailure, SeatLine.falls_iff h]

/-- The coach with the record that the failure leaves. -/
theorem Coach.counted_eq {f : SeatFrame} (h : f.cmd ≠ .names) (i : Fin 4) (err : LineError) (c : Coach) : c.counted i f.module err
    = { c with lines := c.lines.set i { c.lines.get i with
        modules := (c.lines.get i).modules.set f.module.val ((c.lines.get i).afterFailure f err) } } := by
  rw [← SeatLine.afterFailure_eq h]
  rfl

theorem Coach.countFailure_small {c : Coach} {i : Fin 4} {f : SeatFrame} (h : ¬ (c.lines.get i).Falls f) (e : Env) (err : LineError) :
    c.countFailure e i f err = if f.cmd = .names then c else c.counted i f.module err := by
  split
  next hnames => exact Coach.countFailure_names hnames e i err c
  next hcmd =>
    exact Coach.countFailure_stays hcmd (Bool.eq_false_iff.2 fun hfalls => h (((c.lines.get i).falls_iff hcmd).1 hfalls)) e err

/-- The line of a failed transfer, before its slot ends. -/
theorem Coach.countFailure_line (e : Env) (i : Fin 4) (f : SeatFrame) (err : LineError) (c : Coach) :
    ∃ g, (c.countFailure e i f err).lines.get i = { c.lines.get i with
      showQueue := (c.lines.get i).showQueue ++ g
      modules := if f.cmd = .names then (c.lines.get i).modules
        else (c.lines.get i).modules.set f.module.val ((c.lines.get i).afterFailure f err) } := by
  by_cases hnames : f.cmd = .names
  · exact ⟨[], by simp [Coach.countFailure_names hnames, hnames]⟩
  · obtain ⟨g, hg⟩ := (Coach.countFailure_onlyPlaces hnames e i err c).line i
    refine ⟨g, hg.trans ?_⟩
    rw [Coach.counted_eq hnames, Quad.get_set_same, if_neg hnames]

theorem Coach.countFailure_otherLine {i j : Fin 4} (hj : j ≠ i) (e : Env) (f : SeatFrame) (err : LineError) (c : Coach) :
    ∃ g, (c.countFailure e i f err).lines.get j = { c.lines.get j with showQueue := (c.lines.get j).showQueue ++ g }
      ∧ (¬ (c.lines.get i).Falls f → g = []) := by
  have steady : ∀ d : Coach, d = c ∨ d = c.counted i f.module err → d.lines.get j = c.lines.get j := fun d hd => by
    rcases hd with rfl | rfl
    · rfl
    · exact Coach.onLine_other hj _ c
  by_cases hfalls : (c.lines.get i).Falls f
  · obtain ⟨g, hg⟩ := (Coach.countFailure_onlyPlaces hfalls.1 e i err c).line j
    exact ⟨g, by rw [hg, steady _ (.inr rfl)], fun h => absurd hfalls h⟩
  · refine ⟨[], ?_, fun _ => rfl⟩
    rw [Coach.countFailure_small hfalls, List.append_nil]
    split
    · rfl
    · exact steady _ (.inr rfl)

/-! ## What a changed place reads (R139) -/

/-- Two coaches are alike in what the occupancy and the reservation unit read. -/
def Coach.SameSense (c d : Coach) : Prop :=
  d.seats = c.seats ∧ d.sensors = c.sensors ∧ d.journey = c.journey ∧ d.position = c.position ∧ d.notices = c.notices

theorem Coach.reservePlace_seats (e : Env) (p : PlaceId) (c : Coach) : (c.reservePlace e p).seats = c.seats.map fun s =>
    { s with
      entries := (ofEntries (atPlace p) s (c.entryCtx e s) s.entries).1
      content := c.contentOf e { s with entries := (ofEntries (atPlace p) s (c.entryCtx e s) s.entries).1 } } := by
  have content : ∀ s, (c.forSeats e (ofEntries (atPlace p))).contentOf e s = c.contentOf e s := fun s =>
    Coach.contentOf_congr e (by simp) (Coach.nextArmed_congr (by simp) (by simp)) rfl rfl
  rw [Coach.reservePlace_take, Coach.take, if_neg Bool.false_ne_true, Coach.refresh_seats, Coach.forSeats_seats, List.map_map]
  simp only [content]
  rfl

theorem Coach.reservePlace_sameSense {c d : Coach} (h : c.SameSense d) (e : Env) (p : PlaceId) : (c.reservePlace e p).SameSense (d.reservePlace e p) := by
  obtain ⟨seats, sensors, journey, position, notices⟩ := h
  have ctx : ∀ s, d.entryCtx e s = c.entryCtx e s := fun s => by
    rw [Coach.entryCtx, Coach.entryCtx, journey, position, Coach.sensor_congr sensors]
  have content : ∀ s, d.contentOf e s = c.contentOf e s := fun s =>
    Coach.contentOf_congr e journey (Coach.nextArmed_congr journey (by rw [notices])) rfl rfl
  refine ⟨?_, by simpa, by simpa, by simpa, by simpa⟩
  rw [Coach.reservePlace_seats, Coach.reservePlace_seats, seats]
  simp only [ctx, content]

theorem Coach.changeSensor_sameSense {c d : Coach} (h : c.SameSense d) (e : Env) (p : PlaceId) (f : Sensor → Sensor) :
    (c.changeSensor e p f).SameSense (d.changeSensor e p f) := by
  have sensor := Coach.sensor_congr h.2.1 p
  have written : ∀ y, (c.setSensor p y).SameSense (d.setSensor p y) := fun y => by
    obtain ⟨seats, sensors, journey, position, notices⟩ := h
    exact ⟨seats, by rw [Coach.setSensor, Coach.setSensor, sensors], journey, position, notices⟩
  have state : (d.setSensor p (f (d.sensor p))).sensor p = (c.setSensor p (f (c.sensor p))).sensor p := by
    rw [sensor]
    exact Coach.sensor_congr (written _).2.1 p
  have change : ∀ c : Coach, c.changeSensor e p f = if ((c.setSensor p (f (c.sensor p))).sensor p).state = (c.sensor p).state
      then c.setSensor p (f (c.sensor p)) else (c.setSensor p (f (c.sensor p))).reservePlace e p := fun _ => rfl
  rw [change, change, state, sensor]
  split
  · exact written _
  · exact Coach.reservePlace_sameSense (written _) e p

theorem Coach.putPlaces_sameSense {c d : Coach} (h : c.SameSense d) (e : Env) (y : Sensor) (ps : List PlaceId) :
    (c.putPlaces e y ps).SameSense (d.putPlaces e y ps) := by
  induction ps generalizing c d with
  | nil => exact h
  | cons p ps ih => exact ih (Coach.changeSensor_sameSense h e p _)

theorem SeatLine.returned_round (f : SeatFrame) (now : Nat) (l : SeatLine) :
    (l.returned f now).round = if f.cmd.isQuery then if l.round + 1 < l.moduleCount then l.round + 1 else 0 else l.round := by
  rw [SeatLine.returned_eq]

theorem SeatLine.returned_stale (f : SeatFrame) (now : Nat) (l : SeatLine) :
    (l.returned f now).stale = if f.cmd = .names then l.stale ||| (1#16 <<< f.block) else l.stale := by
  rw [SeatLine.returned_eq]

theorem SeatLine.returned_showQueue (f : SeatFrame) (now : Nat) (l : SeatLine) : (l.returned f now).showQueue
    = if f.cmd = .showContent ∧ f.module ∉ l.showQueue then l.showQueue ++ [f.module] else l.showQueue := by
  rw [SeatLine.returned_eq]

theorem SeatLine.returned_modules (f : SeatFrame) (now : Nat) (l : SeatLine) : (l.returned f now).modules
    = if f.cmd = .level then l.modules.set f.module.val { l.module f.module with levelPending := true } else l.modules := by
  rw [SeatLine.returned_eq]

theorem SeatLine.returned_frame (f : SeatFrame) (now : Nat) (l : SeatLine) : l.returned f now = { l with
    activity := .idle, recessiveSince := now, round := (l.returned f now).round, stale := (l.returned f now).stale
    showQueue := (l.returned f now).showQueue, modules := (l.returned f now).modules } := by
  rw [SeatLine.returned_eq]

/-- The module records of the line of a failed transfer. -/
theorem Coach.failTransfer_modules {c : Coach} {i : Fin 4} (h : (c.lines.get i).modules.length = 16) (e : Env) (f : SeatFrame) (err : LineError) :
    (((c.countFailure e i f err).lines.get i).returned f e.now).modules = if f.cmd = .names then (c.lines.get i).modules
      else (c.lines.get i).modules.set f.module.val { (c.lines.get i).afterFailure f err with
        levelPending := ((c.lines.get i).afterFailure f err).levelPending || f.cmd == .level } := by
  obtain ⟨g, line⟩ := c.countFailure_line e i f err
  rw [SeatLine.returned_modules, SeatLine.module, line]
  by_cases hnames : f.cmd = .names
  · simp [hnames]
  · by_cases hlevel : f.cmd = .level
    · simp [hlevel, h]
    · have other : (f.cmd == .level) = false := beq_eq_false_iff_ne.2 hlevel
      rw [if_neg hlevel, if_neg hnames, other, Bool.or_false]
      exact (if_neg hnames).symm

/-- A module record of a line whose records are replaced at one place. -/
theorem SeatLine.module_of_set {l y : SeatLine} {m : Fin 16} {x : Module} (h : y.modules = l.modules.set m.val x) :
    (l.modules.length = 16 → y.module m = x) ∧ ∀ k, k ≠ m → y.module k = l.module k := by
  have same : ∀ k, y.module k = (l.onModule m fun _ => x).module k := fun k => by
    rw [SeatLine.module, h]
    rfl
  exact ⟨fun hl => (same m).trans (SeatLine.onModule_same hl m _), fun k hk => (same k).trans (SeatLine.onModule_other hk _ l)⟩

theorem Coach.losePlace_both (e : Env) (i : Fin 4) (m : Fin 16) (c : Coach) :
    c.putPlaces e Sensor.lost (bothPlaces i m) = (c.losePlace e ⟨i, m, 0⟩).losePlace e ⟨i, m, 1⟩ := rfl

/-- What a module that falls changes beyond its line: its places are lost, and one report is raised. -/
theorem Coach.failTransfer_falls {c : Coach} {i : Fin 4} {f : SeatFrame} (hsensors : c.sensors.length = 128) (h : (c.lines.get i).Falls f) (e : Env)
    (err : LineError) :
    (c.failTransfer e i f err).seats = (c.putPlaces e Sensor.lost (bothPlaces i f.module)).seats
    ∧ (c.failTransfer e i f err).sensors = (c.putPlaces e Sensor.lost (bothPlaces i f.module)).sensors
    ∧ c.Tells e [c.moduleReport .moduleFault i f.module] (c.failTransfer e i f err) := by
  have lost := Coach.countFailure_falls h.1 (((c.lines.get i).falls_iff h.1).2 h) e err
  have counted : c.SameSense (c.counted i f.module err) := ⟨rfl, rfl, rfl, rfl, rfl⟩
  obtain ⟨seats, sensors, -⟩ := Coach.putPlaces_sameSense counted e Sensor.lost (bothPlaces i f.module)
  have silent := Coach.putPlaces_tells (c := c.counted i f.module err) hsensors e (y := Sensor.lost) rfl (bothPlaces i f.module)
  rw [Coach.failTransfer_eq, lost, Coach.onLine_seats, Coach.onLine_sensors, Coach.raise_seats, Coach.raise_sensors]
  refine ⟨seats, sensors, (silent.trans ((Coach.Tells.raise e _ _).trans (Coach.onLine_tells e i _ _))).of_reports fun p => ?_⟩
  cases p <;> rfl

theorem Coach.failTransfer_frame (e : Env) (i : Fin 4) (f : SeatFrame) (err : LineError) (c : Coach) :
    c.failTransfer e i f err = { c.countFailure e i f err with
      lines := (c.countFailure e i f err).lines.set i (((c.countFailure e i f err).lines.get i).returned f e.now) } := by
  rw [Coach.failTransfer_eq, Coach.onLine]

/-- Settles O40: the failure counted, the places lost where the module falls, and the slot of the transfer. -/
theorem aFailedTransferCountsAgainstItsModule : Obligations.AFailedTransferCountsAgainstItsModule := by
  rintro e c d i l f err rfl hmodules hsensors rfl
  obtain ⟨g, line⟩ := c.countFailure_line e i f err
  have small := fun h => Coach.countFailure_small (c := c) (i := i) (f := f) h e err
  have modules := Coach.failTransfer_modules hmodules e f err
  have final : (c.failTransfer e i f err).lines.get i = ((c.countFailure e i f err).lines.get i).returned f e.now := Coach.onLine_same i _ _
  have record : f.cmd ≠ .names → (((c.countFailure e i f err).lines.get i).returned f e.now).module f.module
      = { (c.lines.get i).afterFailure f err with levelPending := ((c.lines.get i).afterFailure f err).levelPending || f.cmd == .level } :=
    fun h => (SeatLine.module_of_set (modules.trans (if_neg h))).1 hmodules
  have others : ∀ m, m ≠ f.module → (((c.countFailure e i f err).lines.get i).returned f e.now).module m = (c.lines.get i).module m := fun m hm => by
    by_cases hnames : f.cmd = .names
    · rw [SeatLine.module, modules, if_pos hnames, SeatLine.module]
    · exact (SeatLine.module_of_set (modules.trans (if_neg hnames))).2 m hm
  have stale : ∀ b, b < 16 → ((((c.countFailure e i f err).lines.get i).returned f e.now).stale.getLsbD b = true
      ↔ (c.lines.get i).stale.getLsbD b = true ∨ (f.cmd = .names ∧ b = f.block)) := fun b hb => by
    rw [SeatLine.returned_stale, line]
    by_cases hnames : f.cmd = .names
    · simp only [hnames, if_true, true_and]
      exact getLsbD_marked hb
    · simp only [hnames, if_false, false_and, or_false]
  refine ⟨c.lowestSeat i f.module, (c.lines.get i).Falls f, if f.cmd = .names then c else c.counted i f.module err, c.countFailure e i f err,
    (c.lines.get i).afterFailure f err, ((c.countFailure e i f err).lines.get i).returned f e.now, c.lowestSeat_iff i f.module, rfl, rfl,
    fun h => if_pos h, fun h => if_neg h, fun h => if_pos h, fun h => (if_neg h).trans (Coach.counted_eq h i err c), small, fun h => ?_, Coach.failTransfer_frame e i f err c,
    SeatLine.returned_frame _ _ _, fun h => ?_, fun h1 h2 => ?_, stale, fun h hout => ?_, fun h => ?_, fun h => modules.trans (if_pos h),
    fun h => modules.trans (if_neg h), fun m hm => final ▸ others m hm, fun j hj => ?_, ?_, ?_, fun h => ⟨?_, ?_, ?_, ?_, fun hb => ?_⟩,
    fun h => ⟨?_, ?_⟩, fun h => ?_, fun h => ?_, fun h hno => ?_, fun h hcount hhealth => ?_, ?_, ?_, ?_, ?_⟩
  · rw [if_neg h.1, Coach.countFailure_falls h.1 (((c.lines.get i).falls_iff h.1).2 h), Coach.losePlace_both, Coach.moduleReport_eq]
  · rw [SeatLine.returned_round, line, if_pos ((SeatCmd.isQuery_iff _).2 h)]
  · rw [SeatLine.returned_round, line, if_neg (by rw [(SeatCmd.not_isQuery_iff _).2 ⟨h1, h2⟩]; exact Bool.false_ne_true)]
  · rw [SeatLine.returned_showQueue, if_pos ⟨h, hout⟩]
  · rw [SeatLine.returned_showQueue, if_neg fun hboth => h.elim (· hboth.1) hboth.2]
  · obtain ⟨more, hmore, hnone⟩ := c.countFailure_otherLine hj e f err
    exact ⟨more, (Coach.onLine_other hj _ _).trans hmore, hnone⟩
  · rw [final, SeatLine.returned_frame]
  · rw [final, SeatLine.returned_frame]
  · rw [final, modules, if_pos h]
  · rw [Coach.failTransfer_eq, Coach.countFailure_names h, Coach.onLine_sensors]
  · rw [Coach.failTransfer_eq, Coach.countFailure_names h, Coach.onLine_reportsA]
  · rw [Coach.failTransfer_eq, Coach.countFailure_names h, Coach.onLine_reportsB]
  · rw [final, stale _ hb]
    exact .inr ⟨h, rfl⟩
  · rw [final, record h]
    rfl
  · rw [final, record h]
    rfl
  · rw [final, SeatLine.returned_showQueue]
    split
    next => simp
    next hnot => exact Classical.not_not.1 fun hout => hnot ⟨h, hout⟩
  · rw [final, record (by simp [h]), h]
    simp
  · have stays : ¬ (c.lines.get i).Falls f := fun hfalls => by
      obtain ⟨-, hcount, hhealth⟩ := hfalls
      rcases hno with hfew | hfaulty
      · omega
      · simp [hfaulty] at hhealth
    rw [final, record h, Coach.failTransfer_eq, small stays, if_neg h]
    exact ⟨if_neg stays, rfl, rfl, rfl, rfl⟩
  · have falls : (c.lines.get i).Falls f := ⟨h, hcount, hhealth⟩
    obtain ⟨seats, sensors, told⟩ := Coach.failTransfer_falls hsensors falls e err
    refine ⟨?_, ⟨c.putPlaces e Sensor.lost (bothPlaces i f.module), Coach.losePlace_both e i f.module c, seats, sensors⟩, fun p => ?_, told⟩
    · rw [final, record h]
      exact if_pos falls
    · have named : (⟨i, f.module, p⟩ : PlaceId) ∈ bothPlaces i f.module := mem_bothPlaces.2 ⟨rfl, rfl⟩
      rw [Coach.sensor_congr sensors, Coach.putPlaces_sensor hsensors, if_pos named]
      rfl
  all_goals simp

end Sys2Proof.Machine
end

section
/-! # Lines that leave a run, and the stuck watch (6.1, 6.3, 6.4) -/
namespace Sys2Proof.Machine

/-! ## A line that loses its places (R107, R114) -/

theorem Quad.set_get {α : Type} (q : Quad α) (i : Fin 4) : q.set i (q.get i) = q :=
  match i with
  | 0 | 1 | 2 | 3 => rfl

theorem Quad.set_set {α : Type} (q : Quad α) (i : Fin 4) (x y : α) : (q.set i x).set i y = q.set i y :=
  match i with
  | 0 | 1 | 2 | 3 => rfl

theorem Coach.loseLine_eq (e : Env) (i : Fin 4) (c : Coach) : c.loseLine e i = c.putPlaces e Sensor.lost (linePlaces i) := rfl

theorem Coach.putPlaces_line (e : Env) (i : Fin 4) (c : Coach) : c.putPlaces e Sensor.lost (linePlaces i)
    = ((List.finRange 16).flatMap fun m => [(⟨i, m, 0⟩ : PlaceId), ⟨i, m, 1⟩]).foldl (Coach.losePlace e) c := rfl

/-- A line is changed and then loses its places: seats and sensors as the places alone leave them, no report, and the line but for its SHOW
queue. -/
theorem Coach.loseLine_onLine {c : Coach} (h : c.sensors.length = 128) (e : Env) (i : Fin 4) (f : SeatLine → SeatLine) :
    ((c.onLine i f).loseLine e i).seats = (c.putPlaces e Sensor.lost (linePlaces i)).seats
    ∧ ((c.onLine i f).loseLine e i).sensors = (c.putPlaces e Sensor.lost (linePlaces i)).sensors
    ∧ c.Tells e [] ((c.onLine i f).loseLine e i)
    ∧ (∃ g, ((c.onLine i f).loseLine e i).lines.get i = { f (c.lines.get i) with showQueue := (f (c.lines.get i)).showQueue ++ g })
    ∧ ∀ k, k ≠ i → ∃ g, ((c.onLine i f).loseLine e i).lines.get k = { c.lines.get k with showQueue := (c.lines.get k).showQueue ++ g } := by
  have sense : c.SameSense (c.onLine i f) := ⟨rfl, rfl, rfl, rfl, rfl⟩
  obtain ⟨seats, sensors, -⟩ := Coach.putPlaces_sameSense sense e Sensor.lost (linePlaces i)
  have only := (c.onLine i f).putPlaces_onlyPlaces e Sensor.lost (linePlaces i)
  have silent := Coach.putPlaces_tells (c := c.onLine i f) h e (y := Sensor.lost) rfl (linePlaces i)
  rw [Coach.loseLine_eq]
  refine ⟨seats, sensors, (c.onLine_tells e i f).trans silent, ?_, fun k hk => ?_⟩
  · have own := only.line i
    rwa [Coach.onLine_same] at own
  · have other := only.line k
    rwa [Coach.onLine_other hk] at other

/-- Every place of a line is UNKNOWN after the line has lost its places, and no other place changes. -/
theorem Coach.loseLine_sensor {c : Coach} (h : c.sensors.length = 128) (e : Env) (i : Fin 4) (k : PlaceId) :
    (c.putPlaces e Sensor.lost (linePlaces i)).sensor k = if k.line = i then Sensor.lost else c.sensor k := by
  rw [Coach.putPlaces_sensor h]
  simp only [mem_linePlaces]

/-! ## SEAT LINE CONTROL takes a line out of its run (R107) -/

/-- A line in a state of rest, the item of its frame put back. -/
def SeatLine.rested (rest : LineActivity) (l : SeatLine) : SeatLine :=
  { (match l.activity with
      | .frame f => l.handBack f
      | _ => l) with activity := rest, dominantSince := none }

theorem SeatLine.rested_frame {l : SeatLine} {f : SeatFrame} (h : l.activity = .frame f) (rest : LineActivity) :
    l.rested rest = { l.handBack f with activity := rest, dominantSince := none } := by
  rw [SeatLine.rested, h]

theorem SeatLine.rested_eq (rest : LineActivity) (l : SeatLine) : l.rested rest = { l with
    activity := rest, dominantSince := none, stale := (l.rested rest).stale, showQueue := (l.rested rest).showQueue
    modules := (l.rested rest).modules } := by
  unfold SeatLine.rested
  split
  · rw [SeatLine.handBack_eq]
  · rfl

/-- The line and its places after the run, before SEAT_LINE_FAULT is looked at. -/
def Coach.restLine (e : Env) (i : Fin 4) (rest : LineActivity) (c : Coach) : Coach := (c.onLine i (SeatLine.rested rest)).loseLine e i

theorem Coach.leaveRun_eq {c : Coach} {i : Fin 4} (h : (c.lines.get i).running = true ∨ (c.lines.get i).activity = .stuck) (e : Env)
    (rest : LineActivity) :
    c.leaveRun e i rest = if (c.lines.get i).activity = .stuck then (c.restLine e i rest).clearFault else c.restLine e i rest := by
  rw [Coach.leaveRun, if_pos h]
  rfl

/-- Leaving a run touches what losing the places touches, and the fault flags. -/
theorem Coach.leaveRun_frame {c : Coach} {i : Fin 4} (h : (c.lines.get i).running = true ∨ (c.lines.get i).activity = .stuck) (e : Env)
    (rest : LineActivity) : (c.leaveRun e i rest).seats = (c.restLine e i rest).seats ∧ (c.leaveRun e i rest).sensors = (c.restLine e i rest).sensors
      ∧ (c.leaveRun e i rest).lines = (c.restLine e i rest).lines := by
  rw [Coach.leaveRun_eq h]
  split
  · exact ⟨Coach.clearFault_seats _, Coach.clearFault_sensors _, Coach.clearFault_lines _⟩
  · exact ⟨rfl, rfl, rfl⟩

/-- The action of SEAT LINE CONTROL by its number. -/
theorem Coach.lineAction_rest {action : Nat} (h : action = 0 ∨ action = 1) (e : Env) (i : Fin 4) (c : Coach) :
    c.lineAction e i action = c.leaveRun e i (if action = 0 then .off else .setup) := by
  rcases h with rfl | rfl <;> rfl

theorem Coach.controlLine_bare (i : Fin 4) (n action : Nat) (e : Env) (c : Coach) :
    c.controlLine i ⟨n, action, none, none, none, none, none, none⟩ e = c.lineAction e i action := by
  have same : c.onLine i (SeatLine.write ⟨n, action, none, none, none, none, none, none⟩) = c :=
    congrArg (fun lines => { c with lines }) (Quad.set_get c.lines i)
  rw [Coach.controlLine, same]

theorem exec_seatLineControl {s : State} {p : Port} (h : s.controls p) (r : LineControl) :
    exec (.seatLineControl p r) s = .next (State.answer p 19 (seatLineControlBody r (s.renew p)).2.status
      (seatLineControlBody r (s.renew p)).2.results (seatLineControlBody r (s.renew p)).1) :=
  live_leadOrCrew h 19 (seatLineControlBody r)

/-- The state after an accepted SEAT LINE CONTROL. -/
def State.controlled (r : LineControl) (s : State) : State := s.onCoach (Coach.controlLine (Fin.ofNat 4 r.line) r)

/-- The checks of SEAT LINE CONTROL in order (R106). -/
theorem seatLineControlBody_eq (r : LineControl) (s : State) : seatLineControlBody r s
    = if 3 < r.line ∨ 3 < r.action ∨ badRate r.bitRate = true then refuse .badField s
      else if (LineControl.hasValues r && !(s.coach.lines.get (Fin.ofNat 4 r.line)).atRest) = true then refuse .wrongPhase s
      else if r.action = 2 ∧ (s.coach.lines.get (Fin.ofNat 4 r.line)).activity = .off then refuse .wrongPhase s
      else (s.controlled r, { status := if LineControl.clamped r then .adjusted else .accepted
                              results := ((s.controlled r).coach.lines.get (Fin.ofNat 4 r.line)).paramChars s.now }) := by
  simp only [seatLineControlBody, judge_cons, judge_nil, decide_eq_true_eq]
  rfl

theorem seatLineControlBody_taken {r : LineControl} {s : State} (hline : r.line ≤ 3) (haction : r.action ≤ 3) (hrate : badRate r.bitRate = false)
    (hvalues : LineControl.hasValues r = true → (s.coach.lines.get (Fin.ofNat 4 r.line)).atRest = true)
    (hrun : r.action = 2 → (s.coach.lines.get (Fin.ofNat 4 r.line)).activity ≠ .off) : seatLineControlBody r s
      = (s.controlled r, { status := if LineControl.clamped r then .adjusted else .accepted
                           results := ((s.controlled r).coach.lines.get (Fin.ofNat 4 r.line)).paramChars s.now }) := by
  rw [seatLineControlBody_eq, if_neg (by simp [hrate]; omega), if_neg, if_neg fun h => hrun h.1 h.2]
  intro h
  rw [Bool.and_eq_true, Bool.not_eq_true'] at h
  rw [hvalues h.1] at h
  cases h.2

theorem Coach.noneStuck_of {c d : Coach} {i : Fin 4} (hown : (d.lines.get i).activity ≠ .stuck)
    (hothers : ∀ k, k ≠ i → (d.lines.get k).activity = (c.lines.get k).activity) :
    d.noneStuck = true ↔ ∀ k, k ≠ i → (c.lines.get k).activity ≠ .stuck := by
  rw [Coach.noneStuck_iff]
  constructor
  · exact fun h k hk => hothers k hk ▸ h k
  · intro h k
    by_cases hk : k = i
    · rwa [hk]
    · rw [hothers k hk]
      exact h k hk

theorem Coach.Tells.same {e : Env} {c d : Coach} (h : c.Tells e [] d) : d.reportsA = c.reportsA ∧ d.reportsB = c.reportsB := ⟨h .a, h .b⟩

/-- Without a frame and without a dominant level from outside there is no dominant run. -/
theorem SeatLine.dominantRun_none {l : SeatLine} (h : l.dominantSince = none) (hframe : ∀ f, l.activity ≠ .frame f) (now : Nat) :
    l.dominantRun now = 0 := by
  have none' : l.runSince now = none := by
    unfold SeatLine.runSince
    rw [h]
    split
    next hsome => cases hsome
    next hf => exact absurd hf (hframe _)
    next => rfl
  rw [SeatLine.dominantRun, none']

/-- Settles O35: the line at rest, its places lost, its item back, and the fault flag. -/
theorem leavingARunLosesThePlaces : Obligations.LeavingARunLosesThePlaces := by
  rintro s p i l action hcontrols rfl hsensors hmodules hran haction
  have coach : (s.renew p).coach = s.coach := s.renew_coach p
  have env : (s.renew p).env = s.env := State.renew_env p s
  have number : Fin.ofNat 4 i.val = i := Fin.ext (Nat.mod_eq_of_lt i.isLt)
  let rest : LineActivity := if action = 0 then .off else .setup
  have rests : rest ≠ .stuck ∧ ∀ f, rest ≠ .frame f := by
    show (if action = 0 then LineActivity.off else .setup) ≠ .stuck ∧ ∀ f, (if action = 0 then LineActivity.off else .setup) ≠ .frame f
    split <;> simp
  let d := s.coach.leaveRun s.env i rest
  have taken : ((s.renew p).controlled ⟨i.val, action, none, none, none, none, none, none⟩) = { s.renew p with coach := d } := by
    rw [State.controlled, State.onCoach, coach, env, number, Coach.controlLine_bare, Coach.lineAction_rest haction]
  have dcoach : d = if (s.coach.lines.get i).activity = .stuck then (s.coach.restLine s.env i rest).clearFault else s.coach.restLine s.env i rest :=
    Coach.leaveRun_eq hran s.env rest
  obtain ⟨dseats, dsensors, dlines⟩ := Coach.leaveRun_frame hran s.env rest
  obtain ⟨seats, sensors, told, ⟨g, own⟩, others⟩ := Coach.loseLine_onLine hsensors s.env i (SeatLine.rested rest)
  obtain ⟨reportsA, reportsB⟩ := told.same
  have line : d.lines.get i = { (s.coach.lines.get i).rested rest with showQueue := ((s.coach.lines.get i).rested rest).showQueue ++ g } :=
    (congrArg (Quad.get · i) dlines).trans own
  have sensor : ∀ k, d.sensor k = if k.line = i then Sensor.lost else s.coach.sensor k := fun k =>
    (Coach.sensor_congr (dsensors.trans sensors) k).trans (Coach.loseLine_sensor hsensors s.env i k)
  have noneStuck : (s.coach.restLine s.env i rest).noneStuck = true ↔ ∀ k, k ≠ i → (s.coach.lines.get k).activity ≠ .stuck := by
    refine Coach.noneStuck_of ?_ fun k hk => ?_
    · rw [Coach.restLine, own, SeatLine.rested_eq]
      exact rests.1
    · obtain ⟨g, hg⟩ := others k hk
      rw [Coach.restLine, hg]
  refine ⟨{ s.renew p with coach := d }, ?_, ?_, rfl, ?_, ?_, ?_, ?_, ⟨_, Coach.putPlaces_line s.env i s.coach, dseats.trans seats, dsensors.trans sensors⟩, fun m pl => ?_,
    fun k m pl hk => ?_, fun f hf => ⟨fun hcmd hblock => ?_, fun hcmd => ?_, fun hcmd => ?_, fun hcmd => ?_, fun hcmd => ?_⟩, fun hstuck hnone => ?_,
    fun hother => ?_, ?_, ?_, ?_⟩
  · rw [exec_seatLineControl hcontrols, seatLineControlBody_taken, taken]
    · show _ = Host.Outcome.next (State.answer p 19 _ _ _)
      rw [number, State.renew_now]
      rfl
    · show i.val ≤ 3
      omega
    · show action ≤ 3
      omega
    · rfl
    · exact fun h => absurd h nofun
    · show action = 2 → _
      omega
  · simp [SameOutside]
  · rw [line, SeatLine.rested_eq]
  · rw [line, SeatLine.rested_eq]
    exact SeatLine.dominantRun_none rfl rests.2 _
  · rw [line, SeatLine.rested_eq]
  · rw [line, SeatLine.rested_eq]
  · exact (sensor _).trans (if_pos rfl)
  · exact (sensor _).trans (if_neg hk)
  · rw [line, SeatLine.rested_frame hf, SeatLine.handBack_eq]
    dsimp only
    rw [if_pos hcmd]
    exact (getLsbD_marked hblock).2 (.inr rfl)
  · rw [line, SeatLine.rested_frame hf, SeatLine.handBack_eq]
    dsimp only
    split
    next => simp
    next hnot => exact List.mem_append_left _ (Classical.not_not.1 fun hout => hnot ⟨hcmd, hout⟩)
  · rw [line, SeatLine.rested_frame hf, SeatLine.handBack_eq, SeatLine.module]
    dsimp only
    rw [if_pos hcmd]
    simp [hmodules]
  · rw [line, SeatLine.rested_frame hf, SeatLine.handBack_eq]
    exact if_neg hcmd
  · rw [line, SeatLine.rested_frame hf, SeatLine.handBack_eq]
    exact if_neg hcmd
  · show d.reportsA = _ ∧ d.reportsB = _
    rw [dcoach, if_pos hstuck, Coach.clearFault, if_pos (noneStuck.2 hnone), Coach.flagBoth, Coach.restLine, reportsA, reportsB]
    exact ⟨rfl, rfl⟩
  · show d.reportsA = _ ∧ d.reportsB = _
    rw [dcoach]
    split
    next hstuck =>
      obtain ⟨k, hk, hkstuck⟩ := hother.resolve_left (by simp [SeatLine.running, hstuck])
      rw [Coach.clearFault, if_neg fun hnone => noneStuck.1 hnone k hk hkstuck]
      exact ⟨reportsA, reportsB⟩
    next => exact ⟨reportsA, reportsB⟩
  · exact Coach.leaveRun_journey _ _ _ _
  · exact Coach.leaveRun_position _ _ _ _
  · exact Coach.leaveRun_notices _ _ _ _

/-! ## The stuck watch (R114) -/

theorem exec_lineStuck {s : State} (h : s.inReset = false) (i : Fin 4) : exec (.lineStuck i) s = .next (if (s.coach.lines.get i).running then
    ((s.setLevel i .dominant).runTo ((s.coach.lines.get i).stuckAt s.now)).onCoach fun e c => c.stick e i else s) :=
  exec_of_live h (f := fun s => if (s.coach.lines.get i).running then
    ((s.setLevel i .dominant).runTo ((s.coach.lines.get i).stuckAt s.now)).onCoach fun e c => c.stick e i else s) rfl

theorem exec_stuckRelease {s : State} (h : s.inReset = false) (i : Fin 4) :
    exec (.stuckRelease i) s = .next (if (s.coach.lines.get i).activity = .stuck then
      ((s.setLevel i .recessive).runTo ((s.coach.lines.get i).freeAt (s.levels.get i) s.now)).onCoach fun e c => c.unstick e i else s) :=
  exec_of_live h (f := fun s => if (s.coach.lines.get i).activity = .stuck then
    ((s.setLevel i .recessive).runTo ((s.coach.lines.get i).freeAt (s.levels.get i) s.now)).onCoach fun e c => c.unstick e i else s) rfl

theorem exec_seatLineLevelChange {s : State} (h : s.inReset = false) (i : Fin 4) (v : Level) :
    exec (.seatLineLevelChange i v) s = .next (if s.levels.get i = v then s
      else (s.setLevel i v).onCoach fun e c => c.onLine i (SeatLine.levelChange e.now v)) :=
  exec_of_live h (f := fun s => if s.levels.get i = v then s
    else (s.setLevel i v).onCoach fun e c => c.onLine i (SeatLine.levelChange e.now v)) rfl

/-- The coach after the transfer in progress, if any, has failed. -/
def Coach.abandon (e : Env) (i : Fin 4) (c : Coach) : Coach :=
  match (c.lines.get i).activity with
  | .frame f => c.failTransfer e i f .lineStuck
  | _ => c

theorem Coach.abandon_frame {c : Coach} {i : Fin 4} {f : SeatFrame} (h : (c.lines.get i).activity = .frame f) (e : Env) :
    c.abandon e i = c.failTransfer e i f .lineStuck := by
  rw [Coach.abandon, h]

theorem Coach.abandon_idle {c : Coach} {i : Fin 4} (h : (c.lines.get i).activity = .idle) (e : Env) : c.abandon e i = c := by
  rw [Coach.abandon, h]

/-- A failed transfer leaves when the line has been dominant, and the rate. -/
theorem Coach.failTransfer_watch (e : Env) (i : Fin 4) (f : SeatFrame) (err : LineError) (c : Coach) :
    ((c.failTransfer e i f err).lines.get i).dominantSince = (c.lines.get i).dominantSince
    ∧ ((c.failTransfer e i f err).lines.get i).bitRate = (c.lines.get i).bitRate := by
  obtain ⟨g, line⟩ := c.countFailure_line e i f err
  rw [Coach.failTransfer_eq, Coach.onLine_same, SeatLine.returned_frame, line]
  exact ⟨rfl, rfl⟩

theorem Coach.abandon_watch (e : Env) (i : Fin 4) (c : Coach) : ((c.abandon e i).lines.get i).dominantSince = (c.lines.get i).dominantSince
    ∧ ((c.abandon e i).lines.get i).bitRate = (c.lines.get i).bitRate := by
  unfold Coach.abandon
  split
  · exact Coach.failTransfer_watch _ _ _ _ _
  · exact ⟨rfl, rfl⟩

theorem Coach.abandon_kept (e : Env) (i : Fin 4) (c : Coach) :
    (c.abandon e i).journey = c.journey ∧ (c.abandon e i).position = c.position ∧ (c.abandon e i).sensors.length = c.sensors.length := by
  unfold Coach.abandon
  split
  next f _ =>
    refine ⟨by simp, by simp, ?_⟩
    rw [Coach.failTransfer_eq, Coach.onLine_sensors]
    by_cases hnames : f.cmd = .names
    · rw [Coach.countFailure_names hnames]
    · rw [Coach.countFailure_eq hnames]
      split
      · exact (Coach.putPlaces_length e Sensor.lost _ _)
      · rfl
  next => exact ⟨rfl, rfl, rfl⟩

/-- A line that is found stuck. -/
def SeatLine.stuck (now : Nat) (l : SeatLine) : SeatLine :=
  { l with
    activity := .stuck, serviceNext := false, dominantSince := some (l.dominantSince.getD (now - 30 * l.bitRate.period))
    modules := l.modules.map wake }

theorem Coach.stick_eq (e : Env) (i : Fin 4) (c : Coach) :
    c.stick e i = (((c.abandon e i).onLine i (SeatLine.stuck e.now)).loseLine e i).flagBoth .seatLineFault true := by
  have found : (match c.frameOn i with
      | some f => c.failTransfer e i f .lineStuck
      | none => c) = c.abandon e i := by
    unfold Coach.abandon Coach.frameOn
    cases (c.lines.get i).activity <;> rfl
  exact congrArg (fun d : Coach => ((d.onLine i (SeatLine.stuck e.now)).loseLine e i).flagBoth .seatLineFault true) found

theorem SeatLine.stuck_module (now : Nat) (l : SeatLine) (m : Fin 16) : (l.stuck now).module m = wake (l.module m) := by
  have absent : wake {} = {} := rfl
  rw [SeatLine.module, SeatLine.module, SeatLine.stuck, List.getD_eq_getElem?_getD, List.getElem?_map, List.getD_eq_getElem?_getD]
  cases l.modules[m.val]? <;> rfl

theorem wake_cases (x : Module) : (x.health = .healthy → wake x = { x with health := .waking, failures := 0, identPending := true })
    ∧ (x.health ≠ .healthy → wake x = x) ∧ (wake x).health ≠ .healthy := by
  unfold wake
  split
  next h => exact ⟨fun _ => rfl, fun hne => absurd h hne, nofun⟩
  next h => exact ⟨fun heq => absurd heq h, fun _ => rfl, h⟩

theorem BitRate.period_pos (b : BitRate) : 0 < b.period := by
  cases b <;> decide

/-- At the end of 30 bit times the dominant run has reached 30. -/
theorem SeatLine.stuck_run {l : SeatLine} {t : Nat} (hsome : ∀ d, l.dominantSince = some d → d + 30 * l.bitRate.period ≤ t)
    (hnone : 30 * l.bitRate.period ≤ t) (g : List (Fin 16)) : SeatLine.dominantRun { l.stuck t with showQueue := g } t = 30 := by
  have since : (l.dominantSince.getD (t - 30 * l.bitRate.period)) + 30 * l.bitRate.period ≤ t := by
    cases hd : l.dominantSince with
    | some d => exact hsome d hd
    | none =>
      show t - 30 * l.bitRate.period + 30 * l.bitRate.period ≤ t
      omega
  show min 30 ((t - l.dominantSince.getD (t - 30 * l.bitRate.period)) / l.bitRate.period) = 30
  rw [Nat.min_eq_left]
  rw [Nat.le_div_iff_mul_le l.bitRate.period_pos]
  omega

/-! ## Changes of level (R113 to R115) -/

theorem SeatLine.firstDriven_break {l : SeatLine} (f : SeatFrame) {n : Nat} (h : n ≤ l.breakBits) : l.firstDriven f n = n := by
  cases n with
  | zero => rfl
  | succ n =>
    rw [SeatLine.firstDriven, if_neg]
    simp [SeatLine.drives]
    omega

/-- In its break the part itself drives no bit that counts. -/
theorem SeatLine.drivenSince_break {l : SeatLine} {f : SeatFrame} {now : Nat} (h : l.bitsPassed f now < l.breakBits) :
    l.drivenSince f now = none := by
  rw [SeatLine.drivenSince, SeatLine.firstDriven_break f (Nat.le_of_lt h)]
  refine if_neg ?_
  simp [SeatLine.drives]
  omega

theorem SeatLine.hear_break {l : SeatLine} {f : SeatFrame} {now : Nat} (h : l.bitsPassed f now < l.breakBits) : l.hear now f = f := by
  refine if_neg fun hall => ?_
  have := hall.2.1
  rw [SeatLine.openingBits] at this
  omega

theorem SeatLine.levelChange_dominant {l : SeatLine} {g : LineActivity} {since : Option Nat} {now : Nat} (hhear : l.hearing now = g)
    (hsince : (if l.running then some (l.watchFrom now) else none) = since) :
    l.levelChange now .dominant = { l with activity := g, dominantSince := since } := by
  rw [SeatLine.levelChange, hhear, hsince]

theorem SeatLine.hearing_frame {l : SeatLine} {f : SeatFrame} (h : l.activity = .frame f) (now : Nat) : l.hearing now = .frame (l.hear now f) := by
  rw [SeatLine.hearing, h]

theorem SeatLine.watchFrom_frame {l : SeatLine} {f : SeatFrame} (h : l.activity = .frame f) (now : Nat) :
    l.watchFrom now = (l.drivenSince f now).getD (max now (f.start + l.breakBits * l.bitRate.period)) := by
  rw [SeatLine.watchFrom, h]

theorem SeatLine.watchFrom_idle {l : SeatLine} (h : l.activity = .idle) (now : Nat) : l.watchFrom now = now := by
  rw [SeatLine.watchFrom, h]

theorem SeatLine.running_iff (l : SeatLine) : l.running = true ↔ l.activity = .idle ∨ ∃ f, l.activity = .frame f := by
  unfold SeatLine.running
  cases l.activity <;> simp

/-- What a line that goes dominant hears, and from when its run counts. -/
theorem SeatLine.levelChange_rules {l : SeatLine} {g : LineActivity} {since : Option Nat} {now : Nat}
    (h : (l.activity = .idle ∧ g = .idle ∧ since = some now)
      ∨ (l.running = false ∧ g = l.activity ∧ since = none)
      ∨ (∃ f, l.activity = .frame f ∧ (now - f.start) / l.bitRate.period < l.breakBits ∧ g = .frame f
          ∧ since = some (f.start + l.breakBits * l.bitRate.period))
      ∨ (∃ f, l.activity = .frame f ∧ f.start ≤ now ∧ l.breakBits ≤ (now - f.start) / l.bitRate.period ∧ g = .frame (l.hear now f)
          ∧ since = some ((l.drivenSince f now).getD now))) :
    l.levelChange now .dominant = { l with activity := g, dominantSince := since } := by
  have positive := l.bitRate.period_pos
  rcases h with ⟨hidle, rfl, rfl⟩ | ⟨hrest, rfl, rfl⟩ | ⟨f, hf, hbreak, rfl, rfl⟩ | ⟨f, hf, hstart, hafter, rfl, rfl⟩
  · refine SeatLine.levelChange_dominant ?_ ?_
    · rw [SeatLine.hearing, hidle]
    · rw [if_pos ((SeatLine.running_iff l).2 (.inl hidle)), SeatLine.watchFrom_idle hidle]
  · refine SeatLine.levelChange_dominant ?_ ?_
    · unfold SeatLine.hearing
      split
      next f hf => simp [SeatLine.running, hf] at hrest
      next => rfl
    · rw [hrest]
      rfl
  · have early : now < f.start + l.breakBits * l.bitRate.period := by
      have := (Nat.div_lt_iff_lt_mul positive).1 hbreak
      omega
    refine SeatLine.levelChange_dominant ?_ ?_
    · rw [SeatLine.hearing_frame hf, SeatLine.hear_break hbreak]
    · rw [if_pos ((SeatLine.running_iff l).2 (.inr ⟨f, hf⟩)), SeatLine.watchFrom_frame hf, SeatLine.drivenSince_break hbreak, Option.getD_none,
        Nat.max_eq_right (Nat.le_of_lt early)]
  · have late : f.start + l.breakBits * l.bitRate.period ≤ now := by
      have := (Nat.le_div_iff_mul_le positive).1 hafter
      omega
    refine SeatLine.levelChange_dominant ?_ ?_
    · rw [SeatLine.hearing_frame hf]
    · rw [if_pos ((SeatLine.running_iff l).2 (.inr ⟨f, hf⟩)), SeatLine.watchFrom_frame hf, Nat.max_eq_left late]

theorem Coach.flagBoth_reports (k : Condition) (v : Bool) (c : Coach) (p : LinePort) : (c.flagBoth k v).reports p = (c.reports p).put k v := by
  cases p <;> rfl

theorem State.withCoach_env (c : Coach) (s : State) : { s with coach := c }.env = s.env := rfl

/-- What a line found stuck leaves of a coach. -/
theorem Coach.stick_rules {c : Coach} (h : c.sensors.length = 128) (e : Env) (i : Fin 4) :
    (∃ g, (c.stick e i).lines.get i = { ((c.abandon e i).lines.get i).stuck e.now with
      showQueue := ((c.abandon e i).lines.get i).showQueue ++ g })
    ∧ (c.stick e i).seats = ((c.abandon e i).putPlaces e Sensor.lost (linePlaces i)).seats
    ∧ (c.stick e i).sensors = ((c.abandon e i).putPlaces e Sensor.lost (linePlaces i)).sensors
    ∧ ∀ p, (c.stick e i).reports p
      = { (c.abandon e i).reports p with flags := { ((c.abandon e i).reports p).flags with seatLineFault := true } } := by
  obtain ⟨-, -, length⟩ := c.abandon_kept e i
  obtain ⟨seats, sensors, told, ⟨g, own⟩, -⟩ := Coach.loseLine_onLine (length.trans h) e i (SeatLine.stuck e.now)
  rw [Coach.stick_eq]
  rw [Coach.flagBoth_seats, Coach.flagBoth_sensors, Coach.flagBoth_lines]
  refine ⟨⟨g, own⟩, seats, sensors, fun p => ?_⟩
  · have same : (((c.abandon e i).onLine i (SeatLine.stuck e.now)).loseLine e i).reports p = (c.abandon e i).reports p := told p
    rw [← same, Coach.flagBoth_reports]
    rfl

/-- A line found stuck at the moment that its run reaches 30. -/
theorem SeatLine.stuckAt_run {l : SeatLine} {now t : Nat} (h : t = max now (l.stuckAt now)) :
    (∀ d, l.dominantSince = some d → d + 30 * l.bitRate.period ≤ t) ∧ 30 * l.bitRate.period ≤ t := by
  subst h
  refine ⟨fun d hd => ?_, ?_⟩
  · rw [SeatLine.stuckAt, hd]
    exact Nat.le_max_right _ _
  · refine Nat.le_trans ?_ (Nat.le_max_right _ _)
    rw [SeatLine.stuckAt]
    omega

/-- Settles O41: the line found stuck, its release, and the changes of its level. -/
theorem stuckWatchAndLevels : Obligations.StuckWatchAndLevels := by
  rintro s i l hlive rfl hsensors hmodules
  refine ⟨fun hrest => ?_, fun hruns => ?_, fun hfree => ?_, fun hstuck => ?_, fun hdominant => ?_, fun g since hrecessive hrule => ?_, ?_⟩
  · rw [exec_lineStuck hlive, if_neg]
    rw [SeatLine.running_iff]
    rcases hrest with h | h | h <;> simp [h]
  · obtain ⟨u, hu⟩ : ∃ u, u = (s.setLevel i .dominant).runTo ((s.coach.lines.get i).stuckAt s.now) := ⟨_, rfl⟩
    have ucoach : u.coach = s.coach := by rw [hu]; rfl
    have now : u.now = max s.now ((s.coach.lines.get i).stuckAt s.now) := by rw [hu]; rfl
    obtain ⟨journey, position, length⟩ := s.coach.abandon_kept u.env i
    obtain ⟨dominantSince, bitRate⟩ := s.coach.abandon_watch u.env i
    obtain ⟨⟨g, own⟩, seats, sensors, reports⟩ := Coach.stick_rules hsensors u.env i
    obtain ⟨runSome, runNone⟩ := SeatLine.stuckAt_run now
    have modules : ∀ m, ((s.coach.stick u.env i).lines.get i).module m = wake (((s.coach.abandon u.env i).lines.get i).module m) := fun m => by
      rw [own]
      exact SeatLine.stuck_module u.env.now _ m
    have sensor : ∀ m p, (s.coach.stick u.env i).sensor ⟨i, m, p⟩ = Sensor.lost := fun m p => by
      rw [Coach.sensor_congr sensors, Coach.loseLine_sensor (length.trans hsensors)]
      exact if_pos rfl
    refine ⟨{ u with coach := s.coach.stick u.env i }, ?_, ?_, ?_, ?_, ?_, ?_, ?_, ?_, fun d hd => ?_, fun hnone hidle => ?_,
      ⟨s.coach.abandon u.env i, fun hidle => Coach.abandon_idle hidle _,
        fun f hf => (Coach.abandon_frame hf u.env).trans
          (congrArg (fun e => s.coach.failTransfer e i f .lineStuck) (State.withCoach_env _ u).symm),
        fun m x hx => ⟨fun hhealthy => ?_, fun hhealthy => ?_⟩, ⟨_, (Coach.putPlaces_line u.env i _).trans
          (congrArg (fun e => List.foldl (Coach.losePlace e) _ _) (State.withCoach_env _ u).symm), seats, sensors⟩, reports⟩, ?_, fun m => ?_, sensor, ?_, ?_, ?_, ?_⟩
    · rw [exec_lineStuck hlive, if_pos ((SeatLine.running_iff _).2 hruns), ← hu, State.onCoach, ucoach]
    · rw [hu]; rfl
    · rw [hu]; rfl
    · rw [hu]; rfl
    · rw [hu]; rfl
    · rw [hu]; rfl
    · rw [hu]; rfl
    · rw [own]; rfl
    · refine now.trans ?_
      rw [SeatLine.stuckAt, hd]
      rfl
    · refine now.trans ?_
      rw [SeatLine.stuckAt, hnone, SeatLine.watchFrom_idle hidle, Option.getD_none]
      omega
    · exact (modules m).trans (hx ▸ (wake_cases x).1 hhealthy)
    · exact (modules m).trans (hx ▸ (wake_cases x).2.1 hhealthy)
    · rw [own]
      refine SeatLine.stuck_run (fun d hd => ?_) ?_ _
      · rw [bitRate]
        exact runSome d (dominantSince ▸ hd)
      · rw [bitRate]
        exact runNone
    · rw [modules m]
      exact (wake_cases _).2.2
    · exact congrArg (fun r : PortReports => r.flags.seatLineFault) (reports .a)
    · exact congrArg (fun r : PortReports => r.flags.seatLineFault) (reports .b)
    · exact Coach.stick_journey _ _ _
    · exact Coach.stick_position _ _ _
  · rw [exec_stuckRelease hlive, if_neg hfree]
  · obtain ⟨u, hu⟩ : ∃ u, u = (s.setLevel i .recessive).runTo ((s.coach.lines.get i).freeAt (s.levels.get i) s.now) := ⟨_, rfl⟩
    have ucoach : u.coach = s.coach := by rw [hu]; rfl
    let freed := s.coach.onLine i fun l => { l with round := 0, dominantSince := none }.toIdle u.env.now
    have noneStuck : freed.noneStuck = true ↔ ∀ k, k ≠ i → (s.coach.lines.get k).activity ≠ .stuck := by
      refine Coach.noneStuck_of (c := s.coach) (i := i) ?_ fun k hk => ?_
      · rw [Coach.onLine_same]
        exact nofun
      · rw [Coach.onLine_other hk]
    refine ⟨{ u with coach := freed.clearFault }, ?_, ?_, ?_, ?_, ?_, ?_, fun hnone => ?_, fun hother => ?_⟩
    · rw [exec_stuckRelease hlive, if_pos hstuck, ← hu, State.onCoach, ucoach]
      rfl
    · show u.now = _
      rw [hu]
      rfl
    · exact Coach.clearFault_lines freed
    · exact Coach.clearFault_sensors freed
    · exact Coach.clearFault_seats freed
    · exact Coach.clearFault_journey freed
    · rw [Coach.clearFault, if_pos (noneStuck.2 hnone)]
      exact ⟨rfl, rfl⟩
    · obtain ⟨k, hk, hkstuck⟩ := hother
      rw [Coach.clearFault, if_neg fun hnone => noneStuck.1 hnone k hk hkstuck]
      exact ⟨rfl, rfl⟩
  · rw [exec_seatLineLevelChange hlive, if_neg (by simp [hdominant])]
    rfl
  · rw [exec_seatLineLevelChange hlive, if_neg (by simp [hrecessive])]
    exact congrArg (fun l => Host.Outcome.next { s with
      levels := s.levels.set i .dominant, coach := { s.coach with lines := s.coach.lines.set i l } }) (SeatLine.levelChange_rules hrule)
  · rw [exec_seatLineLevelChange hlive, if_pos rfl]

end Sys2Proof.Machine
end

section
/-! # Responses of modules (6.3, 6.5) -/
namespace Sys2Proof.Machine

/-! ## A success on a module (R120, R121) -/

/-- A module that a success takes to HEALTHY. -/
abbrev Module.Recovers (x : Module) : Prop := x.health = .waking ∨ x.health = .faulty

/-- The module record after a success of the transfer of a frame. -/
def Module.succeeded (f : SeatFrame) (x : Module) : Module :=
  if x.Recovers then { x with health := .healthy, failures := 0, levelPending := true, identPending := x.identPending || f.cmd != .ident }
  else { x with failures := 0 }

/-- The line after a success of the transfer of a frame, with a list of a number of records. -/
def SeatLine.succeeded (f : SeatFrame) (count : Nat) (l : SeatLine) : SeatLine :=
  { (if (l.module f.module).Recovers then (l.queueShow f.module).markStale count else l) with
    modules := l.modules.set f.module.val ((l.module f.module).succeeded f) }

/-- The coach whose places present are reseeded where the module recovers. -/
def Coach.reseededFor (e : Env) (i : Fin 4) (f : SeatFrame) (c : Coach) : Coach :=
  if ((c.lines.get i).module f.module).Recovers then c.putPlaces e Sensor.reseeded (presentPlaces i f.module ((c.lines.get i).module f.module)) else c

theorem SeatLine.queueShow_modules (l : SeatLine) (m : Fin 16) : (l.queueShow m).modules = l.modules := by
  obtain ⟨g, hg⟩ := l.queueShow_grows m
  rw [hg]

theorem SeatLine.onModule_twice {l : SeatLine} (h : l.modules.length = 16) (m : Fin 16) (f g : Module → Module) :
    (l.onModule m f).onModule m g = { l with modules := l.modules.set m.val (g (f (l.module m))) } := by
  rw [SeatLine.onModule, SeatLine.onModule_same h]
  simp [SeatLine.setModule, SeatLine.onModule]

/-- The reseeded coach has the line but for its SHOW queue. -/
theorem Coach.reseededFor_line (e : Env) (i : Fin 4) (f : SeatFrame) (c : Coach) :
    ∃ g, (c.reseededFor e i f).lines.get i = { c.lines.get i with showQueue := (c.lines.get i).showQueue ++ g } := by
  unfold Coach.reseededFor
  split
  · exact (Coach.putPlaces_onlyPlaces e Sensor.reseeded _ c).line i
  · exact (Coach.OnlyPlaces.refl c).line i

theorem Coach.reseededFor_module (e : Env) (i : Fin 4) (f : SeatFrame) (c : Coach) (m : Fin 16) :
    ((c.reseededFor e i f).lines.get i).module m = (c.lines.get i).module m := by
  obtain ⟨g, hg⟩ := c.reseededFor_line e i f
  rw [hg]
  rfl

theorem Coach.reseededFor_onlyPlaces (e : Env) (i : Fin 4) (f : SeatFrame) (c : Coach) : c.OnlyPlaces (c.reseededFor e i f) := by
  unfold Coach.reseededFor
  split
  · exact Coach.putPlaces_onlyPlaces e Sensor.reseeded _ c
  · exact .refl c

theorem Coach.reseededFor_tells {c : Coach} (h : c.sensors.length = 128) (e : Env) (i : Fin 4) (f : SeatFrame) : c.Tells e [] (c.reseededFor e i f) := by
  unfold Coach.reseededFor
  split
  · exact Coach.putPlaces_tells h e rfl _
  · exact .silent rfl rfl

theorem Coach.reseededFor_length (e : Env) (i : Fin 4) (f : SeatFrame) (c : Coach) : (c.reseededFor e i f).sensors.length = c.sensors.length := by
  unfold Coach.reseededFor
  split
  · exact Coach.putPlaces_length e Sensor.reseeded _ c
  · rfl

theorem Coach.reseededFor_report (e : Env) (i : Fin 4) (f : SeatFrame) (c : Coach) (kind : ReportKind) :
    (c.reseededFor e i f).moduleReport kind i f.module = c.moduleReport kind i f.module := by
  refine Coach.moduleReport_congr ?_ ?_ kind i f.module
  · unfold Coach.reseededFor
    split
    · exact Coach.putPlaces_mapped e _ _ c
    · rfl
  · rw [(c.reseededFor_onlyPlaces e i f).1]

/-- The coach after a success, before its report. -/
def Coach.back (e : Env) (i : Fin 4) (f : SeatFrame) (c : Coach) : Coach :=
  (c.reseededFor e i f).onLine i (SeatLine.succeeded f c.journey.list.length)

theorem SeatLine.succeeded_recovers {l : SeatLine} {f : SeatFrame} (h : l.modules.length = 16) (hrecovers : (l.module f.module).Recovers)
    (count : Nat) : (((l.queueShow f.module).onModule f.module fun y =>
        { y with health := .healthy, levelPending := true, identPending := y.identPending || f.cmd != .ident }).markStale count).onModule f.module
        (fun x => { x with failures := 0 }) = l.succeeded f count := by
  have same : (l.queueShow f.module).module f.module = l.module f.module := by
    rw [SeatLine.module, SeatLine.queueShow_modules, SeatLine.module]
  have length : (l.queueShow f.module).modules.length = 16 := by rwa [SeatLine.queueShow_modules]
  have twice := SeatLine.onModule_twice length f.module (fun y =>
    { y with health := .healthy, levelPending := true, identPending := y.identPending || f.cmd != .ident }) (fun x => { x with failures := 0 })
  rw [same, SeatLine.queueShow_modules] at twice
  rw [SeatLine.succeeded, if_pos hrecovers, Module.succeeded, if_pos hrecovers]
  exact congrArg (fun l : SeatLine => l.markStale count) twice

theorem Coach.onLine_twice (i : Fin 4) (f g : SeatLine → SeatLine) (c : Coach) :
    (c.onLine i f).onLine i g = { c with lines := c.lines.set i (g (f (c.lines.get i))) } := by
  rw [Coach.onLine, Coach.onLine_same, Coach.onLine, Quad.set_set]

theorem Coach.raise_onLine (e : Env) (r : Report) (i : Fin 4) (g : SeatLine → SeatLine) (c : Coach) :
    (c.raise e r).onLine i g = (c.onLine i g).raise e r := rfl

theorem Coach.onLine_report (i : Fin 4) (g : SeatLine → SeatLine) (c : Coach) (kind : ReportKind) (m : Fin 16) :
    (c.onLine i g).moduleReport kind i m = c.moduleReport kind i m := rfl

/-- The line of a module that recovers, before its failure count is cleared. -/
def SeatLine.recovering (f : SeatFrame) (count : Nat) (l : SeatLine) : SeatLine :=
  ((l.queueShow f.module).onModule f.module fun y =>
    { y with health := .healthy, levelPending := true, identPending := y.identPending || f.cmd != .ident }).markStale count

theorem Coach.recover_eq {c : Coach} {i : Fin 4} {f : SeatFrame} (h : ((c.lines.get i).module f.module).Recovers) (e : Env) : c.recover e i f
    = if ((c.lines.get i).module f.module).health = .faulty then
        ((c.reseededFor e i f).onLine i (SeatLine.recovering f c.journey.list.length)).raise e (c.moduleReport .moduleRecovered i f.module)
      else (c.reseededFor e i f).onLine i (SeatLine.recovering f c.journey.list.length) := by
  have journey : (c.reseededFor e i f).journey = c.journey := by rw [(c.reseededFor_onlyPlaces e i f).1]
  rw [← c.reseededFor_report e i f, ← Coach.onLine_report i (SeatLine.recovering f c.journey.list.length), ← journey, Coach.reseededFor, if_pos h]
  exact if_pos h

/-- A success: the places reseeded, the line with its module record, and the report of a FAULTY module that recovers. -/
theorem Coach.succeed_eq {c : Coach} {i : Fin 4} (h : (c.lines.get i).modules.length = 16) (e : Env) (f : SeatFrame) : c.succeed e i f
    = if ((c.lines.get i).module f.module).health = .faulty then (c.back e i f).raise e (c.moduleReport .moduleRecovered i f.module)
      else c.back e i f := by
  obtain ⟨g, line⟩ := c.reseededFor_line e i f
  have modules : ((c.reseededFor e i f).lines.get i).modules.length = 16 := by rwa [line]
  by_cases hrecovers : ((c.lines.get i).module f.module).Recovers
  · have cleared : ((c.reseededFor e i f).onLine i (SeatLine.recovering f c.journey.list.length)).onLine i
        (fun l => l.onModule f.module fun x => { x with failures := 0 }) = c.back e i f := by
      rw [Coach.onLine_twice, SeatLine.recovering,
        SeatLine.succeeded_recovers modules (by rwa [Coach.reseededFor_module]) c.journey.list.length, Coach.back, Coach.onLine]
    rw [Coach.succeed, Coach.recover_eq hrecovers]
    split
    · rw [Coach.raise_onLine, cleared]
    · exact cleared
  · have healthy : ((c.lines.get i).module f.module).health ≠ .faulty := fun hfaulty => hrecovers (.inr hfaulty)
    have stays : c.recover e i f = c := if_neg hrecovers
    rw [Coach.succeed, stays, if_neg healthy, Coach.back, Coach.reseededFor, if_neg hrecovers, Coach.onLine, Coach.onLine, SeatLine.succeeded,
      if_neg hrecovers, Module.succeeded, if_neg hrecovers]
    rfl

/-! ## The line and the coach after a success -/

/-- The coach after a success. -/
def Coach.recovered (e : Env) (i : Fin 4) (f : SeatFrame) (c : Coach) : Coach :=
  if ((c.lines.get i).module f.module).health = .faulty then (c.back e i f).raise e (c.moduleReport .moduleRecovered i f.module) else c.back e i f

theorem SeatLine.succeeded_frame (f : SeatFrame) (count : Nat) (l : SeatLine) : l.succeeded f count = { l with
    modules := l.modules.set f.module.val ((l.module f.module).succeeded f)
    stale := (l.succeeded f count).stale, showQueue := (l.succeeded f count).showQueue } := by
  obtain ⟨g, hg⟩ := l.queueShow_grows f.module
  unfold SeatLine.succeeded
  split
  · rw [hg]
    rfl
  · rfl

theorem nameBlocks_bit {count b : Nat} (hb : b < 16) : (nameBlocks count).getLsbD b = true ↔ 4 * b < count := by
  unfold nameBlocks
  split
  next h => simp [h]
  next h =>
    rw [BitVec.getLsbD_ofNat]
    simp only [hb, decide_true, Bool.true_and, Nat.testBit_two_pow_sub_one, decide_eq_true_eq]
    omega

theorem SeatLine.succeeded_stale (f : SeatFrame) (count : Nat) (l : SeatLine) {b : Nat} (hb : b < 16) :
    (l.succeeded f count).stale.getLsbD b = true ↔ l.stale.getLsbD b = true ∨ ((l.module f.module).Recovers ∧ 4 * b < count) := by
  obtain ⟨g, hg⟩ := l.queueShow_grows f.module
  unfold SeatLine.succeeded
  split
  next h =>
    rw [hg]
    simp only [SeatLine.markStale, BitVec.getLsbD_or, Bool.or_eq_true, nameBlocks_bit hb, h, true_and]
  next h => simp only [h, false_and, or_false]

theorem SeatLine.succeeded_showQueue (f : SeatFrame) (count : Nat) (l : SeatLine) : (l.succeeded f count).showQueue
    = if (l.module f.module).Recovers ∧ f.module.val < l.moduleCount ∧ f.module ∉ l.showQueue then l.showQueue ++ [f.module] else l.showQueue := by
  unfold SeatLine.succeeded SeatLine.queueShow
  by_cases hrecovers : (l.module f.module).Recovers
  · by_cases hserved : f.module.val < l.moduleCount ∧ f.module ∉ l.showQueue
    · rw [if_pos hrecovers, if_pos hserved, if_pos ⟨hrecovers, hserved⟩]
      rfl
    · rw [if_pos hrecovers, if_neg hserved, if_neg fun h => hserved h.2]
      rfl
  · rw [if_neg hrecovers, if_neg fun h => hrecovers h.1]

theorem Coach.recovered_lines (e : Env) (i : Fin 4) (f : SeatFrame) (c : Coach) : (c.recovered e i f).lines = (c.back e i f).lines := by
  unfold Coach.recovered
  split
  · exact Coach.raise_lines _ _ _
  · rfl

theorem Coach.recovered_sensors (e : Env) (i : Fin 4) (f : SeatFrame) (c : Coach) : (c.recovered e i f).sensors = (c.reseededFor e i f).sensors := by
  unfold Coach.recovered
  split
  · exact Coach.raise_sensors _ _ _
  · rfl

/-- The line after a success: its record of the module, and otherwise what the reseeded coach has. -/
theorem Coach.recovered_line (e : Env) (i : Fin 4) (f : SeatFrame) (c : Coach) :
    (c.recovered e i f).lines.get i = ((c.reseededFor e i f).lines.get i).succeeded f c.journey.list.length := by
  rw [Coach.recovered_lines, Coach.back, Coach.onLine_same]

/-- The reports of a success. -/
def Coach.successReports (i : Fin 4) (f : SeatFrame) (c : Coach) : List Report :=
  if ((c.lines.get i).module f.module).health = .faulty then [c.moduleReport .moduleRecovered i f.module] else []

theorem Coach.recovered_tells {c : Coach} (h : c.sensors.length = 128) (e : Env) (i : Fin 4) (f : SeatFrame) :
    c.Tells e (c.successReports i f) (c.recovered e i f) := by
  have silent := (c.reseededFor_tells h e i f).trans (Coach.onLine_tells e i (SeatLine.succeeded f c.journey.list.length) _)
  unfold Coach.recovered Coach.successReports
  split
  · exact silent.trans (Coach.Tells.raise e _ _)
  · exact silent

/-- The module record that a line has in a coach with the line of a success but for SHOW queues. -/
theorem SeatLine.succeeded_module (f : SeatFrame) (x : Module) : (x.succeeded f).places = x.places ∧ (x.succeeded f).kind = x.kind := by
  unfold Module.succeeded
  split <;> exact ⟨rfl, rfl⟩

/-- The slot ends on a coach whose line is that of the start but for its module record, its SHOW queue and its stale blocks. -/
theorem Coach.endSlot_left {d : Coach} {i : Fin 4} {l : SeatLine} {f : SeatFrame} {ms : List Module} (hquery : f.cmd.isQuery = true)
    (hround : (d.lines.get i).round = l.round) (hcount : (d.lines.get i).moduleCount = l.moduleCount) (hmodules : (d.lines.get i).modules = ms)
    (e : Env) : d.endSlot e i f = { d with lines := d.lines.set i { d.lines.get i with
      activity := .idle, recessiveSince := e.now, round := if l.round + 1 < l.moduleCount then l.round + 1 else 0, modules := ms } } := by
  rw [Coach.endSlot, Coach.onLine, SeatLine.advance_query hquery, ← hround, ← hcount, ← hmodules]
  rfl

/-- The samples of a POLL, place by place. -/
def Coach.sampled (e : Env) (c0 c1 : BitVec 16) (ps : List PlaceId) (d : Coach) : Coach :=
  (ps.zip [c0, c1]).foldl (fun d y => d.samplePlace e y.2.toNat y.1) d

theorem Coach.sampled_present (e : Env) (c0 c1 : BitVec 16) (i : Fin 4) (m : Fin 16) (x : Module) (d : Coach) :
    d.sampled e c0 c1 (presentPlaces i m x) = if x.places = some 1 then d.samplePlace e c0.toNat ⟨i, m, 0⟩
      else (d.samplePlace e c0.toNat ⟨i, m, 0⟩).samplePlace e c1.toNat ⟨i, m, 1⟩ := by
  unfold presentPlaces
  split <;> rfl

theorem Coach.sampled_onlyPlaces (e : Env) (c0 c1 : BitVec 16) (ps : List PlaceId) (d : Coach) : d.OnlyPlaces (d.sampled e c0 c1 ps) := by
  unfold Coach.sampled
  generalize ps.zip [c0, c1] = ys
  induction ys generalizing d with
  | nil => exact .refl d
  | cons y ys ih => exact (d.changeSensor_onlyPlaces e y.1 _).trans (ih _)

/-- A POLL with a right check: the success, the samples, the end of the slot. -/
theorem Coach.pollEnds_right {c : Coach} {i : Fin 4} {f : SeatFrame} {c0 c1 : BitVec 16} {check : Byte} (hcheck : check = checkChar (pollChars f c0 c1))
    (h : (c.lines.get i).modules.length = 16) (e : Env) : c.pollEnds e i f c0 c1 check
      = ((c.recovered e i f).sampled e c0 c1 (presentPlaces i f.module ((c.lines.get i).module f.module))).endSlot e i f := by
  obtain ⟨g, line⟩ := c.reseededFor_line e i f
  have places : (((c.recovered e i f).lines.get i).module f.module).places = ((c.lines.get i).module f.module).places := by
    have modules : ((c.recovered e i f).lines.get i).modules
        = (c.lines.get i).modules.set f.module.val (((c.lines.get i).module f.module).succeeded f) := by
      rw [Coach.recovered_line, SeatLine.succeeded_frame, line]
      rfl
    rw [(SeatLine.module_of_set modules).1 h, (SeatLine.succeeded_module f _).1]
  rw [Coach.pollEnds, if_pos hcheck, Coach.sampled_present]
  dsimp only
  rw [Coach.succeed_eq h, ← Coach.recovered, places]

/-! ## The coach after a response -/

/-- The coach after the end of the slot, with a record of the module. -/
def Coach.slotEnded (e : Env) (i : Fin 4) (m : Fin 16) (l : SeatLine) (z : Module) (d : Coach) : Coach :=
  { d with lines := d.lines.set i { d.lines.get i with
    activity := .idle, recessiveSince := e.now, round := if l.round + 1 < l.moduleCount then l.round + 1 else 0
    modules := l.modules.set m.val z } }

/-- The line of a success but for its SHOW queue, in a coach of which only places have changed since. -/
theorem Coach.OnlyPlaces.recovered_line {e : Env} {i : Fin 4} {f : SeatFrame} {c d : Coach} (h : (c.recovered e i f).OnlyPlaces d) :
    (d.lines.get i).round = (c.lines.get i).round ∧ (d.lines.get i).moduleCount = (c.lines.get i).moduleCount
    ∧ (d.lines.get i).modules = (c.lines.get i).modules.set f.module.val (((c.lines.get i).module f.module).succeeded f)
    ∧ (d.lines.get i).stale = (((c.reseededFor e i f).lines.get i).succeeded f c.journey.list.length).stale
    ∧ ∃ g, (d.lines.get i).showQueue = (((c.reseededFor e i f).lines.get i).succeeded f c.journey.list.length).showQueue ++ g := by
  obtain ⟨g, line⟩ := h.line i
  obtain ⟨g', line'⟩ := c.reseededFor_line e i f
  rw [Coach.recovered_line] at line
  have frame := SeatLine.succeeded_frame f c.journey.list.length ((c.reseededFor e i f).lines.get i)
  rw [line]
  refine ⟨?_, ?_, ?_, rfl, g, rfl⟩
  · rw [frame, line']
  · rw [frame, line']
  · rw [frame, line']
    rfl

/-- A POLL with a right check. -/
theorem Coach.pollEnds_left {c : Coach} {i : Fin 4} {f : SeatFrame} {c0 c1 : BitVec 16} {check : Byte} (hcmd : f.cmd = .poll)
    (hcheck : check = checkChar (pollChars f c0 c1)) (h : (c.lines.get i).modules.length = 16) (e : Env) : c.pollEnds e i f c0 c1 check
      = ((c.recovered e i f).sampled e c0 c1 (presentPlaces i f.module ((c.lines.get i).module f.module))).slotEnded e i f.module (c.lines.get i)
        (((c.lines.get i).module f.module).succeeded f) := by
  obtain ⟨hround, hcount, hmodules, -, -⟩ := (Coach.sampled_onlyPlaces e c0 c1 (presentPlaces i f.module ((c.lines.get i).module f.module))
    (c.recovered e i f)).recovered_line
  rw [Coach.pollEnds_right hcheck h, Coach.endSlot_left (by rw [hcmd]; rfl) hround hcount hmodules, Coach.slotEnded]

/-- The places that an IDENT reseeds again: those present, where the kind or the place count recorded differs. -/
def identAgain (i : Fin 4) (m : Fin 16) (x : Module) (kind : Byte) (n : Nat) : List PlaceId :=
  if x.kind.isSome && (x.kind != some kind || x.places != some n) then presentPlaces i m { x with places := some n } else []

/-- The places that an IDENT changes. -/
def Coach.identified (e : Env) (i : Fin 4) (m : Fin 16) (n : Nat) (again : List PlaceId) (d : Coach) : Coach :=
  if n = 1 then (d.putPlaces e Sensor.reseeded again).losePlace e ⟨i, m, 1⟩ else d.putPlaces e Sensor.reseeded again

theorem Coach.identified_onlyPlaces (e : Env) (i : Fin 4) (m : Fin 16) (n : Nat) (again : List PlaceId) (d : Coach) :
    d.OnlyPlaces (d.identified e i m n again) := by
  have reseeded := d.putPlaces_onlyPlaces e Sensor.reseeded again
  unfold Coach.identified
  split
  · exact reseeded.trans (Coach.changeSensor_onlyPlaces e _ _ _)
  · exact reseeded

theorem Coach.takeIdent_eq {d : Coach} {i : Fin 4} {f : SeatFrame} {x : Module} (hx : (d.lines.get i).module f.module = x) (e : Env) (kind places : Byte) :
    d.takeIdent e i f kind places = (d.identified e i f.module (placeCount places) (identAgain i f.module x kind (placeCount places))).onLine i
      (SeatLine.onModule f.module fun z => { z with kind := some kind, places := some (placeCount places), identPending := false }) := by
  have reseeded : (if x.kind.isSome && (x.kind != some kind || x.places != some (placeCount places)) then
      (presentPlaces i f.module { x with kind := some kind, places := some (placeCount places), identPending := false }).foldl (Coach.reseedPlace e) d
      else d) = d.putPlaces e Sensor.reseeded (identAgain i f.module x kind (placeCount places)) := by
    unfold identAgain
    split <;> rfl
  rw [Coach.identified, ← reseeded, ← hx]
  rfl

theorem Coach.identEnds_left {c : Coach} {i : Fin 4} {f : SeatFrame} {kind places check : Byte} (hcmd : f.cmd = .ident)
    (hcheck : check = checkChar [addressChar f.module f.cmd, kind, places]) (h : (c.lines.get i).modules.length = 16) (e : Env) :
    c.identEnds e i f kind places check = ((c.recovered e i f).identified e i f.module (placeCount places)
        (identAgain i f.module ((c.lines.get i).module f.module) kind (placeCount places))).slotEnded e i f.module (c.lines.get i)
        { ((c.lines.get i).module f.module).succeeded f with kind := some kind, places := some (placeCount places), identPending := false } := by
  obtain ⟨-, -, modules, -, -⟩ := (Coach.OnlyPlaces.refl (c.recovered e i f)).recovered_line
  have record := (SeatLine.module_of_set modules).1 h
  have again : identAgain i f.module (((c.lines.get i).module f.module).succeeded f) kind (placeCount places)
      = identAgain i f.module ((c.lines.get i).module f.module) kind (placeCount places) := by
    obtain ⟨hplaces, hkind⟩ := SeatLine.succeeded_module f ((c.lines.get i).module f.module)
    unfold identAgain
    rw [hplaces, hkind]
    rfl
  obtain ⟨hround, hcount, hmodules, -, -⟩ := (Coach.identified_onlyPlaces e i f.module (placeCount places)
    (identAgain i f.module ((c.lines.get i).module f.module) kind (placeCount places)) (c.recovered e i f)).recovered_line
  rw [Coach.identEnds, if_pos hcheck, Coach.succeed_eq h, ← Coach.recovered, Coach.takeIdent_eq record, again, Coach.endSlot, Coach.onLine_twice,
    Coach.slotEnded, SeatLine.advance_query (by rw [hcmd]; rfl)]
  have own := (SeatLine.module_of_set hmodules).1 h
  simp only [SeatLine.onModule, SeatLine.setModule, SeatLine.toIdle, own, hmodules, List.set_set, hround, hcount]

/-! ## What the slot leaves -/

theorem Coach.slotEnded_line (e : Env) (i : Fin 4) (m : Fin 16) (l : SeatLine) (z : Module) (d : Coach) :
    (d.slotEnded e i m l z).lines.get i = { d.lines.get i with
      activity := .idle, recessiveSince := e.now, round := if l.round + 1 < l.moduleCount then l.round + 1 else 0
      modules := l.modules.set m.val z } := Quad.get_set_same _ _ _

theorem Coach.slotEnded_tells (e : Env) (i : Fin 4) (m : Fin 16) (l : SeatLine) (z : Module) (d : Coach) : d.Tells e [] (d.slotEnded e i m l z) :=
  .silent rfl rfl

theorem Coach.recovered_frame (e : Env) (i : Fin 4) (f : SeatFrame) (c : Coach) : (c.recovered e i f).journey = c.journey
    ∧ (c.recovered e i f).position = c.position ∧ (c.recovered e i f).sensors.length = c.sensors.length := by
  refine ⟨?_, ?_, by rw [Coach.recovered_sensors, Coach.reseededFor_length]⟩
  · have journey : (c.reseededFor e i f).journey = c.journey := by rw [(c.reseededFor_onlyPlaces e i f).1]
    unfold Coach.recovered
    split
    · exact journey
    · exact journey
  · have position : (c.reseededFor e i f).position = c.position := by rw [(c.reseededFor_onlyPlaces e i f).1]
    unfold Coach.recovered
    split
    · exact position
    · exact position

theorem Coach.OnlyPlaces.kept {c d : Coach} (h : c.OnlyPlaces d) : d.journey = c.journey ∧ d.position = c.position := by
  obtain ⟨hd, -⟩ := h
  rw [hd]
  exact ⟨rfl, rfl⟩

/-- What every response with a right check leaves of a coach. -/
theorem Coach.response_rules {c d : Coach} {e : Env} {i : Fin 4} {f : SeatFrame} {z : Module} (h : (c.lines.get i).modules.length = 16)
    (hd : (c.recovered e i f).OnlyPlaces d) :
    (∀ m, m ≠ f.module → ((d.slotEnded e i f.module (c.lines.get i) z).lines.get i).module m = (c.lines.get i).module m)
    ∧ ((d.slotEnded e i f.module (c.lines.get i) z).lines.get i).module f.module = z
    ∧ ((d.slotEnded e i f.module (c.lines.get i) z).lines.get i).activity = .idle
    ∧ ((d.slotEnded e i f.module (c.lines.get i) z).lines.get i).recessiveSince = e.now
    ∧ (((c.lines.get i).module f.module).Recovers → f.module.val < (c.lines.get i).moduleCount →
        f.module ∈ ((d.slotEnded e i f.module (c.lines.get i) z).lines.get i).showQueue)
    ∧ (∀ b, b < 16 → (((d.slotEnded e i f.module (c.lines.get i) z).lines.get i).stale.getLsbD b = true
        ↔ (c.lines.get i).stale.getLsbD b = true ∨ (((c.lines.get i).module f.module).Recovers ∧ 4 * b < c.journey.list.length)))
    ∧ (d.slotEnded e i f.module (c.lines.get i) z).journey = c.journey ∧ (d.slotEnded e i f.module (c.lines.get i) z).position = c.position := by
  obtain ⟨-, -, -, stale, g, queue⟩ := hd.recovered_line
  obtain ⟨g', line⟩ := c.reseededFor_line e i f
  obtain ⟨journey, position⟩ := hd.kept
  obtain ⟨journey', position', -⟩ := c.recovered_frame e i f
  have modules : ((d.slotEnded e i f.module (c.lines.get i) z).lines.get i).modules = (c.lines.get i).modules.set f.module.val z := by
    rw [Coach.slotEnded_line]
  obtain ⟨own, others⟩ := SeatLine.module_of_set modules
  refine ⟨others, own h, ?_, ?_, fun hrecovers hserved => ?_, fun b hb => ?_, journey.trans journey', position.trans position'⟩
  · rw [Coach.slotEnded_line]
  · rw [Coach.slotEnded_line]
  · rw [Coach.slotEnded_line]
    show f.module ∈ (d.lines.get i).showQueue
    rw [queue, SeatLine.succeeded_showQueue, Coach.reseededFor_module]
    refine List.mem_append_left _ ?_
    split
    next => simp
    next hnot =>
      refine Classical.byContradiction fun hout => ?_
      refine hnot ⟨hrecovers, ?_, hout⟩
      rw [line]
      exact hserved
  · rw [Coach.slotEnded_line]
    show (d.lines.get i).stale.getLsbD b = true ↔ _
    rw [stale, SeatLine.succeeded_stale _ _ _ hb, Coach.reseededFor_module, line]

/-- A sample of a place that is being reseeded raises no report and changes that place alone. -/
theorem Coach.samplePlace_reseeded {d : Coach} {p : PlaceId} (h : d.sensors.length = 128) (hp : d.sensor p = Sensor.reseeded) (e : Env) (n : Nat) :
    d.samplePlace e n p = d.setSensor p ⟨.settling, true, some (n * 256), some (n * 256), 0, 0⟩ := by
  rw [Coach.samplePlace, Coach.changeSensor_eq h, hp]
  rfl

theorem place_ne (i : Fin 4) (m : Fin 16) : (⟨i, m, 1⟩ : PlaceId) ≠ ⟨i, m, 0⟩ := by simp

/-- The samples of a module that recovers: its places take their first sample, and no report is raised. -/
theorem Coach.sampled_recovering {c : Coach} {i : Fin 4} {f : SeatFrame} (h : c.sensors.length = 128)
    (hrecovers : ((c.lines.get i).module f.module).Recovers) (e : Env) (c0 c1 : BitVec 16) :
    c.Tells e (c.successReports i f)
      ((c.recovered e i f).sampled e c0 c1 (presentPlaces i f.module ((c.lines.get i).module f.module)))
    ∧ ((c.recovered e i f).sampled e c0 c1 (presentPlaces i f.module ((c.lines.get i).module f.module))).sensor ⟨i, f.module, 0⟩
      = ⟨.settling, true, some (c0.toNat * 256), some (c0.toNat * 256), 0, 0⟩ := by
  have told := c.recovered_tells h e i f
  obtain ⟨-, -, length⟩ := c.recovered_frame e i f
  have sensor : ∀ k ∈ presentPlaces i f.module ((c.lines.get i).module f.module), (c.recovered e i f).sensor k = Sensor.reseeded := fun k hk => by
    rw [Coach.sensor_congr (Coach.recovered_sensors e i f c), Coach.reseededFor, if_pos hrecovers, Coach.putPlaces_sensor h, if_pos hk]
  have written : ∀ (d : Coach) p y, d.Tells e [] (d.setSensor p y) := fun d p y => .silent rfl rfl
  have first : (⟨i, f.module, 0⟩ : PlaceId) ∈ presentPlaces i f.module ((c.lines.get i).module f.module) := by
    unfold presentPlaces
    split <;> simp [bothPlaces]
  have sampled := Coach.samplePlace_reseeded (length.trans h) (sensor _ first) e c0.toNat
  rw [Coach.sampled_present, sampled]
  split
  next =>
    exact ⟨by simpa using told.trans (written _ _ _), Coach.setSensor_same (length.trans h) _ _⟩
  next hboth =>
    have second : (⟨i, f.module, 1⟩ : PlaceId) ∈ presentPlaces i f.module ((c.lines.get i).module f.module) := by
      rw [presentPlaces, if_neg hboth]
      simp [bothPlaces]
    rw [Coach.samplePlace_reseeded ((Coach.setSensor_length _ _ _).trans (length.trans h))
      ((Coach.setSensor_other (place_ne i f.module) _ _).trans (sensor _ second))]
    refine ⟨by simpa using told.trans ((written _ _ _).trans (written _ _ _)), ?_⟩
    rw [Coach.setSensor_other (place_ne i f.module).symm, Coach.setSensor_same (length.trans h)]

/-- The samples of a module that is HEALTHY: each place present takes its own. -/
theorem Coach.sampled_healthy {c : Coach} {i : Fin 4} {f : SeatFrame} (h : c.sensors.length = 128)
    (hhealthy : ¬ ((c.lines.get i).module f.module).Recovers) (e : Env) (c0 c1 : BitVec 16) {d : Coach}
    (hd : d = (c.recovered e i f).sampled e c0 c1 (presentPlaces i f.module ((c.lines.get i).module f.module))) :
    d.sensor ⟨i, f.module, 0⟩ = (c.sensor ⟨i, f.module, 0⟩).sample e.params c0.toNat
    ∧ (((c.lines.get i).module f.module).places ≠ some 1 →
        d.sensor ⟨i, f.module, 1⟩ = (c.sensor ⟨i, f.module, 1⟩).sample e.params c1.toNat)
    ∧ (((c.lines.get i).module f.module).places = some 1 → d.sensor ⟨i, f.module, 1⟩ = c.sensor ⟨i, f.module, 1⟩) := by
  obtain ⟨-, -, length⟩ := c.recovered_frame e i f
  have sensor : ∀ k, (c.recovered e i f).sensor k = c.sensor k := fun k => by
    rw [Coach.sensor_congr (Coach.recovered_sensors e i f c), Coach.reseededFor, if_neg hhealthy]
  have ne := place_ne i f.module
  rw [Coach.sampled_present] at hd
  split at hd
  next hone =>
    subst hd
    refine ⟨?_, fun hboth => absurd hone hboth, fun _ => ?_⟩
    · rw [Coach.samplePlace, Coach.changeSensor_same (length.trans h), sensor]
    · rw [Coach.samplePlace, Coach.changeSensor_other ne, sensor]
  next hboth =>
    subst hd
    refine ⟨?_, fun _ => ?_, fun hone => absurd hone hboth⟩
    · rw [Coach.samplePlace, Coach.samplePlace, Coach.changeSensor_other ne.symm, Coach.changeSensor_same (length.trans h), sensor]
    · rw [Coach.samplePlace, Coach.samplePlace, Coach.changeSensor_same ((Coach.changeSensor_length _ _ _ _).trans (length.trans h)),
        Coach.changeSensor_other ne, sensor]

/-- The places that an IDENT changes raise no report. -/
theorem Coach.identified_rules {d : Coach} (h : d.sensors.length = 128) (e : Env) (i : Fin 4) (m : Fin 16) (n : Nat) (again : List PlaceId) :
    d.Tells e [] (d.identified e i m n again) ∧ (n = 1 → (d.identified e i m n again).sensor ⟨i, m, 1⟩ = Sensor.lost) := by
  have reseeded := Coach.putPlaces_tells h e (y := Sensor.reseeded) rfl again
  have length := (Coach.putPlaces_length e Sensor.reseeded again d).trans h
  unfold Coach.identified
  split
  · exact ⟨reseeded.trans (Coach.changeSensor_silent length e _ rfl), fun _ => Coach.changeSensor_same length e _ _⟩
  next hn => exact ⟨reseeded, fun h => absurd h hn⟩

theorem exec_pollResponse {s : State} {i : Fin 4} {f : SeatFrame} (h : s.inReset = false) (hf : (s.coach.lines.get i).activity = .frame f)
    (hcmd : f.cmd = .poll) (c0 c1 : BitVec 16) (check : Byte) :
    exec (.pollResponse i c0 c1 check) s = .next (s.onCoach fun e c => c.pollEnds e i f c0 c1 check) := by
  refine (exec_of_live h (f := fun s => s.onFrame i .poll fun f s => s.onCoach fun e c => c.pollEnds e i f c0 c1 check) rfl).trans ?_
  rw [State.onFrame_eq hf, if_pos hcmd]

theorem exec_identResponse {s : State} {i : Fin 4} {f : SeatFrame} (h : s.inReset = false) (hf : (s.coach.lines.get i).activity = .frame f)
    (hcmd : f.cmd = .ident) (kind places check : Byte) :
    exec (.identResponse i kind places check) s = .next (s.onCoach fun e c => c.identEnds e i f kind places check) := by
  refine (exec_of_live h (f := fun s => s.onFrame i .ident fun f s => s.onCoach fun e c => c.identEnds e i f kind places check) rfl).trans ?_
  rw [State.onFrame_eq hf, if_pos hcmd]

/-- The state after the slot of a response. -/
def State.slotEnded (i : Fin 4) (m : Fin 16) (l : SeatLine) (z : Module) (d : Coach) (s : State) : State :=
  { s with coach := d.slotEnded s.env i m l z }

theorem State.slotEnded_outside (i : Fin 4) (m : Fin 16) (l : SeatLine) (z : Module) (d : Coach) (s : State) :
    SameOutside s (s.slotEnded i m l z d) ∧ (s.slotEnded i m l z d).consist = s.consist := ⟨⟨rfl, rfl, rfl, rfl, rfl, rfl, rfl, rfl, rfl⟩, rfl⟩

/-- Settles O38: the success, its places and its report, after a POLL and after an IDENT, and the wrong check. -/
theorem responsesAreTakenOrFail : Obligations.ResponsesAreTakenOrFail := by
  rintro s i l f check hlive rfl hf hmodules hsensors
  let mod := (s.coach.lines.get i).module f.module
  have polls : ∀ c0 c1, f.cmd = .poll → check = checkChar (pollChars f c0 c1) → exec (.pollResponse i c0 c1 check) s = .next
      (s.slotEnded i f.module (s.coach.lines.get i) (mod.succeeded f)
        ((s.coach.recovered s.env i f).sampled s.env c0 c1 (presentPlaces i f.module mod))) := fun c0 c1 hcmd hcheck => by
    rw [exec_pollResponse hlive hf hcmd, State.onCoach, Coach.pollEnds_left hcmd hcheck hmodules]
    rfl
  have idents : ∀ kind places, f.cmd = .ident → check = checkChar [addressChar f.module f.cmd, kind, places] →
      exec (.identResponse i kind places check) s = .next (s.slotEnded i f.module (s.coach.lines.get i)
        { mod.succeeded f with kind := some kind, places := some (placeCount places), identPending := false }
        ((s.coach.recovered s.env i f).identified s.env i f.module (placeCount places) (identAgain i f.module mod kind (placeCount places)))) :=
    fun kind places hcmd hcheck => by
      rw [exec_identResponse hlive hf hcmd, State.onCoach, Coach.identEnds_left hcmd hcheck hmodules]
      rfl
  obtain ⟨g, line⟩ := s.coach.reseededFor_line s.env i f
  have record := s.coach.reseededFor_module s.env i f f.module
  have queue := SeatLine.succeeded_showQueue f s.coach.journey.list.length ((s.coach.reseededFor s.env i f).lines.get i)
  have count : ((s.coach.reseededFor s.env i f).lines.get i).moduleCount = (s.coach.lines.get i).moduleCount := by rw [line]
  have frame := SeatLine.succeeded_frame f s.coach.journey.list.length ((s.coach.reseededFor s.env i f).lines.get i)
  rw [record] at queue frame
  have reports := s.coach.recovered_tells hsensors s.env i f
  obtain ⟨journey, position, length⟩ := s.coach.recovered_frame s.env i f
  have pollOnly : ∀ c0 c1, (s.coach.recovered s.env i f).OnlyPlaces
      ((s.coach.recovered s.env i f).sampled s.env c0 c1 (presentPlaces i f.module mod)) := fun c0 c1 => Coach.sampled_onlyPlaces _ _ _ _ _
  have identOnly : ∀ kind places, (s.coach.recovered s.env i f).OnlyPlaces ((s.coach.recovered s.env i f).identified s.env i f.module
      (placeCount places) (identAgain i f.module mod kind (placeCount places))) := fun kind places => Coach.identified_onlyPlaces _ _ _ _ _ _
  have told : ∀ d z, s.coach.Tells s.env (s.coach.successReports i f) d → ∀ p,
      (s.slotEnded i f.module (s.coach.lines.get i) z d).coach.reports p = (if mod.health = .faulty then
        s.coach.raise s.env (s.coach.moduleReport .moduleRecovered i f.module) else s.coach).reports p := fun d z hd p => by
    have slot := hd.trans (Coach.slotEnded_tells s.env i f.module (s.coach.lines.get i) z d) p
    refine slot.trans ?_
    rw [List.append_nil, Coach.successReports]
    split <;> rfl
  refine ⟨s.coach.lowestSeat i f.module, _, fun n => if n = some 1 then [⟨i, f.module, 0⟩] else [⟨i, f.module, 0⟩, ⟨i, f.module, 1⟩],
    s.coach.reseededFor s.env i f, s.coach.back s.env i f, s.coach.recovered s.env i f,
    ((s.coach.reseededFor s.env i f).lines.get i).succeeded f s.coach.journey.list.length, mod, mod.succeeded f, mod.Recovers,
    fun d z t => t = s.slotEnded i f.module (s.coach.lines.get i) z d, s.coach.lowestSeat_iff i f.module, fun _ => rfl, rfl, rfl,
    fun hrecovers => ⟨?_, ?_, fun hcmd => ?_, fun hcmd => ?_, fun b hb => ?_, fun hout => ?_, fun hserved hnot => ?_⟩,
    fun hstays => ⟨?_, ?_, ?_, ?_⟩, frame.trans ?_, rfl, rfl, fun _ _ _ => rfl, fun c0 c1 t hcmd hcheck ht => ?_,
    fun kind places t n again d hcmd hcheck ht hn hagain hd => ?_, fun t ht => ?_, fun _ => rfl, fun c0 c1 hcmd hcheck hhealthy => ?_,
    fun c0 c1 hcmd hcheck hrecovers => ?_, fun c0 c1 hcmd hcheck => ?_, fun kind places hcmd hcheck => ?_, fun kind places hcmd hcheck => ?_⟩
  · exact if_pos hrecovers
  · rw [Module.succeeded, if_pos hrecovers]
  · rw [Module.succeeded, if_pos hrecovers]
    simp [hcmd]
  · rw [Module.succeeded, if_pos hrecovers]
    simp [hcmd]
  · rw [SeatLine.succeeded_stale _ _ _ hb, record, line]
    exact or_congr_right (and_iff_right hrecovers)
  · refine queue.trans (if_neg ?_)
    rw [count]
    rintro ⟨-, hserved, hnot⟩
    exact hout.elim (fun h => absurd hserved (by omega)) hnot
  · refine queue.trans (if_pos ⟨hrecovers, ?_, hnot⟩)
    rwa [count]
  · exact if_neg hstays
  · exact if_neg hstays
  · rw [Coach.reseededFor, if_neg hstays, SeatLine.succeeded, if_neg hstays]
  · refine queue.trans ((if_neg fun h => hstays h.1).trans ?_)
    rw [Coach.reseededFor, if_neg hstays]
  · rw [line]
  · obtain rfl := Host.Outcome.next.inj (ht.symm.trans (polls c0 c1 hcmd hcheck))
    rfl
  · obtain rfl := Host.Outcome.next.inj (ht.symm.trans (idents kind places hcmd hcheck))
    obtain rfl : n = placeCount places := hn
    have again' : again = identAgain i f.module mod kind (placeCount places) := by
      unfold identAgain
      rcases hagain with ⟨rfl, k, hk, hdiffer⟩ | ⟨rfl, hsame⟩
      · have again' : (mod.kind.isSome && (mod.kind != some kind || mod.places != some (placeCount places))) = true := by
          rw [show mod.kind = some k from hk] at hdiffer ⊢
          simpa [mod] using hdiffer
        rw [if_pos again']
        rfl
      · have settled : ¬ (mod.kind.isSome && (mod.kind != some kind || mod.places != some (placeCount places))) = true := by
          rcases hsame with hnone | ⟨hkind, hplaces⟩
          · simp [mod, hnone]
          · simp [mod, hkind, hplaces]
        rw [if_neg settled]
    subst again' hd
    obtain ⟨-, own, -⟩ := Coach.response_rules (z := { mod.succeeded f with
      kind := some kind, places := some (placeCount places), identPending := false }) hmodules (identOnly kind places)
    refine ⟨rfl, fun hrecovers => own.trans ?_, fun hstays => own.trans ?_⟩
    · rw [Module.succeeded, if_pos hrecovers]
    · rw [Module.succeeded, if_neg hstays]
  · rcases ht with ⟨c0, c1, hcmd, hcheck, ht⟩ | ⟨kind, places, hcmd, hcheck, ht⟩
    · obtain rfl := Host.Outcome.next.inj (ht.symm.trans (polls c0 c1 hcmd hcheck))
      obtain ⟨others, -, -, -, waits, stale, -⟩ := Coach.response_rules (z := mod.succeeded f) hmodules (pollOnly c0 c1)
      exact ⟨others, waits, stale⟩
    · obtain rfl := Host.Outcome.next.inj (ht.symm.trans (idents kind places hcmd hcheck))
      obtain ⟨others, -, -, -, waits, stale, -⟩ := Coach.response_rules (z := { mod.succeeded f with
        kind := some kind, places := some (placeCount places), identPending := false }) hmodules (identOnly kind places)
      exact ⟨others, waits, stale⟩
  · have stays : ¬ mod.Recovers := by
      rw [Module.Recovers, show mod.health = .healthy from hhealthy]
      exact nofun
    obtain ⟨-, own, idle, since, -, -, journey, position⟩ := Coach.response_rules (z := mod.succeeded f) hmodules (pollOnly c0 c1)
    obtain ⟨sensor0, sensor1, absent⟩ := Coach.sampled_healthy hsensors stays s.env c0 c1 rfl
    obtain ⟨outside, consist⟩ := s.slotEnded_outside i f.module (s.coach.lines.get i) (mod.succeeded f)
      ((s.coach.recovered s.env i f).sampled s.env c0 c1 (presentPlaces i f.module mod))
    refine ⟨_, polls c0 c1 hcmd hcheck, outside, consist, idle, since, own.trans ?_, sensor0, sensor1, absent, journey, position⟩
    exact if_neg stays
  · obtain ⟨-, own, idle, -, -, -, journey, position⟩ := Coach.response_rules (z := mod.succeeded f) hmodules (pollOnly c0 c1)
    obtain ⟨tells, sensor⟩ := Coach.sampled_recovering hsensors (f := f) hrecovers s.env c0 c1
    obtain ⟨outside, consist⟩ := s.slotEnded_outside i f.module (s.coach.lines.get i) (mod.succeeded f)
      ((s.coach.recovered s.env i f).sampled s.env c0 c1 (presentPlaces i f.module mod))
    have record' : mod.succeeded f = { mod with
        health := .healthy, failures := 0, levelPending := true, identPending := mod.identPending || f.cmd != .ident } := if_pos hrecovers
    replace own := own.trans record'
    refine ⟨_, polls c0 c1 hcmd hcheck, outside, consist, idle, journey, position, ?_, ?_, ?_, ?_, told _ _ tells, sensor⟩
    · exact (congrArg Module.health own)
    · exact (congrArg Module.failures own)
    · exact (congrArg Module.levelPending own)
    · refine (congrArg Module.identPending own).trans ?_
      simp [hcmd]
  · rw [exec_pollResponse hlive hf hcmd]
    exact congrArg Host.Outcome.next (congrArg (fun c => { s with coach := c }) (if_neg hcheck))
  · obtain ⟨-, own, idle, -, -, -, journey', position'⟩ := Coach.response_rules (z := { mod.succeeded f with
      kind := some kind, places := some (placeCount places), identPending := false }) hmodules (identOnly kind places)
    obtain ⟨tells, lost⟩ := Coach.identified_rules (length.trans hsensors) s.env i f.module (placeCount places)
      (identAgain i f.module mod kind (placeCount places))
    obtain ⟨outside, consist⟩ := s.slotEnded_outside i f.module (s.coach.lines.get i) { mod.succeeded f with
      kind := some kind, places := some (placeCount places), identPending := false }
      ((s.coach.recovered s.env i f).identified s.env i f.module (placeCount places) (identAgain i f.module mod kind (placeCount places)))
    refine ⟨_, idents kind places hcmd hcheck, outside, consist, idle, ?_, ?_, ?_, ?_, told _ _ ?_, fun hone => lost ?_, journey', position'⟩
    · exact congrArg Module.kind own
    · exact congrArg Module.places own
    · exact congrArg Module.identPending own
    · refine (congrArg Module.failures own).trans ?_
      show (mod.succeeded f).failures = 0
      unfold Module.succeeded
      split <;> rfl
    · simpa using reports.trans tells
    · show max 1 (min 2 places.toNat) = 1
      omega
  · rw [exec_identResponse hlive hf hcmd]
    exact congrArg Host.Outcome.next (congrArg (fun c => { s with coach := c }) (if_neg hcheck))

end Sys2Proof.Machine
end

section
/-! # The characters of a frame and the line states (6.1 to 6.3) -/
namespace Sys2Proof.Machine

/-! ## Address and check characters (R109, R111) -/

/-- The bits of an address character: module, command, and a parity bit that makes the number of ones odd. -/
theorem addressChar_bits (m : Fin 16) (cmd : SeatCmd) : (∀ k, k < 4 → (addressChar m cmd).getLsbD k = m.val.testBit k)
    ∧ (∀ k, k < 3 → (addressChar m cmd).getLsbD (4 + k) = cmd.number.testBit k)
    ∧ ((List.range 8).filter fun k => (addressChar m cmd).getLsbD k).length % 2 = 1 := by
  cases cmd <;> revert m <;> decide

theorem checkAdd_le {sum : Nat} (h : sum ≤ 255) (c : Byte) : checkAdd sum c ≤ 255 := by
  have := c.isLt
  unfold checkAdd
  split <;> omega

theorem checkSum_le (cs : List Byte) : ∀ sum, sum ≤ 255 → cs.foldl checkAdd sum ≤ 255 := by
  induction cs with
  | nil => exact fun _ h => h
  | cons c cs ih => exact fun sum h => ih _ (checkAdd_le h c)

/-- The check character brings the figure of the characters before it to 255. -/
theorem checkSum_whole (cs : List Byte) : (cs ++ [checkChar cs]).foldl checkAdd 0 = 255 := by
  have bound := checkSum_le cs 0 (by omega)
  have check : (checkChar cs).toNat = 255 - cs.foldl checkAdd 0 := by
    rw [checkChar, BitVec.toNat_not, BitVec.toNat_ofNat, Nat.mod_eq_of_lt (by omega)]
  rw [List.foldl_append, List.foldl_cons, List.foldl_nil, checkAdd, check, if_pos (by omega)]
  omega

/-! ## The bits that the part drives (R109) -/

theorem SeatFrame.dominantBit_iff (f : SeatFrame) (n : Nat) : f.dominantBit n = true ↔ ∃ c, f.chars[n / 10]? = some c
    ∧ (n % 10 = 0 ∨ ∃ k, k < 8 ∧ n % 10 = k + 1 ∧ c.getLsbD k = false) := by
  unfold SeatFrame.dominantBit
  cases f.chars[n / 10]? with
  | none => simp
  | some c =>
    cases n % 10 with
    | zero => simp
    | succ k =>
      have bit : (∃ j, j < 8 ∧ k = j ∧ c.getLsbD j = false) ↔ k < 8 ∧ c.getLsbD k = false :=
        ⟨fun ⟨_, hj, hk, hc⟩ => hk ▸ ⟨hj, hc⟩, fun ⟨hk, hc⟩ => ⟨k, hk, rfl, hc⟩⟩
      simp [bit]

theorem SeatLine.drives_iff (l : SeatLine) (f : SeatFrame) (bit : Nat) : l.drives f bit = true ↔ ∃ c m, bit = l.breakBits + 1 + m
    ∧ f.chars[m / 10]? = some c ∧ (m % 10 = 0 ∨ ∃ k, k < 8 ∧ m % 10 = k + 1 ∧ c.getLsbD k = false) := by
  rw [SeatLine.drives, Bool.and_eq_true, decide_eq_true_eq, SeatFrame.dominantBit_iff]
  constructor
  · rintro ⟨hbit, c, hc, hlow⟩
    exact ⟨c, _, by omega, hc, hlow⟩
  · rintro ⟨c, m, rfl, hc, hlow⟩
    have place : l.breakBits + 1 + m - l.breakBits - 1 = m := by omega
    exact ⟨by omega, c, by rwa [place], by rwa [place]⟩

theorem SeatLine.firstDriven_eq {l : SeatLine} {f : SeatFrame} {first : Nat} (hbefore : ∀ k, first = k + 1 → l.drives f k = false) :
    ∀ n, first ≤ n → (∀ k, first ≤ k → k < n → l.drives f k = true) → l.firstDriven f n = first := by
  intro n
  induction n with
  | zero => intro h _; rw [SeatLine.firstDriven]; omega
  | succ n ih =>
    intro h hdriven
    rw [SeatLine.firstDriven]
    by_cases hlast : first = n + 1
    · rw [if_neg (by simp [hbefore n hlast]), hlast]
    · rw [if_pos (hdriven n (by omega) (by omega)), ih (by omega) fun k hk hlt => hdriven k hk (by omega)]

/-! ## The dominant run (R114) -/

theorem SeatLine.dominantRun_held {l : SeatLine} {t : Nat} (h : l.dominantSince = some t) (now : Nat) :
    l.dominantRun now = min 30 ((now - t) / l.bitRate.period) := by
  rw [SeatLine.dominantRun, SeatLine.runSince, h]

theorem SeatLine.runSince_frame {l : SeatLine} {f : SeatFrame} (h : l.dominantSince = none) (hf : l.activity = .frame f) (now : Nat) :
    l.runSince now = l.drivenSince f now := by
  rw [SeatLine.runSince, h, hf]

theorem SeatLine.dominantRun_driven {l : SeatLine} {f : SeatFrame} {now first : Nat} (h : l.dominantSince = none) (hf : l.activity = .frame f)
    (hfirst : first ≤ l.bitsPassed f now) (hdriven : ∀ k, first ≤ k → k ≤ l.bitsPassed f now → l.drives f k = true)
    (hbefore : ∀ k, first = k + 1 → l.drives f k = false) :
    l.dominantRun now = min 30 ((now - (f.start + first * l.bitRate.period)) / l.bitRate.period) := by
  have since : l.drivenSince f now = some (f.start + first * l.bitRate.period) := by
    rw [SeatLine.drivenSince, SeatLine.firstDriven_eq hbefore _ hfirst fun k hk hlt => hdriven k hk (Nat.le_of_lt hlt)]
    exact if_pos (.inl (hdriven _ hfirst (Nat.le_refl _)))
  rw [SeatLine.dominantRun, SeatLine.runSince_frame h hf, since]

theorem SeatLine.dominantRun_recessive {l : SeatLine} {f : SeatFrame} {now : Nat} (h : l.dominantSince = none) (hf : l.activity = .frame f)
    (hbit : l.drives f (l.bitsPassed f now) = false) (hinside : now ≠ f.start + l.bitsPassed f now * l.bitRate.period) : l.dominantRun now = 0 := by
  have since : l.drivenSince f now = none := by
    rw [SeatLine.drivenSince]
    refine if_neg ?_
    rintro (hdriven | ⟨-, hnow⟩)
    · rw [hbit] at hdriven
      cases hdriven
    · exact hinside hnow
  rw [SeatLine.dominantRun, SeatLine.runSince_frame h hf, since]

/-! ## Line states and the characters heard (R105, R113) -/

theorem SeatLine.state_frame {l : SeatLine} {f : SeatFrame} (h : l.activity = .frame f) (now : Nat) : l.state now = l.frameState f now := by
  rw [SeatLine.state, h]

theorem SeatLine.frameState_answer {l : SeatLine} {f : SeatFrame} {now : Nat} (h : l.openingBits ≤ l.bitsPassed f now) (hquery : f.cmd.isQuery = true) :
    l.frameState f now = if l.arrived f now < f.cmd.answer then .dataIn else .check := by
  rw [SeatLine.openingBits] at h
  rw [SeatLine.frameState]
  rw [if_neg (by omega), if_neg (by omega), if_neg (by omega), SeatLine.openingBits, if_neg (by omega), if_pos hquery]

theorem SeatLine.frameState_sent {l : SeatLine} {f : SeatFrame} {now : Nat} (h : l.openingBits ≤ l.bitsPassed f now) (hquery : f.cmd.isQuery = false) :
    l.frameState f now = if l.bitsPassed f now < l.openingBits + 10 * f.data.length then .dataOut else .check := by
  rw [SeatLine.openingBits] at h
  rw [SeatLine.frameState]
  rw [if_neg (by omega), if_neg (by omega), if_neg (by omega), SeatLine.openingBits, if_neg (by omega), if_neg (by simp [hquery])]

/-- A query has its number of data characters in its answer. -/
theorem SeatCmd.answers {k : SeatCmd} {n : Nat} (h : (k = .poll ∧ n = 4) ∨ (k = .ident ∧ n = 2)) : k.isQuery = true ∧ k.answer = n := by
  rcases h with ⟨rfl, rfl⟩ | ⟨rfl, rfl⟩ <;> exact ⟨rfl, rfl⟩

theorem SeatLine.arrived_all {l : SeatLine} {f : SeatFrame} {now : Nat} :
    l.arrived f now = f.begun.length ↔ ∀ t ∈ f.begun, t + 19 * l.bitRate.period / 2 ≤ now := by
  rw [SeatLine.arrived, List.length_filter_eq_length_iff]
  exact forall₂_congr fun t _ => decide_eq_true_iff

/-- Settles O37: the characters, the bits driven, the states, the dominant run, and what is heard. -/
theorem framesCarryTheirCharacters : Obligations.FramesCarryTheirCharacters := by
  intro l f now
  obtain ⟨module', command, odd⟩ := addressChar_bits f.module f.cmd
  refine ⟨addressChar f.module f.cmd, if f.cmd.isQuery then [] else f.data ++ [checkChar (addressChar f.module f.cmd :: f.data)], l.bitsPassed f now,
    rfl, rfl, rfl, module', command, odd, fun hquery => if_pos ((SeatCmd.isQuery_iff _).2 hquery), fun hpoll hident =>
      ⟨checkChar (addressChar f.module f.cmd :: f.data), ?_, ?_⟩, l.drives_iff f,
    fun hf => ⟨fun h => ?_, fun h => ?_, fun h1 h2 => ?_, fun h1 h2 => ?_, fun h hpoll hident => ?_, fun k hk h => ?_,
      fun first hnone hfirst hdriven hbefore => SeatLine.dominantRun_driven hnone hf hfirst hdriven hbefore,
      fun hnone hbit hinside => SeatLine.dominantRun_recessive hnone hf hbit hinside⟩,
    fun t ht => SeatLine.dominantRun_held ht now, fun k hk h hcount hall => ?_, fun h => ?_⟩
  · exact if_neg (by rw [(SeatCmd.not_isQuery_iff _).2 ⟨hpoll, hident⟩]; exact Bool.false_ne_true)
  · rw [if_neg (by rw [(SeatCmd.not_isQuery_iff _).2 ⟨hpoll, hident⟩]; exact Bool.false_ne_true)]
    exact checkSum_whole (addressChar f.module f.cmd :: f.data)
  · rw [SeatLine.state_frame hf]
    exact if_pos h
  · rw [SeatLine.state_frame hf, SeatLine.frameState]
    rw [if_neg (by omega), if_pos (by omega)]
  · rw [SeatLine.state_frame hf, SeatLine.frameState]
    rw [if_neg (by omega), if_neg (by omega), if_pos (by omega)]
  · rw [SeatLine.state_frame hf, SeatLine.frameState]
    rw [if_neg (by omega), if_neg (by omega), if_neg (by omega), SeatLine.openingBits, if_pos (by omega)]
  · rw [SeatLine.state_frame hf, SeatLine.frameState_sent h ((SeatCmd.not_isQuery_iff _).2 ⟨hpoll, hident⟩)]
    rfl
  · obtain ⟨hquery, rfl⟩ := SeatCmd.answers hk
    rw [SeatLine.state_frame hf, SeatLine.frameState_answer h hquery]
    rfl
  · obtain ⟨hquery, rfl⟩ := SeatCmd.answers hk
    exact if_pos ⟨hquery, h, SeatLine.arrived_all.2 hall, hcount⟩
  · refine if_neg ?_
    rintro ⟨hquery, hopen, harrived, -⟩
    rcases h with ⟨hpoll, hident⟩ | hopening | ⟨t, ht, hlate⟩
    · rw [(SeatCmd.not_isQuery_iff _).2 ⟨hpoll, hident⟩] at hquery
      cases hquery
    · rw [SeatLine.openingBits] at hopen
      omega
    · have := SeatLine.arrived_all.1 harrived t ht
      omega

/-! ## SEAT LINE CONTROL (R106, R108) -/

theorem badRate_iff (b : Option Nat) : badRate b = true ↔ ∃ v, b = some v ∧ v ≠ 9600 ∧ v ≠ 19200 := by
  simp [badRate, Option.any_eq_true]

theorem SeatLine.atRest_iff (l : SeatLine) : l.atRest = true ↔ l.activity = .off ∨ l.activity = .setup := by
  simp [SeatLine.atRest]

/-- A value given is outside a range. -/
theorem Option.out_iff (lo hi : Nat) (v : Option Nat) : (v.any fun n => n < lo || hi < n) = true ↔ ∃ n, v = some n ∧ (n < lo ∨ hi < n) := by
  simp [Option.any_eq_true]

theorem LineControl.clamped_iff (r : LineControl) : LineControl.clamped r = true ↔ (∃ v, r.moduleCount = some v ∧ 16 < v)
    ∨ (∃ v, r.breakBits = some v ∧ (v < 13 ∨ 24 < v)) ∨ (∃ v, r.rtFactor = some v ∧ (v < 11 ∨ 20 < v))
    ∨ (∃ v, r.faultCount = some v ∧ (v < 2 ∨ 8 < v)) ∨ (∃ v, r.labelLevel = some v ∧ 255 < v) := by
  simp only [LineControl.clamped, Bool.or_eq_true, Option.out_iff, or_assoc]
  simp only [Nat.not_lt_zero, false_or]

/-- The line after an action on a line at rest. -/
def SeatLine.acted (e : Env) (i : Fin 4) (action : Nat) (l : SeatLine) : SeatLine :=
  match action with
  | 0 => { l with activity := .off }
  | 1 => { l with activity := .setup }
  | 2 => SeatLine.toIdle e.now { l with
      modules := l.modules.mapIdx (wakeAtRun l.moduleCount), round := 0, serviceNext := false
      dominantSince := if e.levels.get i = .dominant then some e.now else none }
  | _ => l

theorem SeatLine.write_activity (r : LineControl) (l : SeatLine) : (l.write r).activity = l.activity := by
  unfold SeatLine.write
  cases r.moduleCount <;> rfl

/-- SEAT LINE CONTROL on a line at rest: the values, then the action. -/
theorem Coach.controlLine_rest {c : Coach} {i : Fin 4} {r : LineControl}
    (h : (c.lines.get i).activity = .setup ∨ ((c.lines.get i).activity = .off ∧ r.action ≠ 2)) (e : Env) :
    c.controlLine i r e = c.onLine i fun l => (l.write r).acted e i r.action := by
  have activity : ((c.onLine i (SeatLine.write r)).lines.get i).activity = (c.lines.get i).activity := by
    rw [Coach.onLine_same, SeatLine.write_activity]
  have resting : ¬ (((c.onLine i (SeatLine.write r)).lines.get i).running = true ∨ ((c.onLine i (SeatLine.write r)).lines.get i).activity = .stuck) := by
    rw [SeatLine.running_iff, activity]
    rcases h with h | ⟨h, -⟩ <;> simp [h]
  rw [Coach.controlLine]
  unfold Coach.lineAction
  split
  next haction => rw [Coach.leaveRun, if_neg resting, Coach.onLine_twice, haction]; rfl
  next haction => rw [Coach.leaveRun, if_neg resting, Coach.onLine_twice, haction]; rfl
  next haction =>
    have setup : ((c.onLine i (SeatLine.write r)).lines.get i).activity = .setup := by
      rw [activity]
      exact h.resolve_right fun hoff => hoff.2 haction
    rw [Coach.runLine, if_pos setup, Coach.onLine_twice, haction]
    rfl
  next h0 h1 h2 =>
    have kept : ∀ l : SeatLine, l.acted e i r.action = l := fun l => by
      unfold SeatLine.acted
      split
      next h => exact absurd h h0
      next h => exact absurd h h1
      next h => exact absurd h h2
      next => rfl
    rw [Coach.onLine, Coach.onLine, kept]

/-- The values of a request as a line takes them. -/
theorem SeatLine.write_took (r : LineControl) (l : SeatLine) : SeatLine.Took r l (l.write r) := by
  have clamp0 : ∀ hi v, clampTo 0 hi v = min hi v := fun hi v => Nat.max_eq_right (Nat.zero_le _)
  unfold SeatLine.Took SeatLine.write
  cases r.moduleCount with
  | none => exact ⟨rfl, rfl, rfl, rfl, rfl, by simp only [funext (clamp0 255)], rfl, rfl⟩
  | some n => exact ⟨clamp0 16 n, rfl, rfl, rfl, rfl, by simp only [funext (clamp0 255)]; rfl, rfl, rfl⟩

/-- What an action leaves of the values. -/
theorem SeatLine.acted_frame (e : Env) (i : Fin 4) (action : Nat) (l : SeatLine) : l.acted e i action = { l with
    activity := (l.acted e i action).activity, recessiveSince := (l.acted e i action).recessiveSince, modules := (l.acted e i action).modules
    round := (l.acted e i action).round, serviceNext := (l.acted e i action).serviceNext, dominantSince := (l.acted e i action).dominantSince } := by
  unfold SeatLine.acted
  split <;> rfl

theorem SeatLine.acted_other {action : Nat} (h : action ≠ 2) (e : Env) (i : Fin 4) (l : SeatLine) :
    l.acted e i action = { l with activity := (l.acted e i action).activity } := by
  unfold SeatLine.acted
  split
  next => rfl
  next => rfl
  next => exact absurd rfl h
  next => rfl

theorem SeatLine.took_acted {r : LineControl} {l y : SeatLine} (h : SeatLine.Took r l y) (e : Env) (i : Fin 4) (action : Nat) :
    SeatLine.Took r l (y.acted e i action) := by
  rw [SeatLine.acted_frame]
  exact h

theorem SeatLine.module_mapIdx {l : SeatLine} (h : l.modules.length = 16) (g : Nat → Module → Module) (m : Fin 16) :
    SeatLine.module { l with modules := l.modules.mapIdx g } m = g m.val (l.module m) := by
  simp [SeatLine.module, List.getD_eq_getElem?_getD, h]

/-- A module record after a write of the module count. -/
theorem SeatLine.write_module {r : LineControl} {n : Nat} {l : SeatLine} (hn : r.moduleCount = some n) (h : l.modules.length = 16) (m : Fin 16) :
    (l.write r).module m = if (l.write r).moduleCount ≤ m.val then
        { l.module m with health := .unused, levelPending := (l.module m).levelPending && !((l.write r).moduleCount ≤ m.val && m.val < l.moduleCount) }
      else if l.moduleCount ≤ m.val then { l.module m with health := .waking } else l.module m := by
  have written : (l.write r).moduleCount = clampTo 0 16 n ∧ (l.write r).module m = (l.writeCount (clampTo 0 16 n)).module m := by
    unfold SeatLine.write
    rw [hn]
    exact ⟨rfl, rfl⟩
  rw [written.1, written.2]
  exact SeatLine.module_mapIdx h _ m

theorem SeatLine.write_module_fields {r : LineControl} {l : SeatLine} (hcount : r.moduleCount ≠ none) (hlength : l.modules.length = 16) (m : Fin 16) :
    ((l.write r).module m).health = (if (l.write r).moduleCount ≤ m.val then .unused else if l.moduleCount ≤ m.val then .waking
        else (l.module m).health)
    ∧ ((l.write r).module m).levelPending = ((l.module m).levelPending && !((l.write r).moduleCount ≤ m.val && m.val < l.moduleCount))
    ∧ (l.write r).module m
      = { l.module m with health := ((l.write r).module m).health, levelPending := ((l.write r).module m).levelPending } := by
  obtain ⟨n, hn⟩ := Option.ne_none_iff_exists'.1 hcount
  rw [SeatLine.write_module hn hlength m]
  by_cases hunused : (l.write r).moduleCount ≤ m.val
  · rw [if_pos hunused, if_pos hunused]
    exact ⟨rfl, rfl, rfl⟩
  · have pending : ((l.module m).levelPending && !((l.write r).moduleCount ≤ m.val && m.val < l.moduleCount)) = (l.module m).levelPending := by
      simp [hunused]
    rw [if_neg hunused, if_neg hunused, pending]
    split <;> exact ⟨rfl, rfl, rfl⟩

theorem SeatLine.write_moduleless {r : LineControl} (h : r.moduleCount = none) (l : SeatLine) : (l.write r).modules = l.modules := by
  unfold SeatLine.write
  rw [h]

theorem SeatLine.write_frame (r : LineControl) (l : SeatLine) : (l.write r).round = l.round ∧ (l.write r).serviceNext = l.serviceNext
    ∧ (l.write r).dominantSince = l.dominantSince ∧ (l.write r).recessiveSince = l.recessiveSince
    ∧ (l.write r).modules.length = l.modules.length := by
  unfold SeatLine.write
  cases r.moduleCount with
  | none => exact ⟨rfl, rfl, rfl, rfl, rfl⟩
  | some n => exact ⟨rfl, rfl, rfl, rfl, List.length_mapIdx⟩

theorem SeatLine.acted_activity (action : Nat) (e : Env) (i : Fin 4) (l : SeatLine) :
    (action = 0 → (l.acted e i action).activity = .off) ∧ (action = 1 → (l.acted e i action).activity = .setup)
    ∧ (action = 3 → (l.acted e i action).activity = l.activity) :=
  ⟨fun h => h ▸ rfl, fun h => h ▸ rfl, fun h => h ▸ rfl⟩

/-- RUN wakes every module below the count. -/
theorem SeatLine.acted_wakes {l : SeatLine} (hlength : l.modules.length = 16) (e : Env) (i : Fin 4) {m : Fin 16} (h : m.val < l.moduleCount) :
    ((l.acted e i 2).module m).health = .waking ∧ ((l.acted e i 2).module m).failures = 0 ∧ ((l.acted e i 2).module m).identPending = true := by
  have woken : (l.acted e i 2).module m = wakeAtRun l.moduleCount m.val (l.module m) := SeatLine.module_mapIdx hlength _ m
  rw [woken, wakeAtRun, if_pos h]
  exact ⟨rfl, rfl, rfl⟩

/-- A line that takes the values given, and the action, gives the state after SEAT LINE CONTROL. -/
theorem State.controlled_rest {s : State} {r : LineControl} {i : Fin 4} (hi : i = Fin.ofNat 4 r.line)
    (h : (s.coach.lines.get i).activity = .setup ∨ ((s.coach.lines.get i).activity = .off ∧ r.action ≠ 2)) :
    s.controlled r = { s with coach := s.coach.onLine i fun l => (l.write r).acted s.env i r.action } := by
  rw [State.controlled, State.onCoach, ← hi, Coach.controlLine_rest h]

/-- The state after SEAT LINE CONTROL of a line at rest. -/
def State.controlledTo (p : Port) (r : LineControl) (i : Fin 4) (s : State) : State :=
  { s.renew p with coach := s.coach.onLine i fun l => (l.write r).acted s.env i r.action }

/-- SEAT LINE CONTROL without values that leaves the line as it is. -/
theorem State.controlled_still {s : State} {r : LineControl} {i : Fin 4} (hi : i = Fin.ofNat 4 r.line)
    (hbare : r = ⟨r.line, r.action, none, none, none, none, none, none⟩)
    (h : r.action = 3 ∨ (r.action = 2 ∧ (s.coach.lines.get i).activity ≠ .setup)) : s.controlled r = s := by
  have still : s.coach.lineAction s.env i r.action = s.coach := by
    rcases h with h | ⟨h, hsetup⟩
    · rw [h]
      rfl
    · rw [h]
      exact if_neg hsetup
  rw [State.controlled, State.onCoach, ← hi, hbare, Coach.controlLine_bare, still]

/-- Settles O34: the checks in order, the values taken, the action on a line at rest, and the requests that change nothing. -/
theorem seatLineControlIsJudgedAndTaken : Obligations.SeatLineControlIsJudgedAndTaken := by
  intro s p r i l hcontrols hi hl
  have coach : (s.renew p).coach = s.coach := s.renew_coach p
  have line : (s.renew p).coach.lines.get (Fin.ofNat 4 r.line) = l := by rw [coach, hl, hi]
  have refused : ∀ {st}, seatLineControlBody r (s.renew p) = refuse st (s.renew p) →
      exec (.seatLineControl p r) s = .next (State.answer p 19 st [] (s.renew p)) := fun h => by
    rw [exec_seatLineControl hcontrols, h]
    rfl
  refine ⟨fun h => refused ?_, fun hline haction hrate => ⟨fun hvalues hoff hsetup => refused ?_, fun hrun hoff => refused ?_, fun hrest => ?_,
    fun hbare hstill => ?_⟩⟩
  · rw [seatLineControlBody_eq, if_pos]
    rwa [badRate_iff]
  all_goals
    have rate : badRate r.bitRate = false := by
      rw [← Bool.not_eq_true, badRate_iff]
      rintro ⟨b, hb, h1, h2⟩
      rcases hrate b hb with rfl | rfl
      · exact h1 rfl
      · exact h2 rfl
    have fields : ¬ (3 < r.line ∨ 3 < r.action ∨ badRate r.bitRate = true) := by
      rw [rate]
      rintro (h | h | h)
      · omega
      · omega
      · cases h
  · have rest : l.atRest = false := by
      rw [← Bool.not_eq_true, SeatLine.atRest_iff]
      exact fun h => h.elim hoff hsetup
    rw [seatLineControlBody_eq, if_neg fields, if_pos]
    rw [line, hvalues, rest]
    rfl
  · have rest : l.atRest = true := (SeatLine.atRest_iff l).2 (.inl hoff)
    rw [seatLineControlBody_eq, if_neg fields, if_neg, if_pos]
    · exact ⟨hrun, line ▸ hoff⟩
    · rw [line, rest, Bool.not_true, Bool.and_false]
      exact Bool.false_ne_true
  · have rest : l.atRest = true := (SeatLine.atRest_iff l).2 (hrest.elim .inr fun h => .inl h.1)
    have running : r.action = 2 → l.activity ≠ .off := fun h hoff => hrest.elim (fun hsetup => nomatch hoff ▸ hsetup) fun h' => h'.2 h
    have x := State.controlled_rest (s := s.renew p) hi (by rw [coach, ← hl]; exact hrest)
    rw [coach, State.renew_env] at x
    have controlled : (s.renew p).controlled r = s.controlledTo p r i := x
    have params : (s.controlledTo p r i).coach.lines.get i = (l.write r).acted s.env i r.action := hl ▸ Coach.onLine_same i _ s.coach
    have status : (if LineControl.clamped r then Status.adjusted else .accepted) = .adjusted ↔ LineControl.clamped r = true := by
      cases LineControl.clamped r <;> simp
    obtain ⟨off, setup, kept⟩ := SeatLine.acted_activity r.action s.env i (l.write r)
    obtain ⟨round, service, dominant, recessive, length⟩ := SeatLine.write_frame r l
    refine ⟨if LineControl.clamped r then .adjusted else .accepted, s.controlledTo p r i, (l.write r).acted s.env i r.action, ?_, hl ▸ rfl,
      SeatLine.took_acted (SeatLine.write_took r l) s.env i r.action, ?_, status.trans (LineControl.clamped_iff r), off, setup,
      fun h => (kept h).trans (SeatLine.write_activity r l), fun h => ?_, fun h => ?_⟩
    · rw [exec_seatLineControl hcontrols, seatLineControlBody_taken hline haction rate (fun _ => line ▸ rest) (fun h => line ▸ running h), controlled, ← hi,
        State.renew_now, params]
    · split
      · exact .inl rfl
      · exact .inr rfl
    · rw [SeatLine.acted_other h]
      refine ⟨round, service, dominant, recessive, fun hnone => SeatLine.write_moduleless hnone l, fun hsome hlength m => ?_⟩
      exact SeatLine.write_module_fields hsome hlength m
    · rw [h]
      exact ⟨rfl, rfl, rfl, rfl, rfl, fun hlength m hm => SeatLine.acted_wakes (length.trans hlength) s.env i hm⟩
  · have still := State.controlled_still (s := s.renew p) hi hbare (by rw [coach, ← hl]; exact hstill.imp id fun h => ⟨h.1, h.2.2⟩)
    have bare : LineControl.hasValues r = false ∧ LineControl.clamped r = false := by
      rw [hbare]
      exact ⟨rfl, rfl⟩
    rw [exec_seatLineControl hcontrols, seatLineControlBody_taken hline haction rate, still, line, State.renew_now, bare.2]
    · rfl
    · rw [bare.1]
      exact nofun
    · intro hrun
      rw [line]
      exact (hstill.resolve_left fun h => by omega).2.1

end Sys2Proof.Machine
end

section
/-! # Arrival, departure and run-through (1.5) -/
namespace Sys2Proof.Machine

/-- A progress event raises its report first; the reservation and the notice unit raise theirs after it. -/
theorem Coach.progress_tells (e : Env) (c : Coach) (w : Journey → Journey) (r : Report) (f : Seat → EntryCtx → List Entry → List Entry × List Report)
    (retires : Bool) (g : NoticeChange) : ∃ rs, (c.seats = [] → c.notices.queue = [] → rs = [])
      ∧ c.Tells e (r :: rs) ((((c.onJourney w).raise e r).take e f retires).notice e g) := by
  let first : Coach := (c.onJourney w).raise e r
  refine ⟨first.seatReports e f ++ (first.take e f retires).noticeReports e g, fun hseats hqueue => ?_, ?_⟩
  · have seats : first.seats = [] := (Coach.raise_seats e r _).trans hseats
    have notices : (first.take e f retires).notices.queue = [] := by
      rw [Coach.take_eq]
      exact (congrArg NoticeUnit.queue (Coach.raise_notices e r _)).trans hqueue
    rw [Coach.seatReports, seats, Coach.noticeReports_empty notices]
    rfl
  · have raised : c.Tells e [r] first := (Coach.Tells.raise e r _).of_reports fun p => by cases p <;> rfl
    exact raised.trans ((Coach.take_tells e f retires first).trans (Coach.notice_tells e g _))

theorem Coach.mapWindow_reports (e : Env) (c : Coach) (p : LinePort) : (c.mapWindow e).reports p = c.reports p := by cases p <;> rfl

theorem Coach.mapTarget_reports (e : Env) (c : Coach) (p : LinePort) : (c.mapTarget e).reports p = c.reports p := by cases p <;> rfl

/-! ## The journey fields -/

theorem flip_eq (o : Orientation) : flip o = if o = .bForward then .aForward else .bForward := by cases o <;> rfl

theorem arriveAt_eq (portion : Fin 4) (i : Nat) (r : StopRec) (point : Nat) (j : Journey) : arriveAt portion i r point j = { j with
    list := setStatus j.list i .current, atStop := some i, departurePoint := some point
    orientation := if r.reverse then (if j.orientation = .bForward then .aForward else .bForward) else j.orientation
    phase := if nextCall j.list portion (i + 1) = none then .terminated else j.phase } := by
  simp only [arriveAt, flip_eq, lastCall, Option.isNone_iff_eq_none]

/-- The phase that a departure or a run-through leaves while the journey runs. -/
theorem phase_left {p : Phase} (h : p = .staged ∨ p = .inService) (next : Option Nat) :
    (if next.isNone then Phase.terminated else if p = .staged then .inService else p) = if next = none then .terminated else .inService := by
  cases next with
  | none => rfl
  | some n => rcases h with rfl | rfl <;> rfl

theorem departFrom_eq {j : Journey} (h : j.phase = .staged ∨ j.phase = .inService) (portion : Fin 4) (i : Nat) :
    departFrom portion i j = { j with
      list := setStatus j.list i .departed, lastDeparted := some (max i (j.lastDeparted.getD 0)), atStop := none, departurePoint := none
      nextCalling := nextAhead portion j.list (i + 1)
      phase := if nextAhead portion j.list (i + 1) = none then .terminated else .inService } := by
  simp only [departFrom, phase_left h, leave]

theorem runThroughOf_eq {j : Journey} (h : j.phase = .staged ∨ j.phase = .inService) (portion : Fin 4) (i : Nat) :
    runThroughOf portion i j = { j with
      list := setStatus j.list i .runThrough, lastDeparted := some (max i (j.lastDeparted.getD 0))
      nextCalling := nextAhead portion j.list (i + 1)
      phase := if nextAhead portion j.list (i + 1) = none then .terminated else .inService } := by
  simp only [runThroughOf, phase_left h, leave]

theorem Coach.arrive_journey (e : Env) (i : Nat) (r : StopRec) (point : Nat) (c : Coach) :
    (c.arrive e i r point).journey = arriveAt e.portion i r point c.journey := by
  simp [Coach.arrive, Coach.onJourney]

theorem Coach.depart_journey (e : Env) (i : Nat) (r : StopRec) (c : Coach) : (c.depart e i r).journey = departFrom e.portion i c.journey := by
  simp [Coach.depart, Coach.onJourney]

theorem Coach.runThrough_journey (e : Env) (i : Nat) (r : StopRec) (c : Coach) :
    (c.runThrough e i r).journey = runThroughOf e.portion i c.journey := by
  simp [Coach.runThrough, Coach.onJourney]

/-! ## The evaluation at a stop, at an arrival, at a departure and at a run-through (R17 to R21) -/

theorem setStatus_length (list : List StopRec) (i : Nat) (st : StopStatus) : (setStatus list i st).length = list.length := by
  simp [setStatus]

theorem Coach.evalRunThrough_ended {c : Coach} (h : c.journey.phase.running = false) (e : Env) (n : Nat) : c.evalRunThrough e n = c := by
  cases n with
  | zero => rfl
  | succ n =>
    rw [Coach.evalRunThrough]
    split
    · split
      · exact if_neg fun hruns => by simp [h] at hruns
      · rfl
    · rfl

/-- The number of run-throughs allowed does not matter where it covers the records from next calling on: next calling rises with each. -/
theorem Coach.evalRunThrough_allowed (e : Env) : ∀ (n m : Nat) (c : Coach),
    (∀ k, c.journey.nextCalling = some k → c.journey.list.length ≤ k + n ∧ c.journey.list.length ≤ k + m) →
    c.evalRunThrough e n = c.evalRunThrough e m
  | 0, m, c, h => by
    refine (Coach.evalRunThrough_rests (c := c) (fun k r hk hr => ?_) m).symm
    have inside := (List.getElem?_eq_some_iff.1 hr).1
    have := (h k hk).1
    omega
  | n + 1, 0, c, h => by
    refine Coach.evalRunThrough_rests (c := c) (fun k r hk hr => ?_) (n + 1)
    have inside := (List.getElem?_eq_some_iff.1 hr).1
    have := (h k hk).2
    omega
  | n + 1, m + 1, c, h => by
    rw [Coach.evalRunThrough, Coach.evalRunThrough]
    split
    next k hstop hk =>
      split
      next r hr =>
        refine ite_congr rfl (fun _ => Coach.evalRunThrough_allowed e n m _ fun k' hk' => ?_) fun _ => rfl
        rw [Coach.runThrough_journey] at hk' ⊢
        have later : k + 1 ≤ k' := (findFrom_eq_some.1 (show nextAhead e.portion c.journey.list (k + 1) = some k' from hk')).1
        have bound := h k hk
        show (setStatus c.journey.list k .runThrough).length ≤ k' + n ∧ (setStatus c.journey.list k .runThrough).length ≤ k' + m
        rw [setStatus_length]
        omega
      next => rfl
    next => rfl

/-- An evaluation from the second step on. -/
def Coach.evaluateFurther (e : Env) (c : Coach) : Coach :=
  ((c.whileRunning (Coach.evalRunThrough e c.journey.list.length)).whileRunning (Coach.evalPassing e)).whileRunning (Coach.evalArrival e)

theorem Coach.evaluate_between {c : Coach} (h : c.journey.atStop = none) (e : Env) : c.evaluate e = c.evaluateFurther e := by
  have undeparted : c.whileRunning (Coach.evalDeparture e) = c := by
    unfold Coach.whileRunning
    rw [Coach.evalDeparture_between h, ite_self]
  rw [Coach.evaluate, undeparted]
  rfl

theorem Coach.evaluate_departs {e : Env} {c : Coach} {i p : Nat} {r : StopRec} (hrunning : c.journey.phase.running = true)
    (hstop : c.journey.atStop = some i) (hpoint : c.journey.departurePoint = some p) (hr : c.journey.list[i]? = some r)
    (hpast : c.position.exceeds p = true) : c.evaluate e = (c.depart e i r).evaluate e := by
  have departed : c.whileRunning (Coach.evalDeparture e) = c.depart e i r := by
    rw [Coach.whileRunning_runs hrunning, Coach.evalDeparture, hstop, hpoint]
    simp only [hr]
    exact if_pos hpast
  have between : (c.depart e i r).journey.atStop = none := by
    rw [Coach.depart_journey]
    rfl
  rw [Coach.evaluate_between between, Coach.evaluate, departed]
  rfl

theorem Coach.evaluate_runsThrough {e : Env} {c : Coach} {i : Nat} {r : StopRec} (hrunning : c.journey.phase.running = true)
    (hstop : c.journey.atStop = none) (hnext : c.journey.nextCalling = some i) (hr : c.journey.list[i]? = some r)
    (hpast : c.position.exceeds (r.position + e.params.platformWin) = true) : c.evaluate e = (c.runThrough e i r).evaluate e := by
  have inside : i < c.journey.list.length := (List.getElem?_eq_some_iff.1 hr).1
  have between : (c.runThrough e i r).journey.atStop = none := by
    rw [Coach.runThrough_journey]
    exact hstop
  have first : ∀ n, c.evalRunThrough e (n + 1) = (c.runThrough e i r).evalRunThrough e n := fun n => by
    rw [Coach.evalRunThrough, hstop, hnext]
    simp only [hr]
    exact if_pos ⟨hrunning, hpast⟩
  have through : c.whileRunning (Coach.evalRunThrough e c.journey.list.length)
      = (c.runThrough e i r).whileRunning (Coach.evalRunThrough e (c.runThrough e i r).journey.list.length) := by
    obtain ⟨n, hn⟩ : ∃ n, c.journey.list.length = n + 1 := ⟨c.journey.list.length - 1, by omega⟩
    have allowed : (c.runThrough e i r).evalRunThrough e n
        = (c.runThrough e i r).evalRunThrough e (c.runThrough e i r).journey.list.length := by
      refine Coach.evalRunThrough_allowed e _ _ _ fun k hk => ?_
      rw [Coach.runThrough_journey] at hk ⊢
      have later : i + 1 ≤ k := (findFrom_eq_some.1 (show nextAhead e.portion c.journey.list (i + 1) = some k from hk)).1
      show (setStatus c.journey.list i .runThrough).length ≤ k + n ∧ (setStatus c.journey.list i .runThrough).length ≤ k + (setStatus c.journey.list i .runThrough).length
      rw [setStatus_length]
      omega
    rw [Coach.whileRunning_runs hrunning, hn, first, allowed]
    cases hends : (c.runThrough e i r).journey.phase.running
    · rw [Coach.whileRunning_rests hends, Coach.evalRunThrough_ended hends]
    · rw [Coach.whileRunning_runs hends]
  rw [Coach.evaluate_between hstop, Coach.evaluate_between between, Coach.evaluateFurther, Coach.evaluateFurther, through]

theorem Coach.evaluate_stands {e : Env} {c : Coach} {i : Nat} (hrunning : c.journey.phase.running = true)
    (hstop : c.journey.atStop = some i) (hnear : ∀ p, c.journey.departurePoint = some p → ¬ c.position.exceeds p = true) :
    c.evaluate e = c.evalPassing e := by
  have undeparted : c.evalDeparture e = c := by
    unfold Coach.evalDeparture
    split
    next p _ hp =>
      split
      · exact if_neg (hnear p hp)
      · rfl
    next => rfl
  rw [Coach.evaluate_undeparted hrunning undeparted (Coach.evalRunThrough_at hstop e _)]
  exact Coach.evalArrival_at (c := c.evalPassing e) hstop e

theorem Coach.evaluate_arrives {e : Env} {c : Coach} {i : Nat} {r : StopRec} (hrunning : c.journey.phase.running = true)
    (hstop : c.journey.atStop = none) (hnext : c.journey.nextCalling = some i) (hr : c.journey.list[i]? = some r)
    (hmotion : c.position.motion.stopped = true) (hwithin : c.position.within r.position e.params.platformWin = true)
    (hcalls : r.callsAt e.portion = true) :
    c.evaluate e = (c.evalPassing e).arrive e i r (r.position + e.params.platformWin) := by
  have through : c.evalRunThrough e c.journey.list.length = c := by
    refine Coach.evalRunThrough_rests (fun k y hk hy hexceeds => ?_) _
    obtain rfl : i = k := Option.some.inj (hnext.symm.trans hk)
    obtain rfl : r = y := Option.some.inj (hr.symm.trans hy)
    have past := (Position.exceeds_iff _ _).1 hexceeds
    have near := ((Position.within_iff _ _ _).1 hwithin).2
    omega
  have record : (c.evalPassing e).journey.list[i]? = some r := by
    rw [Coach.evalPassing_record, hr, Option.map_some, passRecord_kept]
    simp [hcalls]
  have between : (c.evalPassing e).journey.atStop = none := hstop
  have next : (c.evalPassing e).journey.nextCalling = some i := hnext
  rw [Coach.evaluate_undeparted hrunning (Coach.evalDeparture_between hstop e) through, Coach.evalArrival, between, next]
  simp only [record]
  exact if_pos ⟨hmotion, hwithin⟩

/-- Settles O23: what each event writes, reports and hands on, and which event an evaluation takes. -/
theorem progressIsTakenFromTheEstimate : Obligations.ProgressIsTakenFromTheEstimate := by
  intro e c i r hphase hr
  have hrunning : c.journey.phase.running = true := (Phase.running_iff _).2 hphase
  refine ⟨_, _, fun kind => c.progressReport kind r.code, _, _, rfl, rfl, fun kind => rfl, fun kind d => rfl, fun j kind => rfl, ⟨_, rfl, ?_, ?_, ?_, ?_⟩,
    ⟨_, rfl, ?_, ?_, ?_, ?_⟩, ⟨_, rfl, ?_, ?_, ?_, ?_⟩, fun hstop hnear => ?_, fun hstop hnext hmotion hnear hfar hcalls => ?_,
    fun p hstop hpoint hpast => ⟨_, rfl, ?_⟩, fun hstop hnext hpast => ⟨_, rfl, ?_⟩⟩
  · rw [Coach.arrive_journey, arriveAt_eq]
  · simp [Coach.arrive, Coach.onJourney]
  · obtain ⟨rs, hsilent, htells⟩ := c.progress_tells e (arriveAt e.portion i r (r.position + e.params.platformWin))
      (c.progressReport .arrived r.code) (ofEntries fun k _ => entryAtArrival k i) false (.arrival r.code)
    exact ⟨rs, hsilent, fun p => (Coach.mapTarget_reports e _ p).trans (htells p)⟩
  · rw [Coach.arrive_journey]
    rfl
  · rw [Coach.depart_journey, departFrom_eq hphase]
  · simp [Coach.depart, Coach.onJourney]
  · obtain ⟨rs, hsilent, htells⟩ := c.progress_tells e (departFrom e.portion i)
      (c.progressReport .departed r.code) (ofEntries fun k _ => entryAtDeparture k r.code) true (.departure r.code)
    exact ⟨rs, hsilent, fun p => (Coach.mapWindow_reports e _ p).trans (htells p)⟩
  · rw [Coach.depart_journey]
    rfl
  · rw [Coach.runThrough_journey, runThroughOf_eq hphase]
  · simp [Coach.runThrough, Coach.onJourney]
  · obtain ⟨rs, hsilent, htells⟩ := c.progress_tells e (runThroughOf e.portion i)
      (c.progressReport .stopPassed r.code) (ofEntries fun k _ => entryAtRunThrough k i r.code) true (.runThrough r.code)
    exact ⟨rs, hsilent, fun p => (Coach.mapWindow_reports e _ p).trans (htells p)⟩
  · rw [Coach.runThrough_journey]
    rfl
  · refine Coach.evaluate_stands hrunning hstop fun p hp hexceeds => ?_
    have past := (Position.exceeds_iff _ _).1 hexceeds
    have near := hnear p hp
    omega
  · exact Coach.evaluate_arrives hrunning hstop hnext hr ((Motion.stopped_iff _).2 hmotion) ((Position.within_iff _ _ _).2 ⟨hfar, hnear⟩) hcalls
  · exact Coach.evaluate_departs hrunning hstop hpoint hr ((Position.exceeds_iff _ _).2 hpast)
  · exact Coach.evaluate_runsThrough hrunning hstop hnext hr ((Position.exceeds_iff _ _).2 hpast)

end Sys2Proof.Machine
end

section
/-! # SET CONSIST (2.6) -/
namespace Sys2Proof.Machine

/-- A new portion outside the EMPTY phase for which the list or the stop does not serve (R39). -/
def State.portionBlocked (p : Nat) (s : State) : Prop :=
  s.coach.journey.phase ≠ .empty ∧ p ≠ s.consist.portion.val ∧ (callCount s.coach.journey.list (Fin.ofNat 4 p) < 2
    ∨ ∃ i r, s.coach.journey.atStop = some i ∧ s.coach.journey.list[i]? = some r ∧ r.mask.getLsbD p = false)

/-- The state after an accepted SET CONSIST. -/
def State.consistSet (n p : Nat) (s : State) : State := (s.setCoachNumber n).setPortion (Fin.ofNat 4 p)

theorem recordAt_any {list : List StopRec} {i : Option Nat} {f : StopRec → Bool} :
    (recordAt list i).any f = true ↔ ∃ n r, i = some n ∧ list[n]? = some r ∧ f r = true := by
  cases i <;> simp [recordAt, Option.any_eq_true]

/-- The checks of SET CONSIST in order (R39). -/
theorem setConsistBody_eq (n p g : Nat) (s : State) : (g ≠ s.consist.generation → setConsistBody n p g s = refuse .staleGeneration s)
    ∧ (g = s.consist.generation → 32 < n ∨ 3 < p → setConsistBody n p g s = refuse .badField s)
    ∧ (g = s.consist.generation → n ≤ 32 → p ≤ 3 → s.portionBlocked p → setConsistBody n p g s = refuse .badField s)
    ∧ (g = s.consist.generation → n ≤ 32 → p ≤ 3 → ¬ s.portionBlocked p →
        setConsistBody n p g s = (s.consistSet n p, { status := .accepted })) := by
  have short : (s.newPortion p && callCount s.coach.journey.list (Fin.ofNat 4 p) < 2) = true
      ↔ s.coach.journey.phase ≠ .empty ∧ p ≠ s.consist.portion.val ∧ callCount s.coach.journey.list (Fin.ofNat 4 p) < 2 := by
    simp [State.newPortion, and_assoc]
  have absent : (s.newPortion p && (recordAt s.coach.journey.list s.coach.journey.atStop).any fun r => !r.mask.getLsbD p) = true
      ↔ s.coach.journey.phase ≠ .empty ∧ p ≠ s.consist.portion.val
        ∧ ∃ i r, s.coach.journey.atStop = some i ∧ s.coach.journey.list[i]? = some r ∧ r.mask.getLsbD p = false := by
    rw [Bool.and_eq_true, recordAt_any]
    simp [State.newPortion, and_assoc]
  have body : setConsistBody n p g s = if g ≠ s.consist.generation then refuse .staleGeneration s
      else if 32 < n ∨ 3 < p then refuse .badField s
      else if (s.newPortion p && callCount s.coach.journey.list (Fin.ofNat 4 p) < 2) = true then refuse .badField s
      else if (s.newPortion p && (recordAt s.coach.journey.list s.coach.journey.atStop).any fun r => !r.mask.getLsbD p) = true then
        refuse .badField s
      else (s.consistSet n p, { status := .accepted }) := by
    rw [setConsistBody, judge_cons, judge_cons, judge_cons, judge_cons, judge_nil]
    simp only [decide_eq_true_eq]
    rfl
  refine ⟨fun h => by rw [body, if_pos h], fun h hbad => by rw [body, if_neg (not_not_intro h), if_pos hbad], fun h hn hp hblocked => ?_,
    fun h hn hp hfree => ?_⟩
  · obtain ⟨hphase, hother, hshort | habsent⟩ := hblocked
    · rw [body, if_neg (not_not_intro h), if_neg (by omega), if_pos (short.2 ⟨hphase, hother, hshort⟩)]
    · rw [body, if_neg (not_not_intro h), if_neg (by omega), if_pos (absent.2 ⟨hphase, hother, habsent⟩), ite_self]
  · rw [body, if_neg (not_not_intro h), if_neg (by omega), if_neg fun hshort => hfree ?_, if_neg fun habsent => hfree ?_]
    · obtain ⟨hphase, hother, habsent⟩ := absent.1 habsent
      exact ⟨hphase, hother, .inr habsent⟩
    · obtain ⟨hphase, hother, hshort⟩ := short.1 hshort
      exact ⟨hphase, hother, .inl hshort⟩

theorem exec_setConsist {s : State} {q : LinePort} (h : s.leads q) (n p g : Nat) :
    exec (.setConsist (.line q) n p g) s = .next (State.answer (.line q) 4 (setConsistBody n p g s.renewed).2.status
      (setConsistBody n p g s.renewed).1.consistChars (setConsistBody n p g s.renewed).1) :=
  live_withConsist_leadOnly h 4 fun _ => setConsistBody n p g

/-! ## What an accepted one writes (R40) -/

/-- The coach side after a coach number is written. -/
def State.numbered (n : Nat) (s : State) : Coach :=
  if s.consist.coachNumber = n then s.coach else s.coach.notice { s.env with coachNumber := n } .other

theorem State.setCoachNumber_eq (n : Nat) (s : State) :
    s.setCoachNumber n = { s with consist := { s.consist with coachNumber := n }, coach := s.numbered n } := by
  unfold State.setCoachNumber State.numbered
  split
  next h =>
    subst h
    rfl
  next => rfl

theorem State.numbered_quiet (n : Nat) (s : State) : (s.numbered n).journey = s.coach.journey ∧ (s.numbered n).map = s.coach.map
    ∧ (s.numbered n).reportsA = s.coach.reportsA ∧ (s.numbered n).reportsB = s.coach.reportsB ∧ (s.numbered n).position = s.coach.position
    ∧ (s.numbered n).axle = s.coach.axle := by
  unfold State.numbered
  split
  next => exact ⟨rfl, rfl, rfl, rfl, rfl, rfl⟩
  next =>
    obtain ⟨reportsA, reportsB⟩ := Coach.notice_other_reports { s.env with coachNumber := n } s.coach
    exact ⟨Coach.notice_journey _ _ _, Coach.notice_map _ _ _, reportsA, reportsB, Coach.notice_position _ _ _, Coach.notice_axle _ _ _⟩

theorem portion_eq_iff {p : Nat} (h : p ≤ 3) (k : Fin 4) : k = Fin.ofNat 4 p ↔ p = k.val := by
  rw [Fin.ext_iff, Fin.val_ofNat, Nat.mod_eq_of_lt (by omega)]
  exact eq_comm

theorem State.consistSet_same {p : Nat} {s : State} (h : s.coach.journey.phase = .empty ∨ s.consist.portion = Fin.ofNat 4 p) (n : Nat) :
    s.consistSet n p = { s with consist := { s.consist with coachNumber := n, portion := Fin.ofNat 4 p }, coach := s.numbered n } := by
  have journey : (s.numbered n).journey = s.coach.journey := (s.numbered_quiet n).1
  rw [State.consistSet, State.setCoachNumber_eq, State.setPortion]
  split
  next hsame =>
    rw [← hsame]
  next hother =>
    refine if_pos ?_
    rw [journey]
    exact h.resolve_right hother

theorem State.consistSet_new {p : Nat} {s : State} (hphase : s.coach.journey.phase ≠ .empty) (h : s.consist.portion ≠ Fin.ofNat 4 p) (n : Nat) :
    s.consistSet n p = { s with
      consist := { s.consist with coachNumber := n, portion := Fin.ofNat 4 p }
      coach := ((s.numbered n).onJourney (recalculate (Fin.ofNat 4 p))).amended { s.env with coachNumber := n, portion := Fin.ofNat 4 p } } := by
  have journey : (s.numbered n).journey = s.coach.journey := (s.numbered_quiet n).1
  rw [State.consistSet, State.setCoachNumber_eq, State.setPortion, if_neg h]
  exact if_neg (by rw [journey]; exact hphase)

theorem State.consistSet_coach {p : Nat} {s : State} (hphase : s.coach.journey.phase ≠ .empty) (h : s.consist.portion ≠ Fin.ofNat 4 p) (n : Nat) :
    (s.consistSet n p).coach
      = ((s.numbered n).onJourney (recalculate (Fin.ofNat 4 p))).amended { s.env with coachNumber := n, portion := Fin.ofNat 4 p } := by
  rw [State.consistSet_new hphase h]

/-- What an accepted SET CONSIST leaves outside its own fields. -/
theorem State.consistSet_outside (n p : Nat) (s : State) : SameOutside s (s.consistSet n p)
    ∧ (s.consistSet n p).consist = { s.consist with coachNumber := n, portion := Fin.ofNat 4 p }
    ∧ (s.consistSet n p).coach.position = s.coach.position ∧ (s.consistSet n p).coach.axle = s.coach.axle := by
  obtain ⟨-, -, -, -, position, axle⟩ := s.numbered_quiet n
  by_cases h : s.coach.journey.phase = .empty ∨ s.consist.portion = Fin.ofNat 4 p
  · rw [State.consistSet_same h]
    exact ⟨⟨rfl, rfl, rfl, rfl, rfl, rfl, rfl, rfl, rfl⟩, rfl, position, axle⟩
  · rw [not_or] at h
    rw [State.consistSet_new h.1 h.2]
    refine ⟨⟨rfl, rfl, rfl, rfl, rfl, rfl, rfl, rfl, rfl⟩, rfl, ?_, ?_⟩
    · rw [Coach.amended_position]
      exact position
    · rw [Coach.amended_axle]
      exact axle

theorem State.env_of_outside {n : Nat} {k : Fin 4} {s t : State} (h : SameOutside s t)
    (hconsist : t.consist = { s.consist with coachNumber := n, portion := k }) : t.env = { s.env with coachNumber := n, portion := k } := by
  obtain ⟨-, -, -, now, levels, params, portA, portB, -⟩ := h
  rw [State.env, hconsist, now, levels, params, portA, portB]
  rfl

/-- The judgement as one choice: accepted with the fields written, or refused with nothing changed. -/
theorem setConsistBody_cases (n p g : Nat) (s : State) :
    (g = s.consist.generation ∧ n ≤ 32 ∧ p ≤ 3 ∧ ¬ s.portionBlocked p ∧ setConsistBody n p g s = (s.consistSet n p, { status := .accepted }))
    ∨ (setConsistBody n p g s).1 = s ∧ (setConsistBody n p g s).2.status ≠ .accepted := by
  obtain ⟨stale, bad, blocked, taken⟩ := setConsistBody_eq n p g s
  by_cases hg : g = s.consist.generation
  · by_cases hfields : 32 < n ∨ 3 < p
    · rw [bad hg hfields]
      exact .inr ⟨rfl, nofun⟩
    · have hn : n ≤ 32 := by omega
      have hp : p ≤ 3 := by omega
      by_cases hblocked : s.portionBlocked p
      · rw [blocked hg hn hp hblocked]
        exact .inr ⟨rfl, nofun⟩
      · exact .inl ⟨hg, hn, hp, hblocked, taken hg hn hp hblocked⟩
  · rw [stale hg]
    exact .inr ⟨rfl, nofun⟩

/-- Settles O14: the checks in order, and the fields, the coach number and the portion that an accepted one writes. -/
theorem setConsistIsJudgedAndWritten : Obligations.SetConsistIsJudgedAndWritten := by
  intro s q n p g hleads
  obtain ⟨stale, bad, blocked, taken⟩ := setConsistBody_eq n p g s.renewed
  have written : ∀ {P : Prop}, ((setConsistBody n p g s.renewed).1 = s.renewed.consistSet n p → p ≤ 3 → P) →
      (setConsistBody n p g s.renewed).2.status = .accepted → P := fun h hst => by
    rcases setConsistBody_cases n p g s.renewed with ⟨-, -, hp, -, hbody⟩ | ⟨-, hrefused⟩
    · exact h (congrArg Prod.fst hbody) hp
    · exact absurd hst hrefused
  refine ⟨_, _, (setConsistBody n p g s.renewed).2.status, (setConsistBody n p g s.renewed).1, rfl, rfl, exec_setConsist hleads n p g,
    fun hg => congrArg (fun b => b.2.status) (stale hg), fun hg hfields => congrArg (fun b => b.2.status) (bad hg hfields),
    fun hg hn hp hphase hother hblocked => congrArg (fun b => b.2.status) (blocked hg hn hp ⟨hphase, hother, hblocked⟩),
    fun hg hn hp hfree => congrArg (fun b => b.2.status) (taken hg hn hp ?_), fun hrefused => ?_, written fun hbody _ => ?_,
    written fun hbody hp hn hsame => ?_, written fun hbody hp hsame => ?_, written fun hbody hp => ?_⟩
  · rintro ⟨hphase, hother, hblocked⟩
    rcases hfree with hempty | hsame | ⟨hlong, hpresent⟩
    · exact hphase hempty
    · exact hother hsame
    · exact hblocked.elim hlong hpresent
  · rcases setConsistBody_cases n p g s.renewed with ⟨-, -, -, -, hbody⟩ | ⟨hkept, -⟩
    · rw [hbody] at hrefused
      exact absurd rfl hrefused
    · exact hkept
  · rw [hbody]
    exact s.renewed.consistSet_outside n p
  · rw [hbody, State.consistSet_same (s := s.renewed) (.inr ((portion_eq_iff hp _).2 hsame))]
    exact if_pos hn.symm
  · obtain ⟨journey, map, reportsA, reportsB, -⟩ := s.renewed.numbered_quiet n
    rw [hbody, State.consistSet_same (s := s.renewed) (hsame.imp id (portion_eq_iff hp _).2)]
    exact ⟨journey, map, reportsA, reportsB⟩
  · obtain ⟨journey, -, -, -, position, axle⟩ := s.renewed.numbered_quiet n
    have env : (s.renewed.consistSet n p).env = { s.env with coachNumber := n, portion := Fin.ofNat 4 p } :=
      State.env_of_outside (s := s.renewed) (s.renewed.consistSet_outside n p).1 (s.renewed.consistSet_outside n p).2.1
    have turned : (s.renewed.numbered n).onJourney (recalculate (Fin.ofNat 4 p))
        = { s.renewed.numbered n with journey := recalculate (Fin.ofNat 4 p) s.coach.journey } := by
      rw [Coach.onJourney, journey]
      rfl
    rw [hbody, env]
    refine ⟨s.renewed.numbered n, fun hn => if_pos hn.symm, fun hn => if_neg fun h => hn h.symm, fun hsame => ?_, fun hphase hother =>
      ⟨{ s.renewed.numbered n with journey := recalculate (Fin.ofNat 4 p) s.coach.journey }, _, rfl, rfl, ?_, ?_, ?_, ?_⟩⟩
    · rw [State.consistSet_same (s := s.renewed) (hsame.imp id (portion_eq_iff hp _).2)]
    · simp
    · simp [position]
    · simp [axle]
    · rw [State.consistSet_coach (s := s.renewed) hphase fun h => hother ((portion_eq_iff hp _).1 h), turned, State.renewed_env, Coach.amended]

end Sys2Proof.Machine
end

section
/-! # AMEND STOP (1.4) -/
namespace Sys2Proof.Machine

theorem exec_amendStop {s : State} {q : LinePort} (h : s.leads q) (a : AmendReq) :
    exec (.amendStop (.line q) a) s = .next (State.answer (.line q) 11 (amendStopBody a s.renewed).2.status
      (amendStopBody a s.renewed).2.results (amendStopBody a s.renewed).1) :=
  live_leadOnly h 11 fun _ => amendStopBody a

theorem findCode_none {list : List StopRec} {code : Nat} (h : ∀ r ∈ list, r.code ≠ code) : findCode list code = none := by
  simpa [findCode] using h

/-! ## The record (R13) -/

theorem AmendReq.record_eq (a : AmendReq) (r : StopRec) : AmendReq.record a r = { r with
    calling := a.calling == 1, side := (AmendReq.record a r).side, platform := (AmendReq.record a r).platform, arrival := (AmendReq.record a r).arrival
    departure := (AmendReq.record a r).departure } := rfl

theorem AmendReq.record_side (a : AmendReq) (r : StopRec) : (a.side = .unchanged → (AmendReq.record a r).side = r.side)
    ∧ ∀ v y, a.side = .value v → sideOf v = some y → (AmendReq.record a r).side = y := by
  refine ⟨fun h => ?_, fun v y h hy => ?_⟩
  · simp only [AmendReq.record, h]
  · simp only [AmendReq.record, h, hy, Option.getD_some]

theorem Amend.apply_eq (f : Amend) (old : Option Nat) : (f = .unchanged → Amend.apply f old = old) ∧ (∀ v, f = .value v → Amend.apply f old = some v)
    ∧ (f = .absent → Amend.apply f old = none) := ⟨by rintro rfl; rfl, by rintro v rfl; rfl, by rintro rfl; rfl⟩

/-- Steps 6 and 7 of R13. -/
theorem amendBreaks_iff {portion : Fin 4} {j : Journey} {list : List StopRec} {r : StopRec} {off : Bool} :
    amendBreaks portion j list r off = true ↔ (off = true ∧ (r.status = .current ∨ r.reverse = true ∨ r.split = true ∨ r.join = true))
      ∨ (j.atStop = none ∧ ∀ y ∈ list, y.status = .ahead → y.callsAt portion = false)
      ∨ (off = true ∧ ∃ g, j.atStop = some g ∧ ∀ m y, g < m → list[m]? = some y → y.callsAt portion = false)
      ∨ callCount list portion < 2 := by
  have ahead : nextAhead portion list 0 = none ↔ ∀ y ∈ list, y.status = .ahead → y.callsAt portion = false := by
    rw [nextAhead_eq_none]
    refine ⟨fun h y hy => ?_, fun h m y _ hy => h y (List.mem_of_getElem? hy)⟩
    obtain ⟨m, hm⟩ := List.mem_iff_getElem?.1 hy
    exact h m y (Nat.zero_le m) hm
  simp only [amendBreaks, Bool.or_eq_true, Bool.and_eq_true, Option.isNone_iff_eq_none, ahead, Option.any_eq_true, lastCall_iff,
    decide_eq_true_eq, or_assoc]

/-! ## The judgement -/

/-- The checks of AMEND STOP for a record that is in the list (R13). -/
theorem amendStopBody_eq {s : State} {a : AmendReq} {i : Nat} {r : StopRec} (hphase : s.coach.journey.phase ≠ .empty)
    (hi : findCode s.coach.journey.list a.code = some i) (hr : s.coach.journey.list[i]? = some r) : amendStopBody a s
      = if AmendReq.outside a = true then refuse .badField s
        else if r.status.past = true then refuse .pastStop s
        else if amendBreaks s.consist.portion s.coach.journey (s.coach.journey.list.modify i (AmendReq.record a)) r
            (r.calling && a.calling = 0) = true then refuse .badField s
        else (s.onCoach (Coach.amend i a r.calling), { status := .accepted }) := by
  rw [amendStopBody, if_neg hphase, hi]
  simp only [hr]
  rw [judge_cons, judge_cons, judge_cons, judge_nil]
  rfl

theorem StopStatus.not_past {st : StopStatus} (h : st = .ahead ∨ st = .current) : ¬ st.past = true := by
  rcases h with rfl | rfl <;> exact Bool.false_ne_true

theorem modify_getElem? {list : List StopRec} {i : Nat} {r : StopRec} (f : StopRec → StopRec) (hr : list[i]? = some r) (m : Nat) :
    (list.modify i f)[m]? = if m = i then some (f r) else list[m]? := by
  rw [List.getElem?_modify]
  by_cases h : m = i
  · subst h
    simp [hr]
  · simp [h, Ne.symm h]

/-- The coach side with the amendment written and the calling set recalculated where calling has changed. -/
def Coach.amendedTo (i : Nat) (a : AmendReq) (calling : Bool) (e : Env) (c : Coach) : Coach :=
  if calling = (a.calling == 1) then c.onJourney fun j => { j with list := j.list.modify i (AmendReq.record a) }
  else (c.onJourney fun j => { j with list := j.list.modify i (AmendReq.record a) }).onJourney (recalculate e.portion)

/-- The AMENDMENT change as the units take it, before the evaluation. -/
def Coach.handedAmendment (e : Env) (c : Coach) : Coach := ((c.reserveAmend e).notice e .amendment).mapWindow e

theorem Coach.amend_eq (i : Nat) (a : AmendReq) (calling : Bool) (e : Env) (c : Coach) :
    c.amend i a calling e = ((c.amendedTo i a calling e).handedAmendment e).evaluate e := rfl

theorem Coach.amendedTo_eq (i : Nat) (a : AmendReq) (calling : Bool) (e : Env) (c : Coach) : c.amendedTo i a calling e = { c with
    journey := if (a.calling == 1) = calling then { c.journey with list := c.journey.list.modify i (AmendReq.record a) }
      else recalculate e.portion { c.journey with list := c.journey.list.modify i (AmendReq.record a) } } := by
  rw [Coach.amendedTo]
  by_cases h : calling = (a.calling == 1)
  · rw [if_pos h, if_pos h.symm]
    rfl
  · rw [if_neg h, if_neg fun h' => h h'.symm]
    rfl

theorem Coach.handedAmendment_journey (e : Env) (c : Coach) : (c.handedAmendment e).journey = c.journey := by simp [Coach.handedAmendment]

theorem Coach.handedAmendment_position (e : Env) (c : Coach) : (c.handedAmendment e).position = c.position := by simp [Coach.handedAmendment]

theorem Coach.handedAmendment_axle (e : Env) (c : Coach) : (c.handedAmendment e).axle = c.axle := by simp [Coach.handedAmendment]

/-- Settles O21: the checks in order, the fields that an accepted amendment writes, and what is handed on. -/
theorem amendStopIsJudgedAndWritten : Obligations.AmendStopIsJudgedAndWritten := by
  intro s q a hleads
  have refused : ∀ {st}, amendStopBody a s.renewed = refuse st s.renewed →
      exec (.amendStop (.line q) a) s = .next (State.answer (.line q) 11 st [] s.renewed) := fun h => by
    rw [exec_amendStop hleads, h, refuse]
  refine ⟨fun hphase => refused (if_pos hphase), fun hphase hnone => refused ?_, fun i r hphase hi hr => ?_⟩
  · rw [amendStopBody, if_neg (c := s.renewed.coach.journey.phase = .empty) hphase, State.renewed_coach, findCode_none hnone]
  have body := amendStopBody_eq (s := s.renewed) hphase hi hr
  have off : (r.calling && a.calling = 0) = true ↔ r.calling = true ∧ a.calling = 0 := by simp
  have breaks := amendBreaks_iff (portion := s.consist.portion) (j := s.coach.journey)
    (list := s.coach.journey.list.modify i (AmendReq.record a)) (r := r) (off := r.calling && a.calling = 0)
  rw [off] at breaks
  refine ⟨_, _, AmendReq.record a r, s.coach.journey.list.modify i (AmendReq.record a), rfl, ⟨AmendReq.record_eq a r, (AmendReq.record_side a r).1, (AmendReq.record_side a r).2,
    fun f old new hf => ?_⟩, fun m => ?_, rfl, fun hout => refused ?_, fun hout hpast => refused ?_, fun hout hleft hbroken => refused ?_,
    fun hout hleft hwhole => ?_⟩
  · simp only [List.mem_cons, Prod.mk.injEq, List.not_mem_nil, or_false] at hf
    rcases hf with ⟨rfl, rfl, rfl⟩ | ⟨rfl, rfl, rfl⟩ | ⟨rfl, rfl, rfl⟩
    · exact Amend.apply_eq _ _
    · exact Amend.apply_eq _ _
    · exact Amend.apply_eq _ _
  · exact modify_getElem? (AmendReq.record a) hr m
  · rw [body, if_pos hout]
  · rw [body, if_neg (by rw [hout]; exact Bool.false_ne_true), if_pos ((StopStatus.past_iff _).2 hpast)]
  · rw [body, if_neg (by rw [hout]; exact Bool.false_ne_true), if_neg (StopStatus.not_past hleft)]
    exact if_pos (breaks.2 hbroken)
  · have taken : amendStopBody a s.renewed = (s.renewed.onCoach (Coach.amend i a r.calling), { status := .accepted }) := by
      rw [body, if_neg (by rw [hout]; exact Bool.false_ne_true), if_neg (StopStatus.not_past hleft)]
      exact if_neg fun h => hwhole (breaks.1 h)
    let t := s.coach.amendedTo i a r.calling s.env
    obtain ⟨journey, position, axle⟩ : t.journey = _ ∧ t.position = s.coach.position ∧ t.axle = s.coach.axle := by
      rw [show t = _ from Coach.amendedTo_eq i a r.calling s.env s.coach]
      exact ⟨rfl, rfl, rfl⟩
    have same : ({ s.coach with journey := t.journey } : Coach) = t := by
      rw [show t = _ from Coach.amendedTo_eq i a r.calling s.env s.coach]
    have written : (s.renewed.onCoach (Coach.amend i a r.calling)).coach = (t.handedAmendment s.env).evaluate s.env := by
      rw [State.onCoach, State.renewed_env, State.renewed_coach, Coach.amend_eq]
    refine ⟨s.renewed.onCoach (Coach.amend i a r.calling), t.handedAmendment s.env, ?_, ⟨rfl, rfl, rfl, rfl, rfl, rfl, rfl, rfl, rfl⟩, rfl, ?_, ?_,
      ?_, ?_, ?_, ?_, written⟩
    · rw [exec_amendStop hleads, taken]
    · rw [written, Coach.evaluate_position, Coach.handedAmendment_position, position]
    · rw [written, Coach.evaluate_axle, Coach.handedAmendment_axle, axle]
    · rw [Coach.handedAmendment_journey, journey]
      rfl
    · rw [Coach.handedAmendment_journey, same]
      rfl
    · rw [Coach.handedAmendment_position, position]
    · rw [Coach.handedAmendment_axle, axle]

end Sys2Proof.Machine
end

section
/-! # The remap of a commit (1.3) -/
namespace Sys2Proof.Machine

/-! ## The progress point (R11) -/

/-- Above an optional index: at or after the index that follows it, or anywhere with none. -/
theorem after_le_iff {last : Option Nat} {m : Nat} : last.elim 0 (· + 1) ≤ m ↔ ∀ l, last = some l → l < m := by
  cases last with
  | none => simp
  | some l => exact ⟨fun hle k hk => Option.some.inj hk ▸ hle, fun hall => hall l rfl⟩

/-- The stop that is kept: its record is calling and it is above last departed. -/
def keptStop (portion : Fin 4) (list : List StopRec) (last at' : Option Nat) : Option Nat :=
  at'.filter fun i => (list[i]?).any (StopRec.callsAt portion) && last.all (· < i)

theorem keptStop_iff {portion : Fin 4} {list : List StopRec} {last at' : Option Nat} {a : Nat} : keptStop portion list last at' = some a
    ↔ at' = some a ∧ (∃ r, list[a]? = some r ∧ r.callsAt portion = true) ∧ ∀ l, last = some l → l < a := by
  rw [keptStop, Option.filter_eq_some_iff, Bool.and_eq_true, Option.any_eq_true, Option.all_eq_true]
  simp

theorem nextCall_none_iff {portion : Fin 4} {list : List StopRec} {last : Option Nat} : nextCall list portion (last.elim 0 (· + 1)) = none
    ↔ ∀ (i : Nat) r, list[i]? = some r → (∀ l, last = some l → l < i) → r.callsAt portion = false := by
  rw [nextCall, findFrom_eq_none]
  exact forall₂_congr fun i r => ⟨fun h hr hl => h (after_le_iff.2 hl) hr, fun h hl hr => h hr (after_le_iff.1 hl)⟩

theorem remapPoint_eq (portion : Fin 4) (list : List StopRec) (j : Journey) : ∃ last at',
    last = (codeAt j.list j.lastDeparted).bind (findCode list) ∧ at' = (codeAt j.list j.atStop).bind (findCode list)
    ∧ remapPoint portion list j = if codeAt j.list j.lastDeparted ≠ none ∧ last = none then none
        else if keptStop portion list last at' = none ∧ nextCall list portion (last.elim 0 (· + 1)) = none then none
        else some (last, keptStop portion list last at') := by
  refine ⟨_, _, rfl, rfl, ?_⟩
  simp only [remapPoint, Option.isSome_iff_ne_none, Option.isNone_iff_eq_none]
  rfl

/-- What a remap that can be made says of its indices. -/
theorem remapPoint_some {portion : Fin 4} {list : List StopRec} {j : Journey} {last at' : Option Nat}
    (h : remapPoint portion list j = some (last, at')) :
    (∀ a, at' = some a → (∃ r, list[a]? = some r ∧ r.callsAt portion = true) ∧ ∀ l, last = some l → l < a)
    ∧ (at' = none → nextCall list portion (last.elim 0 (· + 1)) ≠ none) := by
  obtain ⟨l, a, -, -, hpoint⟩ := remapPoint_eq portion list j
  rw [hpoint] at h
  split at h
  · cases h
  split at h
  · cases h
  next hserved =>
    obtain ⟨rfl, rfl⟩ := Prod.mk.inj (Option.some.inj h)
    exact ⟨fun a ha => (keptStop_iff.1 ha).2, fun hnone hnext => hserved ⟨hnone, hnext⟩⟩

/-! ## The records and the fields after it (R11) -/

/-- The highest index below a bound with a property. -/
theorem highest_eq_some {f : Nat → Bool} {i : Nat} : ∀ {a : Nat},
    (List.range a).reverse.find? f = some i ↔ i < a ∧ f i = true ∧ ∀ n, i < n → n < a → f n = false
  | 0 => by simp
  | a + 1 => by
    rw [List.range_succ, List.reverse_append, List.reverse_singleton, List.singleton_append, List.find?_cons]
    split
    next hf =>
      rw [Option.some.injEq]
      refine ⟨?_, fun ⟨hi, _, hnone⟩ => ?_⟩
      · rintro rfl
        exact ⟨by omega, hf, fun n _ _ => by omega⟩
      · refine Classical.byContradiction fun hne => ?_
        have := hnone a (by omega) (by omega)
        simp [hf] at this
    next hf =>
      rw [highest_eq_some (a := a)]
      refine ⟨fun ⟨hi, hfi, hnone⟩ => ⟨by omega, hfi, fun n hn hna => ?_⟩, fun ⟨hi, hfi, hnone⟩ => ⟨?_, hfi, fun n hn hna => hnone n hn (by omega)⟩⟩
      · rcases Nat.lt_succ_iff_lt_or_eq.1 hna with hlt | rfl
        · exact hnone n hn hlt
        · simpa using hf
      · rcases Nat.lt_succ_iff_lt_or_eq.1 hi with hlt | rfl
        · exact hlt
        · simp [hf] at hfi

theorem highest_eq_none {f : Nat → Bool} {a : Nat} : (List.range a).reverse.find? f = none ↔ ∀ i, i < a → f i = false := by
  simp

/-- The calling record that a kept stop skips, as the remap looks for it. -/
def skipped (portion : Fin 4) (list : List StopRec) (last : Option Nat) (i : Nat) : Bool :=
  (list[i]?).any (StopRec.callsAt portion) && last.all (· < i)

theorem skipped_iff {portion : Fin 4} {list : List StopRec} {last : Option Nat} {i : Nat} : skipped portion list last i = true
    ↔ (∃ r, list[i]? = some r ∧ r.callsAt portion = true) ∧ ∀ l, last = some l → l < i := by
  rw [skipped, Bool.and_eq_true, Option.any_eq_true, Option.all_eq_true]
  simp

theorem remapLast_skips {portion : Fin 4} {list : List StopRec} {last : Option Nat} {a i : Nat}
    (h : i < a ∧ skipped portion list last i = true ∧ ∀ n, i < n → n < a → skipped portion list last n = false) :
    remapLast portion list last (some a) = some i := by
  have found : (List.range a).reverse.find? (skipped portion list last) = some i := highest_eq_some.2 h
  unfold remapLast
  simp only
  rw [show (List.range a).reverse.find? (fun i => (list[i]?).any (StopRec.callsAt portion) && last.all (· < i)) = some i from found]

theorem remapLast_keeps {portion : Fin 4} {list : List StopRec} {last : Option Nat} {a : Nat}
    (h : ∀ i, i < a → skipped portion list last i = false) : remapLast portion list last (some a) = last := by
  have found : (List.range a).reverse.find? (skipped portion list last) = none := highest_eq_none.2 h
  unfold remapLast
  simp only
  rw [show (List.range a).reverse.find? (fun i => (list[i]?).any (StopRec.callsAt portion) && last.all (· < i)) = none from found]

/-- A record above an optional index is neither there nor before it. -/
theorem above_not {last : Option Nat} {i : Nat} (h : ∀ l, last = some l → l < i) : last ≠ some i ∧ ¬ last.any (i < ·) = true := by
  refine ⟨fun hi => Nat.lt_irrefl _ (h i hi), fun hany => ?_⟩
  obtain ⟨l, hl, hil⟩ := (Option.any_eq_true _ _).1 hany
  have := h l hl
  have := of_decide_eq_true hil
  omega

theorem before_any {last : Option Nat} {i l : Nat} (hl : last = some l) (h : i < l) : last ≠ some i ∧ last.any (i < ·) = true := by
  subst hl
  exact ⟨fun hi => by simp at hi; omega, decide_eq_true h⟩

/-- The status of a record after the remap, by where it lies. -/
theorem remapStatus_cases {portion : Fin 4} {was : StopStatus} {last at' : Option Nat} {i : Nat} {r : StopRec}
    (habove : ∀ a, at' = some a → ∀ l, last = some l → l < a) :
    (last = some i → remapStatus portion was last at' i r = was)
    ∧ (∀ l, last = some l → i < l → remapStatus portion was last at' i r = if r.callsAt portion then .departed else .passed)
    ∧ (at' = some i → remapStatus portion was last at' i r = .current)
    ∧ (∀ a, at' = some a → i < a → (∀ l, last = some l → l < i) →
        remapStatus portion was last at' i r = if r.callsAt portion then .runThrough else .passed)
    ∧ ((∀ l, last = some l → l < i) → (∀ a, at' = some a → a < i) → remapStatus portion was last at' i r = .ahead) := by
  unfold remapStatus
  refine ⟨fun h => if_pos h, fun l hl hi => ?_, fun h => ?_, fun a ha hi hl => ?_, fun hl ha => ?_⟩
  · obtain ⟨hne, hany⟩ := before_any hl hi
    rw [if_neg hne, if_pos hany]
  · obtain ⟨hne, hany⟩ := above_not (habove i h)
    rw [if_neg hne, if_neg hany, if_pos h]
  · obtain ⟨hne, hany⟩ := above_not hl
    obtain ⟨hne', hany'⟩ := before_any ha hi
    rw [if_neg hne, if_neg hany, if_neg hne', if_pos hany']
  · obtain ⟨hne, hany⟩ := above_not hl
    obtain ⟨hne', hany'⟩ := above_not ha
    rw [if_neg hne, if_neg hany, if_neg hne', if_neg hany']

/-- Settles O19: when the remap can be made, then its records and its fields. -/
theorem commitRemapsProgress : Obligations.CommitRemapsProgress := by
  refine ⟨fun portion list j => ?_, fun e list j last at' hpoint => ?_⟩
  · obtain ⟨last, at', hlast, hat, heq⟩ := remapPoint_eq portion list j
    refine ⟨last, at', keptStop portion list last at', _, _, hlast, hat, fun a => keptStop_iff, rfl, rfl, fun h => ?_, fun hgone hstranded => ?_⟩
    · rw [heq]
      rcases h with hgone | ⟨hkept, hnext⟩
      · exact if_pos hgone
      · split
        · rfl
        · exact if_pos ⟨hkept, nextCall_none_iff.2 hnext⟩
    · rw [heq, if_neg hgone, if_neg fun h => hstranded ⟨h.1, nextCall_none_iff.1 h.2⟩]
  · obtain ⟨hkept, hserved⟩ := remapPoint_some hpoint
    refine ⟨_, rfl, ?_, rfl, rfl, by simp [remapped], fun i r hr => ⟨_, ?_, remapStatus_cases fun a ha => (hkept a ha).2⟩, fun a ha => ?_, fun hnone => ?_,
      fun a i r ha hi hr hcalls hlast hbetween => ?_, fun a ha hskips => ?_, fun a ha hlast => ?_, fun hcalls => ?_⟩
    · rw [commitOf, hpoint]
      exact ite_congr (propext (Phase.running_iff _)) (fun _ => rfl) fun _ => rfl
    · simp [remapped, hr]
    · subst ha
      obtain ⟨⟨r, hr, hcalls⟩, -⟩ := hkept a rfl
      refine ⟨rfl, r, hr, hcalls, ?_⟩
      simp [remapped, recordAt, hr]
    · subst hnone
      obtain ⟨n, hn⟩ := Option.ne_none_iff_exists'.1 (hserved rfl)
      obtain ⟨hfrom, ⟨r, hr, hcalls⟩, hbefore⟩ := findFrom_eq_some.1 hn
      exact ⟨rfl, rfl, n, r, hn, hr, hcalls, after_le_iff.1 hfrom, fun m y hm hl hy => hbefore m y (after_le_iff.2 hl) hm hy⟩
    · subst ha
      refine remapLast_skips ⟨hi, skipped_iff.2 ⟨⟨r, hr, hcalls⟩, hlast⟩, fun n hn hna => ?_⟩
      rw [← Bool.not_eq_true, skipped_iff]
      rintro ⟨⟨y, hy, hy'⟩, -⟩
      rw [hbetween n y hn hna hy] at hy'
      cases hy'
    · subst ha
      refine remapLast_keeps fun i hi => ?_
      rw [← Bool.not_eq_true, skipped_iff]
      rintro ⟨⟨y, hy, hy'⟩, habove⟩
      obtain ⟨l, hl, hil⟩ := hskips i y hi hy hy'
      have := habove l hl
      omega
    · subst ha
      exact if_pos (lastCall_iff.2 hlast)
    · refine if_neg fun hterminated => ?_
      obtain ⟨a, ha, hlast⟩ := (Option.any_eq_true _ _).1 hterminated
      obtain ⟨n, y, hn, hy, hy'⟩ := hcalls a ha
      rw [lastCall_iff.1 hlast n y hn hy] at hy'
      cases hy'

end Sys2Proof.Machine
end

section
/-! # Loading a stop list: STOP RECORDS and the checks of END LOAD (1.1, 1.3) -/
namespace Sys2Proof.Machine

/-! ## STOP RECORDS (R8) -/

theorem exec_stopRecords {s : State} {q : LinePort} (h : s.leads q) (first : Nat) (rs : List StopWire) :
    exec (.stopRecords (.line q) first rs) s = .next (State.answer (.line q) 9 (stopRecordsBody first rs q s.renewed).2.status
      (stopRecordsBody first rs q s.renewed).2.results (stopRecordsBody first rs q s.renewed).1) :=
  live_leadOnly h 9 (stopRecordsBody first rs)

/-- The checks of STOP RECORDS in order. -/
theorem stopRecordsBody_eq (first : Nat) (rs : List StopWire) (q : LinePort) (s : State) : stopRecordsBody first rs q s
    = if s.consist.stagingOwner ≠ some q then refuse .noLoad s
      else if rs.length = 0 ∨ 12 < rs.length ∨ s.coach.journey.staging.length < first + rs.length then refuse .badField s
      else if (rs.any fun r => !StopWire.ok r) = true then refuse .badField s
      else (s.onCoach fun _ c => c.onJourney fun j => { j with staging := writeStaging first (rs.map StopWire.record) j.staging },
        { status := .accepted }) := by
  rw [stopRecordsBody, judge_cons, judge_cons, judge_cons, judge_nil]
  simp only [decide_eq_true_eq]
  rfl

theorem badRecord_iff {rs : List StopWire} : (rs.any fun r => !StopWire.ok r) = true ↔ ∃ r ∈ rs, StopWire.ok r = false := by simp

theorem writeStaging_length {first : Nat} {rs : List StopRec} {staging : List (Option StopRec)} (h : first + rs.length ≤ staging.length) :
    (writeStaging first rs staging).length = staging.length := by
  simp [writeStaging]
  omega

/-- The records are written from the first index on; every other index keeps what it holds. -/
theorem writeStaging_getElem? {first : Nat} {rs : List StopRec} {staging : List (Option StopRec)} (h : first + rs.length ≤ staging.length)
    (i : Nat) : (writeStaging first rs staging)[i]? = if i < first ∨ first + rs.length ≤ i then staging[i]? else (rs[i - first]?).map some := by
  have taken : (staging.take first).length = first := by
    rw [List.length_take]
    omega
  rw [writeStaging, List.append_assoc]
  by_cases hbefore : i < first
  · rw [if_pos (.inl hbefore), List.getElem?_append_left (by omega), List.getElem?_take_of_lt hbefore]
  · rw [List.getElem?_append_right (by omega), taken]
    by_cases hafter : first + rs.length ≤ i
    · rw [if_pos (.inr hafter), List.getElem?_append_right (by simp; omega), List.getElem?_drop, List.length_map]
      congr 1
      omega
    · rw [if_neg (by omega), List.getElem?_append_left (by simp; omega), List.getElem?_map]

/-! ## The checks of END LOAD (R9) -/

theorem exec_endLoad {s : State} {q : LinePort} (h : s.leads q) : exec (.endLoad (.line q)) s
    = .next (State.answer (.line q) 10 (endLoadBody q s.renewed).2.status (endLoadBody q s.renewed).2.results (endLoadBody q s.renewed).1) :=
  live_leadOnly h 10 endLoadBody

/-- A list that fails a check is refused with the index, and nothing changes. -/
theorem exec_endLoad_bad {s : State} {q : LinePort} {i : Nat} (h : s.leads q) (howner : s.consist.stagingOwner = some q)
    (hbad : badListIndex s.consist.portion s.coach.journey.staging = some i) :
    exec (.endLoad (.line q)) s = .next (State.answer (.line q) 10 .badList [BitVec.ofNat 8 i] s.renewed) := by
  have body : endLoadBody q s.renewed = (s.renewed, { status := .badList, results := leBytes 1 i }) := by
    rw [endLoadBody, if_neg (not_not_intro (show s.renewed.consist.stagingOwner = some q from howner)),
      show badListIndex s.renewed.consist.portion s.renewed.coach.journey.staging = some i from hbad]
  rw [exec_endLoad h, body, leBytes_one]

/-- The lowest index with a property. -/
theorem lowestIndex_eq_some {list : List StopRec} {bad : Nat → StopRec → Bool} {i : Nat} : lowestIndex list bad = some i
    ↔ (∃ r, list[i]? = some r ∧ bad i r = true) ∧ ∀ k y, k < i → list[k]? = some y → bad k y = false := by
  have any : ∀ k, (list[k]?).any (bad k) = true ↔ ∃ r, list[k]? = some r ∧ bad k r = true := fun k => Option.any_eq_true _ _
  rw [lowestIndex, List.find?_range_eq_some, List.mem_range]
  constructor
  · rintro ⟨hfound, -, hbefore⟩
    refine ⟨(any i).1 hfound, fun k y hk hy => ?_⟩
    have := hbefore k hk
    simpa [hy] using this
  · rintro ⟨⟨r, hr, hbad⟩, hbefore⟩
    refine ⟨(any i).2 ⟨r, hr, hbad⟩, (List.getElem?_eq_some_iff.1 hr).1, fun k hk => ?_⟩
    have hk' : k < list.length := Nat.lt_trans hk (List.getElem?_eq_some_iff.1 hr).1
    have := hbefore k _ hk (List.getElem?_eq_getElem hk')
    simp [hk', this]

theorem lowestIndex_eq_none {list : List StopRec} {bad : Nat → StopRec → Bool} :
    lowestIndex list bad = none ↔ ∀ (k : Nat) y, list[k]? = some y → bad k y = false := by
  rw [lowestIndex, List.find?_eq_none]
  constructor
  · intro h k y hy
    have := h k (List.mem_range.2 (List.getElem?_eq_some_iff.1 hy).1)
    simpa [hy] using this
  · intro h k hk
    rw [List.mem_range] at hk
    simp [hk, h k _ (List.getElem?_eq_getElem hk)]

/-- The record at an index has a code that a lower index has. -/
def repeats (list : List StopRec) (i : Nat) (r : StopRec) : Bool := (list.take i).any fun q => q.code = r.code

/-- The record at an index is not above the one before it. -/
def falls (list : List StopRec) (i : Nat) (r : StopRec) : Bool := i ≠ 0 && (list[i - 1]?).any fun q => r.position ≤ q.position

theorem repeats_iff {list : List StopRec} {i : Nat} {r : StopRec} :
    repeats list i r = true ↔ ∃ k y, k < i ∧ list[k]? = some y ∧ y.code = r.code := by
  rw [repeats, List.any_eq_true]
  constructor
  · rintro ⟨y, hy, hcode⟩
    obtain ⟨k, hk⟩ := List.mem_iff_getElem?.1 hy
    rw [List.getElem?_take] at hk
    split at hk
    next hki => exact ⟨k, y, hki, hk, of_decide_eq_true hcode⟩
    next => cases hk
  · rintro ⟨k, y, hk, hy, hcode⟩
    exact ⟨y, List.mem_of_getElem? (i := k) (by rw [List.getElem?_take_of_lt hk, hy]), decide_eq_true hcode⟩

/-- Codes that all differ: no record repeats one. -/
theorem nodup_codes_iff {list : List StopRec} :
    (list.map StopRec.code).Nodup ↔ ∀ (i : Nat) r, list[i]? = some r → repeats list i r = false := by
  rw [List.Nodup, List.pairwise_map, List.pairwise_iff_getElem]
  constructor
  · intro h i r hr
    rw [← Bool.not_eq_true, repeats_iff]
    rintro ⟨k, y, hk, hy, hcode⟩
    obtain ⟨hi, rfl⟩ := List.getElem?_eq_some_iff.1 hr
    obtain ⟨hk', rfl⟩ := List.getElem?_eq_some_iff.1 hy
    exact h k i hk' hi hk hcode
  · intro h i j hi hj hij hcode
    have := h j _ (List.getElem?_eq_getElem hj)
    rw [← Bool.not_eq_true, repeats_iff] at this
    exact this ⟨i, _, hij, List.getElem?_eq_getElem hi, hcode⟩

/-- The checks after the first, on a list that is written throughout. -/
theorem badListIndex_written {portion : Fin 4} {g : List (Option StopRec)} {list : List StopRec} (hlist : list = g.filterMap id)
    (hwhole : none ∉ g) : badListIndex portion g = (lowestIndex list (repeats list)
      <|> lowestIndex list (falls list)
      <|> (if callCount list portion < 2 then some ((nextCall list portion 0).getD 0) else none)
      <|> lowestIndex list fun i r => !flagsPlaced list.length i r) := by
  have written : g.findIdx? Option.isNone = none := by
    rw [List.findIdx?_eq_none_iff]
    intro x hx
    cases x with
    | none => exact absurd hx hwhole
    | some r => rfl
  subst hlist
  rw [badListIndex, written]
  rfl

theorem badListIndex_unwritten {portion : Fin 4} {g : List (Option StopRec)} {i : Nat} (h : g[i]? = some none) (hbefore : none ∉ g.take i) :
    badListIndex portion g = some i := by
  have found : g.findIdx? Option.isNone = some i := by
    rw [List.findIdx?_eq_some_iff_getElem]
    obtain ⟨hi, hg⟩ := List.getElem?_eq_some_iff.1 h
    refine ⟨hi, by rw [hg]; rfl, fun k hk hnone => hbefore ?_⟩
    rw [← Option.isNone_iff_eq_none.1 hnone]
    exact List.mem_of_getElem? (i := k) (by rw [List.getElem?_take_of_lt hk, List.getElem?_eq_getElem])
  rw [badListIndex, found]
  rfl

/-- A staging list that is written throughout is its records. -/
theorem written_eq : ∀ {g : List (Option StopRec)}, none ∉ g → g = (g.filterMap id).map some
  | [], _ => rfl
  | none :: _, h => absurd List.mem_cons_self h
  | some r :: _, h => congrArg (some r :: ·) (written_eq fun hg => h (List.mem_cons_of_mem _ hg))

theorem written_getElem? {g : List (Option StopRec)} (hwhole : none ∉ g) {i : Nat} {r : StopRec} (h : g[i]? = some (some r)) :
    (g.filterMap id)[i]? = some r := by
  rw [written_eq hwhole, List.getElem?_map] at h
  obtain ⟨y, hy, hr⟩ := Option.map_eq_some_iff.1 h
  rw [hy, Option.some.inj hr]

theorem repeats_taken {list : List StopRec} {n k : Nat} {y : StopRec} (h : ((list.take n).map StopRec.code).Nodup) (hk : k < n)
    (hy : list[k]? = some y) : repeats list k y = false := by
  have taken := nodup_codes_iff.1 h k y (by rw [List.getElem?_take_of_lt hk, hy])
  rwa [repeats, List.take_take, Nat.min_eq_left (by omega)] at taken

theorem falls_iff {list : List StopRec} {i : Nat} {r : StopRec} :
    falls list i r = true ↔ ∃ k y, i = k + 1 ∧ list[k]? = some y ∧ r.position ≤ y.position := by
  rw [falls, Bool.and_eq_true, Option.any_eq_true]
  constructor
  · rintro ⟨hi, y, hy, hle⟩
    exact ⟨i - 1, y, by have := of_decide_eq_true hi; omega, hy, of_decide_eq_true hle⟩
  · rintro ⟨k, y, rfl, hy, hle⟩
    exact ⟨rfl, y, hy, decide_eq_true hle⟩

/-- Positions that rise up to an index: no record before it falls. -/
theorem falls_taken {list : List StopRec} {n k : Nat} {y : StopRec} (h : (list.take n).Pairwise fun a b => a.position < b.position) (hk : k < n)
    (hy : list[k]? = some y) : falls list k y = false := by
  rw [← Bool.not_eq_true, falls_iff]
  rintro ⟨m, z, rfl, hz, hle⟩
  rw [List.pairwise_iff_getElem] at h
  obtain ⟨hlength, rfl⟩ := List.getElem?_eq_some_iff.1 hy
  obtain ⟨hm, rfl⟩ := List.getElem?_eq_some_iff.1 hz
  have rises := h m (m + 1) (by simp; omega) (by simp; omega) (by omega)
  rw [List.getElem_take, List.getElem_take] at rises
  omega

theorem rising_falls {list : List StopRec} (h : list.Pairwise fun a b => a.position < b.position) (k : Nat) (y : StopRec)
    (hy : list[k]? = some y) : falls list k y = false :=
  falls_taken (n := list.length) (by rwa [List.take_length]) (List.getElem?_eq_some_iff.1 hy).1 hy

/-- With fewer than two calling records, a calling record is the only one. -/
theorem callCount_single {portion : Fin 4} {list : List StopRec} (h : callCount list portion < 2) {i k : Nat} {r y : StopRec}
    (hr : list[i]? = some r) (hcalls : r.callsAt portion = true) (hy : list[k]? = some y) (hcalls' : y.callsAt portion = true) : i = k := by
  have before : ∀ {i k : Nat} {r y : StopRec}, list[i]? = some r → r.callsAt portion = true → list[k]? = some y → y.callsAt portion = true →
      ¬ i < k := fun {i k r y} hr hcalls hy hcalls' hik => by
    have first : r ∈ (list.take k).filter (StopRec.callsAt portion) :=
      List.mem_filter.2 ⟨List.mem_of_getElem? (i := i) (by rw [List.getElem?_take_of_lt hik, hr]), hcalls⟩
    have second : y ∈ (list.drop k).filter (StopRec.callsAt portion) :=
      List.mem_filter.2 ⟨List.mem_of_getElem? (i := 0) (by rw [List.getElem?_drop, Nat.add_zero, hy]), hcalls'⟩
    have split : callCount list portion = ((list.take k).filter (StopRec.callsAt portion)).length
        + ((list.drop k).filter (StopRec.callsAt portion)).length := by
      rw [callCount, ← List.length_append, ← List.filter_append, List.take_append_drop]
    have := List.length_pos_of_mem first
    have := List.length_pos_of_mem second
    omega
  rcases Nat.lt_trichotomy i k with hlt | heq | hgt
  · exact absurd hlt (before hr hcalls hy hcalls')
  · exact heq
  · exact absurd hgt (before hy hcalls' hr hcalls)

theorem flagsPlaced_iff {count i : Nat} {r : StopRec} : flagsPlaced count i r = true
    ↔ (r.reverse = true → r.calling = true ∧ i ≠ 0 ∧ i + 1 ≠ count) ∧ (r.split = true → r.calling = true ∧ i + 1 ≠ count)
      ∧ (r.join = true → r.calling = true ∧ i ≠ 0) := by
  unfold flagsPlaced
  cases r.reverse <;> cases r.split <;> cases r.join <;> simp [and_assoc]

/-- The checks of END LOAD from the positions on, on a list whose codes differ. -/
theorem badListIndex_single {portion : Fin 4} {g : List (Option StopRec)} {list : List StopRec} (hlist : list = g.filterMap id)
    (hwhole : none ∉ g) (hsingle : (list.map StopRec.code).Nodup) : badListIndex portion g = (lowestIndex list (falls list)
      <|> (if callCount list portion < 2 then some ((nextCall list portion 0).getD 0) else none)
      <|> lowestIndex list fun i r => !flagsPlaced list.length i r) := by
  rw [badListIndex_written hlist hwhole, lowestIndex_eq_none.2 (nodup_codes_iff.1 hsingle)]
  rfl

/-- The checks of END LOAD from the count of calling records on, on a list whose positions rise. -/
theorem badListIndex_rising {portion : Fin 4} {g : List (Option StopRec)} {list : List StopRec} (hlist : list = g.filterMap id)
    (hwhole : none ∉ g) (hsingle : (list.map StopRec.code).Nodup) (hrising : list.Pairwise fun a b => a.position < b.position) :
    badListIndex portion g = ((if callCount list portion < 2 then some ((nextCall list portion 0).getD 0) else none)
      <|> lowestIndex list fun i r => !flagsPlaced list.length i r) := by
  rw [badListIndex_single hlist hwhole hsingle, lowestIndex_eq_none.2 (rising_falls hrising)]
  rfl

/-- The last check of END LOAD, on a list with two calling records. -/
theorem badListIndex_called {portion : Fin 4} {g : List (Option StopRec)} {list : List StopRec} (hlist : list = g.filterMap id)
    (hwhole : none ∉ g) (hsingle : (list.map StopRec.code).Nodup) (hrising : list.Pairwise fun a b => a.position < b.position)
    (hcalled : 2 ≤ callCount list portion) : badListIndex portion g = lowestIndex list fun i r => !flagsPlaced list.length i r := by
  rw [badListIndex_rising hlist hwhole hsingle hrising, if_neg (by omega)]
  rfl

/-- Settles O17: the checks of STOP RECORDS with what it writes, then each check of END LOAD. -/
theorem stopRecordsAreWrittenToStaging : Obligations.StopRecordsAreWrittenToStaging := by
  refine ⟨fun s q first rs hleads => ?_, fun s q hleads => ?_⟩
  · have body := stopRecordsBody_eq first rs q s.renewed
    refine ⟨fun howner => ?_, fun howner hbad => ?_, fun howner hne hcount hfits hok =>
      ⟨writeStaging first (rs.map StopWire.record) s.coach.journey.staging, ?_, ?_, fun i => ?_⟩⟩
    · rw [exec_stopRecords hleads, body, if_pos (show s.renewed.consist.stagingOwner ≠ some q from howner), refuse]
    · have refused : stopRecordsBody first rs q s.renewed = refuse .badField s.renewed := by
        rw [body, if_neg (not_not_intro (show s.renewed.consist.stagingOwner = some q from howner))]
        by_cases hrs : rs.length = 0 ∨ 12 < rs.length ∨ s.coach.journey.staging.length < first + rs.length
        · exact if_pos hrs
        · have wrong : ∃ r ∈ rs, StopWire.ok r = false := by
            rcases hbad with rfl | hmany | hlong | hwrong
            · exact absurd (.inl rfl) hrs
            · exact absurd (.inr (.inl hmany)) hrs
            · exact absurd (.inr (.inr hlong)) hrs
            · exact hwrong
          rw [if_pos (badRecord_iff.2 wrong), ite_self]
      rw [exec_stopRecords hleads, refused, refuse]
    · have some' : rs.length ≠ 0 := fun h => hne (List.length_eq_zero_iff.1 h)
      have right : ¬ (rs.any fun r => !StopWire.ok r) = true := fun h => by
        obtain ⟨r, hr, hwrong⟩ := badRecord_iff.1 h
        rw [hok r hr] at hwrong
        cases hwrong
      have fits : ¬ (rs.length = 0 ∨ 12 < rs.length ∨ s.renewed.coach.journey.staging.length < first + rs.length) := by
        show ¬ (rs.length = 0 ∨ 12 < rs.length ∨ s.coach.journey.staging.length < first + rs.length)
        omega
      rw [exec_stopRecords hleads, body, if_neg (not_not_intro (show s.renewed.consist.stagingOwner = some q from howner)), if_neg fits, if_neg right]
      rfl
    · exact writeStaging_length (by simpa using hfits)
    · rw [writeStaging_getElem? (by simpa using hfits)]
      simp [Function.comp_def]
  · refine ⟨_, _, _, _, _, _, rfl, rfl, rfl, rfl, rfl, fun i r => rfl, fun i r r' ⟨howner, hwhole⟩ hsingle hr hr' hfall hbefore => ?_,
      fun ⟨howner, hwhole⟩ hsingle hrising hcount =>
      ⟨(nextCall (s.coach.journey.staging.filterMap id) s.consist.portion 0).getD 0, exec_endLoad_bad hleads howner ?_, fun i r hr hcalls => ?_, fun hnone => ?_⟩,
      fun i r ⟨howner, hwhole⟩ hsingle hrising hcount hr hmisplaced hbefore => ?_,
      fun ⟨howner, hwhole⟩ hsingle hrising hcount hplaced => ?_, fun howner => ?_, fun i howner hunwritten hbefore => ?_,
      fun i r k r' howner hwhole hr hk hr' hcode hbefore => ?_, fun howner i hbad => exec_endLoad_bad hleads howner hbad,
      fun howner hgood hphase hpoint => ?_⟩
    · refine exec_endLoad_bad hleads howner ?_
      rw [badListIndex_single rfl hwhole hsingle, lowestIndex_eq_some.2 ⟨⟨r', hr', falls_iff.2 ⟨i, r, rfl, hr, hfall⟩⟩,
        fun k y hk hy => falls_taken hbefore hk hy⟩]
      rfl
    · rw [badListIndex_rising rfl hwhole hsingle hrising, if_pos hcount]
      rfl
    · obtain ⟨next, hnext⟩ : ∃ next, nextCall (s.coach.journey.staging.filterMap id) s.consist.portion 0 = next := ⟨_, rfl⟩
      rw [hnext]
      cases next with
      | none =>
        rw [findFrom_eq_none.1 hnext i r (Nat.zero_le i) hr] at hcalls
        cases hcalls
      | some n =>
        obtain ⟨-, ⟨y, hy, hy'⟩, -⟩ := findFrom_eq_some.1 hnext
        exact callCount_single hcount hy hy' hr hcalls
    · have next : nextCall (s.coach.journey.staging.filterMap id) s.consist.portion 0 = none := findFrom_eq_none.2 fun m y _ hy => hnone y (List.mem_of_getElem? hy)
      rw [next]
      rfl
    · refine exec_endLoad_bad hleads howner ?_
      rw [badListIndex_called rfl hwhole hsingle hrising hcount, lowestIndex_eq_some]
      refine ⟨⟨r, hr, ?_⟩, fun k y hk hy => ?_⟩
      · rw [Bool.not_eq_true', ← Bool.not_eq_true, flagsPlaced_iff]
        exact hmisplaced
      · rw [Bool.not_eq_false', flagsPlaced_iff]
        exact hbefore k y hk hy
    · rw [badListIndex_called rfl hwhole hsingle hrising hcount, lowestIndex_eq_none]
      intro k y hy
      rw [Bool.not_eq_false', flagsPlaced_iff]
      exact hplaced k y hy
    · have body : endLoadBody q s.renewed = refuse .noLoad s.renewed := if_pos howner
      rw [exec_endLoad hleads, body, refuse]
    · exact exec_endLoad_bad hleads howner (badListIndex_unwritten hunwritten hbefore)
    · refine exec_endLoad_bad hleads howner ?_
      rw [badListIndex_written rfl hwhole, lowestIndex_eq_some.2 ⟨⟨r, written_getElem? hwhole hr,
        repeats_iff.2 ⟨k, r', hk, written_getElem? hwhole hr', hcode⟩⟩, fun m y hm hy => repeats_taken hbefore hm hy⟩]
      rfl
    · have unmade : commitOf s.env (s.coach.journey.staging.filterMap id) s.coach.journey = none := by
        rw [commitOf, if_pos ((Phase.running_iff _).2 hphase)]
        exact congrArg (Option.map _) hpoint
      have body : endLoadBody q s.renewed = refuse .progressMismatch s.renewed := by
        rw [endLoadBody, if_neg (not_not_intro (show s.renewed.consist.stagingOwner = some q from howner)),
          show badListIndex s.renewed.consist.portion s.renewed.coach.journey.staging = none from hgood,
          show commitOf s.renewed.env (s.renewed.coach.journey.staging.filterMap id) s.renewed.coach.journey = none from unmade]
      rw [exec_endLoad hleads, body, refuse]

end Sys2Proof.Machine
end

section
/-! # The commit of a stop list (1.3) -/
namespace Sys2Proof.Machine

/-! ## The seat lines through a progress evaluation -/

theorem Coach.forSeats_grows (e : Env) (f : Seat → EntryCtx → List Entry → List Entry × List Report) (c : Coach) : c.LinesGrow (c.forSeats e f) :=
  .of_eq (by simp)

/-- A progress event leaves the lines but for what joins their SHOW queues. -/
theorem Coach.progress_grows (e : Env) (c : Coach) (w : Journey → Journey) (r : Report) (f : Seat → EntryCtx → List Entry → List Entry × List Report)
    (retires : Bool) (g : NoticeChange) : c.LinesGrow ((((c.onJourney w).raise e r).take e f retires).notice e g) :=
  ((Coach.LinesGrow.of_eq (Coach.raise_lines e r (c.onJourney w))).trans (Coach.take_grows e f retires _)).trans (Coach.notice_grows e g _)

theorem Coach.arrive_grows (e : Env) (i : Nat) (r : StopRec) (p : Nat) (c : Coach) : c.LinesGrow (c.arrive e i r p) := by
  rw [Coach.arrive, Coach.reserveArrival_take]
  exact (c.progress_grows e (arriveAt e.portion i r p) (c.progressReport .arrived r.code) (ofEntries fun k _ => entryAtArrival k i) false
    (.arrival r.code)).trans (.of_eq (Coach.mapTarget_lines e _))

theorem Coach.depart_grows (e : Env) (i : Nat) (r : StopRec) (c : Coach) : c.LinesGrow (c.depart e i r) := by
  rw [Coach.depart, Coach.reserveDeparture_take]
  exact (c.progress_grows e (departFrom e.portion i) (c.progressReport .departed r.code) (ofEntries fun k _ => entryAtDeparture k r.code) true
    (.departure r.code)).trans (.of_eq (Coach.mapWindow_lines e _))

theorem Coach.runThrough_grows (e : Env) (i : Nat) (r : StopRec) (c : Coach) : c.LinesGrow (c.runThrough e i r) := by
  rw [Coach.runThrough, Coach.reserveRunThrough_take]
  exact (c.progress_grows e (runThroughOf e.portion i) (c.progressReport .stopPassed r.code) (ofEntries fun k _ => entryAtRunThrough k i r.code) true
    (.runThrough r.code)).trans (.of_eq (Coach.mapWindow_lines e _))

theorem Coach.whileRunning_grows {f : Coach → Coach} (h : ∀ c : Coach, c.LinesGrow (f c)) (c : Coach) : c.LinesGrow (c.whileRunning f) := by
  unfold Coach.whileRunning
  split
  · exact h c
  · exact .refl c

theorem Coach.evalDeparture_grows (e : Env) (c : Coach) : c.LinesGrow (c.evalDeparture e) := by
  unfold Coach.evalDeparture
  split
  · split
    · split
      · exact c.depart_grows e _ _
      · exact .refl c
    · exact .refl c
  · exact .refl c

theorem Coach.evalRunThrough_grows (e : Env) : ∀ (n : Nat) (c : Coach), c.LinesGrow (c.evalRunThrough e n)
  | 0, c => .refl c
  | n + 1, c => by
    rw [Coach.evalRunThrough]
    split
    · split
      · split
        · exact (c.runThrough_grows e _ _).trans (Coach.evalRunThrough_grows e n _)
        · exact .refl c
      · exact .refl c
    · exact .refl c

theorem Coach.evalArrival_grows (e : Env) (c : Coach) : c.LinesGrow (c.evalArrival e) := by
  unfold Coach.evalArrival
  split
  · split
    · split
      · exact c.arrive_grows e _ _ _
      · exact .refl c
    · exact .refl c
  · exact .refl c

theorem Coach.evalPassing_grows (e : Env) (c : Coach) : c.LinesGrow (c.evalPassing e) := .of_eq rfl

theorem Coach.evaluate_grows (e : Env) (c : Coach) : c.LinesGrow (c.evaluate e) :=
  (((Coach.whileRunning_grows (Coach.evalDeparture_grows e) c).trans (Coach.whileRunning_grows (Coach.evalRunThrough_grows e _) _)).trans
    (Coach.whileRunning_grows (Coach.evalPassing_grows e) _)).trans (Coach.whileRunning_grows (Coach.evalArrival_grows e) _)

theorem Coach.reserveCommit_grows (e : Env) (old : List StopRec) (c : Coach) : c.LinesGrow (c.reserveCommit e old) := by
  rw [Coach.reserveCommit_take]
  exact (Coach.forSeats_grows e _ c).trans (Coach.take_grows e _ _ _)

/-! ## The list that passes the checks (R9) -/

theorem badListIndex_none {portion : Fin 4} {g : List (Option StopRec)} (h : badListIndex portion g = none) :
    2 ≤ callCount (g.filterMap id) portion := by
  have found : ∀ a b c d : Option Nat, ∀ n : Nat, (a <|> b <|> c <|> some n <|> d) ≠ none := by
    intro a b c d n
    cases a <;> cases b <;> cases c <;> exact Option.some_ne_none _
  refine Classical.byContradiction fun hfew => ?_
  rw [badListIndex, if_pos (by omega)] at h
  exact found _ _ _ _ _ h

theorem callCount_le_length (list : List StopRec) (portion : Fin 4) : callCount list portion ≤ list.length := List.length_filter_le _ _

/-- Of two calling records, one follows the lowest. -/
theorem callCount_follows {portion : Fin 4} {list : List StopRec} {i : Nat} (hcalled : 2 ≤ callCount list portion)
    (hnext : nextCall list portion 0 = some i) : ∃ m y, i < m ∧ list[m]? = some y ∧ y.callsAt portion = true := by
  refine Classical.byContradiction fun hnone => ?_
  have after : (list.drop (i + 1)).filter (StopRec.callsAt portion) = [] := by
    rw [List.filter_eq_nil_iff]
    intro y hy hcalls
    obtain ⟨m, hm⟩ := List.mem_iff_getElem?.1 hy
    rw [List.getElem?_drop] at hm
    exact hnone ⟨i + 1 + m, y, by omega, hm, hcalls⟩
  obtain ⟨-, ⟨r, hr, -⟩, hbefore⟩ := findFrom_eq_some.1 hnext
  have before : (list.take i).filter (StopRec.callsAt portion) = [] := by
    rw [List.filter_eq_nil_iff]
    intro y hy hcalls
    obtain ⟨m, hm⟩ := List.mem_iff_getElem?.1 hy
    rw [List.getElem?_take] at hm
    split at hm
    next hmi =>
      rw [hbefore m y (Nat.zero_le m) hmi hm] at hcalls
      cases hcalls
    next => cases hm
  obtain ⟨hi, -⟩ := List.getElem?_eq_some_iff.1 hr
  have parts : list = list.take i ++ (list[i] :: list.drop (i + 1)) := by
    rw [List.getElem_cons_drop, List.take_append_drop]
  have few : callCount list portion ≤ 1 := by
    rw [callCount, parts, List.filter_append, before, List.nil_append, List.filter_cons, after]
    split <;> simp
  omega

/-! ## The commit (R10, R12) -/

/-- A new journey on a list, as the fields of R10. -/
theorem newJourney_eq (portion : Fin 4) (list : List StopRec) (j : Journey) : newJourney portion list j
    = ⟨.staged, list.map StopRec.asLoaded, j.staging, none, none, nextCall list portion 0, none, j.orientation⟩ := rfl

theorem commitOf_length {e : Env} {list : List StopRec} {j k : Journey} (h : commitOf e list j = some k) : k.list.length = list.length := by
  unfold commitOf at h
  split at h
  · obtain ⟨x, -, rfl⟩ := Option.map_eq_some_iff.1 h
    exact List.length_mapIdx
  · rw [← Option.some.inj h]
    exact List.length_map _

theorem commitOf_new {e : Env} {list : List StopRec} {j k : Journey} (h : commitOf e list j = some k)
    (hphase : j.phase = .empty ∨ j.phase = .terminated) : k = newJourney e.portion list j := by
  rw [commitOf, (Phase.not_running_iff _).2 hphase] at h
  exact (Option.some.inj h).symm

/-- The coach side as the units take a commit, before the evaluation. -/
def Coach.handedCommit (e : Env) (old : List StopRec) (fresh : Bool) (c : Coach) : Coach :=
  ((c.reserveCommit e old).notice e (.commit fresh)).mapWindow e

theorem Coach.handedCommit_journey (e : Env) (old : List StopRec) (fresh : Bool) (c : Coach) : (c.handedCommit e old fresh).journey = c.journey := by
  simp [Coach.handedCommit]

theorem Coach.handedCommit_position (e : Env) (old : List StopRec) (fresh : Bool) (c : Coach) :
    (c.handedCommit e old fresh).position = c.position := by
  simp [Coach.handedCommit]

theorem Coach.handedCommit_axle (e : Env) (old : List StopRec) (fresh : Bool) (c : Coach) : (c.handedCommit e old fresh).axle = c.axle := by
  simp [Coach.handedCommit]

theorem Coach.handedCommit_sensors (e : Env) (old : List StopRec) (fresh : Bool) (c : Coach) :
    (c.handedCommit e old fresh).sensors = c.sensors := by
  simp [Coach.handedCommit]

theorem Coach.handedCommit_grows (e : Env) (old : List StopRec) (fresh : Bool) (c : Coach) : c.LinesGrow (c.handedCommit e old fresh) :=
  ((Coach.reserveCommit_grows e old c).trans (Coach.notice_grows e (.commit fresh) _)).trans (.of_eq (Coach.mapWindow_lines e _))

theorem Coach.committed_eq (e : Env) (old : List StopRec) (fresh : Bool) (c : Coach) :
    c.committed e old fresh = (c.markStale.handedCommit e old fresh).evaluate e := rfl

/-- The state after an accepted END LOAD that commits a journey. -/
def State.loaded (k : Journey) (s : State) : State :=
  (s.onCoach fun e c => ({ c with journey := k } : Coach).committed e s.coach.journey.list (!s.coach.journey.phase.running)).discardStaging

theorem endLoadBody_loaded {s : State} {q : LinePort} {k : Journey} (howner : s.consist.stagingOwner = some q)
    (hgood : badListIndex s.consist.portion s.coach.journey.staging = none)
    (hcommit : commitOf s.env (s.coach.journey.staging.filterMap id) s.coach.journey = some k) :
    endLoadBody q s = (s.loaded k, { status := .accepted }) := by
  rw [endLoadBody, if_neg (not_not_intro howner), hgood]
  simp only [hcommit]
  rfl

theorem State.loaded_coach (k : Journey) (s : State) {d : Coach} (hd : d = (({ s.coach with journey := k } : Coach).markStale.handedCommit s.env
    s.coach.journey.list (!s.coach.journey.phase.running)).evaluate s.env) :
    (s.loaded k).coach = { d with journey := { d.journey with staging := [] } } := by
  rw [State.loaded, State.discardStaging, State.onCoach, Coach.committed_eq, hd]

/-! ## The evaluation of a new journey (R10) -/

/-- A coach that moves and has passed no record keeps its journey. -/
theorem Coach.evaluate_still {e : Env} {c : Coach} (hrunning : c.journey.phase.running = true) (hstop : c.journey.atStop = none)
    (hmoves : c.position.motion ≠ .standstill)
    (hnear : ∀ r ∈ c.journey.list, c.position.estimate ≤ (r.position + e.params.platformWin) * 65536000) :
    (c.evaluate e).journey = c.journey := by
  have hthrough : c.evalRunThrough e c.journey.list.length = c := by
    refine Coach.evalRunThrough_rests (fun i r _ hr hexceeds => ?_) _
    have behind := (Position.exceeds_iff _ _).1 hexceeds
    have near := hnear r (List.mem_of_getElem? hr)
    omega
  have arrives : (c.evalPassing e).evalArrival e = c.evalPassing e :=
    Coach.evalArrival_rests fun i r _ _ hstands => hmoves ((Motion.stopped_iff _).1 hstands.1)
  have passed : c.journey.list.map (passRecord e c.position) = c.journey.list := by
    refine (List.map_congr_left fun r hr => ?_).trans (List.map_id _)
    refine passRecord_kept fun hbehind => ?_
    have near := hnear r hr
    omega
  rw [Coach.evaluate_undeparted hrunning (Coach.evalDeparture_between hstop e) hthrough, arrives]
  show { c.journey with list := c.journey.list.map (passRecord e c.position) } = c.journey
  rw [passed]

theorem passRecord_callsAt (e : Env) (p : Position) (r : StopRec) (portion : Fin 4) : (passRecord e p r).callsAt portion = r.callsAt portion := by
  unfold passRecord
  split <;> rfl

theorem asLoaded_callsAt (r : StopRec) (portion : Fin 4) : r.asLoaded.callsAt portion = r.callsAt portion := rfl

/-- What an arrival of a new journey at its lowest calling record writes. -/
theorem Coach.evaluate_new_arrives {e : Env} {c : Coach} {list : List StopRec} {j : Journey} {i : Nat} {r : StopRec}
    (hjourney : c.journey = newJourney e.portion list j) (hmotion : c.position.motion = .standstill)
    (hnext : nextCall list e.portion 0 = some i) (hr : list[i]? = some r) (hcalled : 2 ≤ callCount list e.portion)
    (hfar : r.position * 65536000 ≤ c.position.estimate + e.params.platformWin * 65536000)
    (hnear : c.position.estimate ≤ (r.position + e.params.platformWin) * 65536000) : ∃ k, k = (c.evaluate e).journey ∧ k.phase = .staged
      ∧ k.atStop = some i ∧ k.nextCalling = some i ∧ k.lastDeparted = none ∧ k.departurePoint = some (r.position + e.params.platformWin)
      ∧ k.list[i]? = some { r with status := .current }
      ∧ k.orientation = if r.reverse then (if j.orientation = .bForward then .aForward else .bForward) else j.orientation := by
  have loaded : c.journey.list[i]? = some r.asLoaded := by
    rw [hjourney]
    exact (List.getElem?_map ..).trans (by rw [hr]; rfl)
  have calls : r.asLoaded.callsAt e.portion = true := by
    obtain ⟨-, ⟨y, hy, hcalls⟩, -⟩ := findFrom_eq_some.1 hnext
    rw [hr] at hy
    rwa [← Option.some.inj hy] at hcalls
  have arrives := Coach.evaluate_arrives (e := e) (c := c) (i := i) (r := r.asLoaded) (by rw [hjourney]; rfl) (by rw [hjourney]; rfl)
    (by rw [hjourney]; exact hnext) loaded ((Motion.stopped_iff _).2 hmotion) ((Position.within_iff _ _ _).2 ⟨hfar, hnear⟩) calls
  have passing : (c.evalPassing e).journey = { c.journey with list := c.journey.list.map (passRecord e c.position) } := rfl
  have record : (c.journey.list.map (passRecord e c.position))[i]? = some r.asLoaded := by
    rw [List.getElem?_map, loaded, Option.map_some, passRecord_kept]
    simp [calls]
  have follows : nextCall (c.journey.list.map (passRecord e c.position)) e.portion (i + 1) ≠ none := by
    obtain ⟨m, y, hm, hy, hcalls⟩ := callCount_follows hcalled hnext
    have after : (c.journey.list.map (passRecord e c.position))[m]? = some (passRecord e c.position y.asLoaded) := by
      rw [hjourney, newJourney_eq, List.getElem?_map, List.getElem?_map, hy]
      rfl
    intro hnone
    have silent := findFrom_eq_none.1 hnone m _ hm after
    rw [passRecord_callsAt, asLoaded_callsAt, hcalls] at silent
    cases silent
  refine ⟨_, rfl, ?_⟩
  rw [arrives, Coach.arrive_journey, arriveAt_eq, passing, if_neg follows]
  refine ⟨congrArg Journey.phase hjourney, rfl, (congrArg Journey.nextCalling hjourney).trans hnext, congrArg Journey.lastDeparted hjourney, rfl, ?_, ?_⟩
  · show (setStatus (c.journey.list.map (passRecord e c.position)) i .current)[i]? = _
    rw [setStatus, modify_getElem? _ record, if_pos rfl]
    rfl
  · rw [hjourney]
    rfl

/-- Settles O18: the commit as the units take it, the lines, and a new journey that stands or moves. -/
theorem endLoadStartsANewJourney : Obligations.EndLoadStartsANewJourney := by
  rintro s q list k hleads howner hgood rfl hcommit
  obtain ⟨c0, hc0⟩ : ∃ c0 : Coach, c0 = ({ s.coach with journey := k } : Coach).markStale := ⟨_, rfl⟩
  obtain ⟨fresh, hfresh⟩ : ∃ fresh : Bool, fresh = !s.coach.journey.phase.running := ⟨_, rfl⟩
  obtain ⟨c, hc⟩ : ∃ c : Coach, c = c0.handedCommit s.env s.coach.journey.list fresh := ⟨_, rfl⟩
  have called := badListIndex_none hgood
  have few := callCount_le_length (s.coach.journey.staging.filterMap id) s.consist.portion
  have blocks : nameBlocks k.list.length = BitVec.ofNat 16 (2 ^ (((s.coach.journey.staging.filterMap id).length - 1) / 4 + 1) - 1) := by
    rw [commitOf_length hcommit, nameBlocks, if_neg (by omega)]
  have marked : ∀ i, c0.lines.get i = { s.coach.lines.get i with
      stale := (s.coach.lines.get i).stale ||| nameBlocks k.list.length } := fun i => hc0 ▸ Quad.get_map _ _ _
  have same : c0 = { s.coach with journey := k, lines := c0.lines } := hc0 ▸ rfl
  obtain ⟨journey0, position0, axle0, sensors0⟩ : c0.journey = k ∧ c0.position = s.coach.position ∧ c0.axle = s.coach.axle
      ∧ c0.sensors = s.coach.sensors := by
    rw [same]
    exact ⟨rfl, rfl, rfl, rfl⟩
  have coach : (s.renewed.loaded k).coach = { c.evaluate s.env with journey := { (c.evaluate s.env).journey with staging := [] } } :=
    State.loaded_coach k s.renewed (by rw [State.renewed_env, State.renewed_coach, hc, hc0, hfresh])
  have journey : c.journey = k := by rw [hc, Coach.handedCommit_journey, journey0]
  have position : c.position = s.coach.position := by rw [hc, Coach.handedCommit_position, position0]
  have grows : c0.LinesGrow (c.evaluate s.env) := (hc ▸ Coach.handedCommit_grows s.env _ fresh c0).trans (c.evaluate_grows s.env)
  refine ⟨s.renewed.loaded k, c, ?_, ⟨rfl, rfl, rfl, rfl, rfl, rfl, rfl, rfl, rfl⟩, rfl, ?_, ?_, ?_, fun i => ?_, journey, position, ?_,
    ⟨fresh, c0, ?_, same, ?_, hc, coach⟩, fun hphase => ⟨?_, fun hmoves hnear => ?_, fun i r hmotion hnext hr hfar hnear => ?_⟩⟩
  · rw [exec_endLoad hleads, endLoadBody_loaded (s := s.renewed) howner hgood hcommit]
  · rw [coach]
    exact (Coach.evaluate_position s.env c).trans position
  · rw [coach]
    exact (Coach.evaluate_axle s.env c).trans (by rw [hc, Coach.handedCommit_axle, axle0])
  · rw [coach]
    exact (Coach.evaluate_sensors s.env c).trans (by rw [hc, Coach.handedCommit_sensors, sensors0])
  · obtain ⟨g, hg⟩ := grows i
    rw [coach, ← blocks]
    show ((c.evaluate s.env).lines.get i).stale = _
    rw [hg, marked]
  · rw [coach]
  · rw [hfresh, Bool.not_eq_true', Phase.not_running_iff]
  · rw [← blocks]
    exact marked
  · rw [commitOf_new hcommit hphase]
    rfl
  · have new := commitOf_new hcommit hphase
    rw [coach]
    show { (c.evaluate s.env).journey with staging := [] } = _
    rw [Coach.evaluate_still (by rw [journey, new]; rfl) (by rw [journey, new]; rfl) (by rwa [position]), journey]
    intro y hy
    rw [journey, new] at hy
    obtain ⟨r, hr, rfl⟩ := List.mem_map.1 hy
    rw [position]
    exact hnear r hr
  · obtain ⟨n, hn, phase, atStop, nextCalling, lastDeparted, departurePoint, record, orientation⟩ := Coach.evaluate_new_arrives (e := s.env)
      (journey.trans (commitOf_new hcommit hphase)) (by rwa [position]) hnext hr called (by rwa [position]) (by rwa [position])
    rw [coach]
    rw [hn] at phase atStop nextCalling lastDeparted departurePoint record orientation
    exact ⟨phase, atStop, nextCalling, lastDeparted, departurePoint, record, orientation⟩

end Sys2Proof.Machine
end

section
/-! # Coasting and the motion state (3.6, 4.2 to 4.4) -/
namespace Sys2Proof.Machine

/-! ## The condition POSITION_DEGRADED (R73) -/

/-- A report joins a queue in the same way whatever the condition POSITION_DEGRADED is. -/
theorem PortReports.push_degraded (x : PortReports) (v : Bool) (r : Report) :
    (x.put .positionDegraded v).push r = (x.push r).put .positionDegraded v := by
  unfold PortReports.push
  by_cases h : x.queue.length < 16
  · rw [if_pos h, if_pos (show (x.put .positionDegraded v).queue.length < 16 from h)]
    rfl
  · rw [if_neg h, if_neg (show ¬ (x.put .positionDegraded v).queue.length < 16 from h)]
    rfl

/-- The reports of a port, with POSITION_DEGRADED set unless the fix state was DEGRADED before. -/
def PortReports.degradedFrom (f : FixState) (x : PortReports) : PortReports := if f = .degraded then x else x.put .positionDegraded true

theorem PortReports.push_degradedFrom (f : FixState) (x : PortReports) (r : Report) :
    (x.degradedFrom f).push r = (x.push r).degradedFrom f := by
  unfold PortReports.degradedFrom
  split
  · rfl
  · exact PortReports.push_degraded x true r

/-- The fix state with its condition on both ports. -/
def Coach.fixMarked (f : FixState) (c : Coach) : Coach :=
  (c.onPosition fun p => { p with fix := f }).flagBoth .positionDegraded (f == .degraded)

theorem Coach.setFix_changed {f : FixState} {c : Coach} (h : c.position.fix ≠ f) (e : Env) :
    c.setFix e f = (if f = .fixed then (c.fixMarked f).reserveFixed e else c.fixMarked f).notice e .other := if_neg h

theorem Coach.setFix_same {f : FixState} {c : Coach} (h : c.position.fix = f) (e : Env) : c.setFix e f = c := if_pos h

theorem Coach.setFix_degraded (e : Env) (c : Coach) : (c.setFix e .degraded).position = { c.position with fix := .degraded }
    ∧ ∀ p, (c.setFix e .degraded).reports p = (c.reports p).degradedFrom c.position.fix := by
  by_cases h : c.position.fix = .degraded
  · refine ⟨?_, fun p => ?_⟩
    · rw [Coach.setFix_same h, ← h]
    · rw [Coach.setFix_same h, PortReports.degradedFrom, if_pos h]
  · have changed : c.setFix e .degraded = (c.fixMarked .degraded).notice e .other :=
      (Coach.setFix_changed h e).trans (congrArg (Coach.notice e .other) (if_neg (by decide)))
    obtain ⟨reportsA, reportsB⟩ := Coach.notice_other_reports e (c.fixMarked .degraded)
    rw [changed]
    refine ⟨Coach.notice_position e .other _, fun p => Eq.trans ?_ (if_neg h).symm⟩
    cases p with
    | a => exact reportsA
    | b => exact reportsB

/-- A report raised on a coach whose reports carry the condition. -/
theorem Coach.raise_degradedFrom {e : Env} {c d : Coach} {f : FixState} (h : ∀ p, d.reports p = (c.reports p).degradedFrom f) (r : Report)
    (p : LinePort) : (d.raise e r).reports p = ((c.raise e r).reports p).degradedFrom f := by
  rw [Coach.raise_reports, Coach.raise_reports, h]
  split
  · exact PortReports.push_degradedFrom f _ r
  · rfl

/-! ## The coasting window (R67, R68) -/

theorem coastDecrement_pos (p : Params) {v : Nat} (h : 0 < v) : 0 < coastDecrement p v := by
  unfold coastDecrement
  dsimp only
  split
  next => exact Nat.one_pos
  next hd => exact Nat.pos_of_ne_zero fun h0 => hd ⟨h0, h⟩

/-- The coast estimate after a coasting window. -/
def coastSpeed (p : Params) (k : Coast) : Nat := k.speed - coastDecrement p k.speed

/-- What a coasting window adds to the estimate, in the direction of the coast. -/
def coastStep (p : Params) (k : Coast) : Int :=
  if k.forward then ((coastSpeed p k * 65536 / 10 : Nat) : Int) else -((coastSpeed p k * 65536 / 10 : Nat) : Int)

/-- The agreements in a row after a coasting window. -/
def coastAgree (p : Params) (r : WindowRecord) (began : Bool) (k : Coast) : Nat :=
  if agrees p r began (coastSpeed p k) then k.agree + 1 else 0

/-- The estimate is advanced by a coasting window. -/
def Coach.coasted (e : Env) (k : Coast) (c : Coach) : Coach :=
  c.onPosition fun p => { p with estimate := moveEstimate p.estimate (coastStep e.params k) }

theorem Coach.coastClose_eq (e : Env) (r : WindowRecord) (began : Bool) (k : Coast) (c : Coach) : c.coastClose e r began k
    = if coastSpeed e.params k = 0 then (c.coasted e k).zeroExit e
      else if 3 ≤ coastAgree e.params r began k then
        (c.coasted e k).agreementExit e (coastSpeed e.params k)
      else (c.coasted e k).coastLimit e { k with
        speed := coastSpeed e.params k, agree := coastAgree e.params r began k
        windows := min 65535 (k.windows + 1) } := rfl

/-! ## The three ways a coasting window ends (R70 to R72) -/

theorem Coach.zeroExit_rules (e : Env) (c : Coach) :
    (c.zeroExit e).position = { c.position with motion := .standstill, accepted := 0, fix := .degraded }
    ∧ (c.zeroExit e).axle = c.axle.emptyFifo
    ∧ ∀ p, (c.zeroExit e).reports p = ((c.raise e ⟨.coastEnd, none, none, none, c.position.metres, .zero, none⟩).reports p).degradedFrom
        c.position.fix := by
  obtain ⟨position, reports⟩ := c.toStandstill.setFix_degraded e
  have metres : (c.toStandstill.setFix e .degraded).coastReport .coastEnd .zero none
      = ⟨.coastEnd, none, none, none, c.position.metres, .zero, none⟩ := by
    rw [Coach.coastReport, position]
    rfl
  rw [Coach.zeroExit, metres]
  refine ⟨?_, ?_, fun p => ?_⟩
  · rw [Coach.raise_position, position]
    rfl
  · rw [Coach.raise_axle, Coach.setFix_axle]
    rfl
  · exact Coach.raise_degradedFrom (fun p => (reports p).trans (by cases p <;> rfl)) _ p

theorem Coach.agreementExit_rules (e : Env) (v : Nat) (c : Coach) :
    (c.agreementExit e v).position = { c.position with motion := .moving, accepted := v }
    ∧ ∀ p, (c.agreementExit e v).reports p = (c.raise e ⟨.coastEnd, none, none, none, c.position.metres, .agreed, none⟩).reports p := by
  rw [Coach.agreementExit]
  refine ⟨Coach.raise_position .., fun p => ?_⟩
  rw [Coach.raise_reports, Coach.raise_reports]
  cases p <;> rfl

theorem Coach.coastLimit_goes (e : Env) (k : Coast) (c : Coach) (h : k.windows < e.params.coastLimit ∨ k.limit = true) :
    c.coastLimit e k = c.onPosition fun p => { p with motion := .coasting k } := by
  refine if_neg ?_
  rintro ⟨hwindows, hlimit⟩
  rcases h with h | h
  · omega
  · exact hlimit h

theorem Coach.coastLimit_degrades (e : Env) (k : Coast) (c : Coach) (h : e.params.coastLimit ≤ k.windows) (hlimit : k.limit = false) :
    (c.coastLimit e k).position = { c.position with motion := .coasting { k with limit := true }, fix := .degraded }
    ∧ ∀ p, (c.coastLimit e k).reports p = (c.reports p).degradedFrom c.position.fix := by
  have limited : c.coastLimit e k = (c.onPosition fun p => { p with motion := .coasting { k with limit := true } }).setFix e .degraded :=
    if_pos ⟨h, by simp [hlimit]⟩
  obtain ⟨position, reports⟩ := Coach.setFix_degraded e (c.onPosition fun p => { p with motion := .coasting { k with limit := true } })
  rw [limited]
  exact ⟨position, fun p => (reports p).trans (by cases p <;> rfl)⟩

/-- Whatever ends or goes on, the position keeps all but motion state, accepted speed and fix state. -/
theorem Coach.coastClose_position (e : Env) (r : WindowRecord) (began : Bool) (k : Coast) (c : Coach) :
    (c.coastClose e r began k).position.estimate = moveEstimate c.position.estimate (coastStep e.params k)
    ∧ (c.coastClose e r began k).position.contribution = c.position.contribution := by
  rw [Coach.coastClose_eq]
  split
  · rw [((c.coasted e k).zeroExit_rules e).1]
    exact ⟨rfl, rfl⟩
  split
  · rw [((c.coasted e k).agreementExit_rules e _).1]
    exact ⟨rfl, rfl⟩
  · unfold Coach.coastLimit
    split
    · rw [(Coach.setFix_degraded e _).1]
      exact ⟨rfl, rfl⟩
    · exact ⟨rfl, rfl⟩

/-- Settles O46: the coast estimate and the estimate, then the three ways a window ends. -/
theorem coastingFallsToItsEnd : Obligations.CoastingFallsToItsEnd := by
  intro e r began k c hmotion
  obtain ⟨estimate, -⟩ := c.coastClose_position e r began k
  have metres : (c.coastClose e r began k).position.estimate / 65536000 = (c.coasted e k).position.metres := by
    rw [estimate]
    rfl
  have raised : ∀ note p, ((c.coasted e k).raise e ⟨.coastEnd, none, none, none, (c.coasted e k).position.metres, note, none⟩).reports p
      = (c.raise e ⟨.coastEnd, none, none, none, (c.coastClose e r began k).position.estimate / 65536000, note, none⟩).reports p := fun note p => by
    rw [metres, Coach.raise_reports, Coach.raise_reports]
    cases p <;> rfl
  refine ⟨coastSpeed e.params k, _, _, decide (e.params.coastLimit ≤ min 65535 (k.windows + 1)), _, fun x p => (x.reports p).degradedFrom c.position.fix,
    rfl, rfl, fun h => ?_, rfl, estimate, decide_eq_true_iff, fun note => rfl, fun x p => rfl, fun hzero => ?_, fun hgoes hagrees hthird => ?_,
    fun n hgoes hn => ?_, Coach.coastClose_journey .., Coach.coastClose_sensors ..⟩
  · have := coastDecrement_pos e.params h
    show k.speed - coastDecrement e.params k.speed < k.speed
    omega
  · have zero : c.coastClose e r began k = (c.coasted e k).zeroExit e := by rw [Coach.coastClose_eq, if_pos hzero]
    obtain ⟨position, axle, reports⟩ := (c.coasted e k).zeroExit_rules e
    refine ⟨?_, ?_, ?_, fun p => ?_⟩
    · rw [zero, position]
    · rw [zero, position]
    · rw [zero, axle]
      rfl
    · show _ = PortReports.degradedFrom _ _
      rw [← raised, zero, reports]
      rfl
  · have agreed : c.coastClose e r began k = (c.coasted e k).agreementExit e (coastSpeed e.params k) := by
      rw [Coach.coastClose_eq, if_neg hgoes, if_pos]
      rw [coastAgree, if_pos hagrees]
      omega
    obtain ⟨position, reports⟩ := (c.coasted e k).agreementExit_rules e (coastSpeed e.params k)
    refine ⟨?_, ?_, ?_, fun p => ?_⟩
    · rw [agreed, position]
    · rw [agreed, position]
    · rw [agreed, position]
      rfl
    · rw [← raised, agreed, reports]
  · have counted : coastAgree e.params r began k = n ∧ ¬ 3 ≤ n := by
      rcases hn with ⟨hagrees, hfew, rfl⟩ | ⟨hagrees, rfl⟩
      · exact ⟨if_pos hagrees, by omega⟩
      · exact ⟨if_neg (by rw [hagrees]; exact Bool.false_ne_true), by omega⟩
    have on : c.coastClose e r began k = (c.coasted e k).coastLimit e
        ⟨coastSpeed e.params k, k.forward, n, min 65535 (k.windows + 1), k.limit⟩ := by
      rw [Coach.coastClose_eq, if_neg hgoes, counted.1, if_neg counted.2]
    have goes : decide (e.params.coastLimit ≤ min 65535 (k.windows + 1)) = false ∨ k.limit = true →
        c.coastClose e r began k = (c.coasted e k).onPosition fun p =>
          { p with motion := .coasting ⟨coastSpeed e.params k, k.forward, n, min 65535 (k.windows + 1), k.limit⟩ } := fun h => by
      rw [on, Coach.coastLimit_goes]
      exact h.imp (fun h => Nat.lt_of_not_le (of_decide_eq_false h)) id
    have degrades : decide (e.params.coastLimit ≤ min 65535 (k.windows + 1)) = true → k.limit = false → _ := fun h hlimit =>
      (c.coasted e k).coastLimit_degrades e ⟨coastSpeed e.params k, k.forward, n, min 65535 (k.windows + 1), k.limit⟩ (of_decide_eq_true h) hlimit
    refine ⟨?_, fun h hlimit => ?_, fun h => ?_⟩
    · by_cases h : decide (e.params.coastLimit ≤ min 65535 (k.windows + 1)) = true ∧ k.limit = false
      · rw [on, (degrades h.1 h.2).1, h.1, h.2]
        rfl
      · have h' : decide (e.params.coastLimit ≤ min 65535 (k.windows + 1)) = false ∨ k.limit = true := by
          rw [Classical.not_and_iff_not_or_not, Bool.not_eq_true, Bool.not_eq_false] at h
          exact h
        have same : (k.limit || decide (e.params.coastLimit ≤ min 65535 (k.windows + 1))) = k.limit := by
          rcases h' with h' | h'
          · rw [h', Bool.or_false]
          · rw [h', Bool.true_or]
        rw [goes h', same]
        rfl
    · rw [on, (degrades h hlimit).1]
      exact ⟨rfl, fun p => ((degrades h hlimit).2 p).trans (by cases p <;> rfl)⟩
    · rw [goes h]
      exact ⟨rfl, fun p => by cases p <;> rfl⟩

end Sys2Proof.Machine
end

section
/-! # Window records and the motion state (3.6, 4.2) -/
namespace Sys2Proof.Machine

theorem Coach.takeRecord_standstill {e : Env} {r : WindowRecord} {c : Coach} (h : c.position.motion = .standstill) :
    c.takeRecord e r = c.onPosition fun p => { p with accepted := r.speed.getD 0 } := by
  rw [Coach.takeRecord, h]

theorem Coach.takeRecord_coasting {e : Env} {r : WindowRecord} {c : Coach} {k : Coast} (h : c.position.motion = .coasting k) :
    c.takeRecord e r = c.coastClose e r false k := by
  rw [Coach.takeRecord, h]

theorem Coach.takeRecord_still {e : Env} {r : WindowRecord} {c : Coach} (h : c.position.motion = .moving) (hstill : r.still = true) :
    c.takeRecord e r = c.toStandstill := by
  rw [Coach.takeRecord, h]
  exact if_pos hstill

/-- A speed too far from the accepted speed (R65). -/
def slides (p : Params) (accepted v : Nat) : Prop := 2000 ≤ accepted ∧ (accepted + p.slideLimit < v ∨ v + p.slideLimit < accepted)

theorem slides_iff (p : Params) (a v : Nat) : Config.slideFloor ≤ a ∧ p.slideLimit < max v a - min v a ↔ slides p a v := by
  unfold slides Config.slideFloor
  omega

theorem Coach.takeRecord_accepts {e : Env} {r : WindowRecord} {c : Coach} {v : Nat} (h : c.position.motion = .moving) (hstill : r.still = false)
    (hspeed : r.speed = some v) (hnear : ¬ slides e.params c.position.accepted v) :
    c.takeRecord e r = c.onPosition fun p => { p with accepted := v } := by
  rw [Coach.takeRecord, h]
  simp only [hstill, hspeed, Bool.false_eq_true, if_false]
  exact if_neg (mt (slides_iff _ _ _).1 hnear)

theorem Coach.takeRecord_begins {e : Env} {r : WindowRecord} {c : Coach} (h : c.position.motion = .moving) (hstill : r.still = false)
    (hslides : ∀ v, r.speed = some v → slides e.params c.position.accepted v) : c.takeRecord e r = c.coastBegin e r := by
  rw [Coach.takeRecord, h]
  simp only [hstill, Bool.false_eq_true, if_false]
  split
  next => rfl
  next v hv => exact if_pos ((slides_iff _ _ _).2 (hslides v hv))

/-- The coast that begins (R66). -/
def Position.begun (p : Position) : Coast := { speed := p.accepted, forward := p.lastForward.getD true, agree := 0, windows := 0, limit := false }

/-- The position where a coast begins: the contribution of the window is taken back (R66). -/
def Position.takenBack (p : Position) : Position :=
  { p with motion := .coasting p.begun, estimate := moveEstimate p.estimate (-p.contribution), contribution := 0 }

/-- The report of a coast that begins (R66). -/
def Position.beginReport (p : Position) (r : WindowRecord) : Report :=
  ⟨.coastBegin, none, none, none, p.takenBack.estimate / 65536000, if r.speed = none then .fault else .none, r.speed.map Int.ofNat⟩

theorem Coach.coastBegin_eq (e : Env) (r : WindowRecord) (c : Coach) : c.coastBegin e r
    = (({ c with position := c.position.takenBack } : Coach).raise e (c.position.beginReport r)).coastClose e r true c.position.begun := by
  unfold Coach.coastBegin Position.beginReport
  cases r.speed <;> rfl

theorem Coach.coastLimit_motion (e : Env) (k : Coast) (c : Coach) : ∃ l, (c.coastLimit e k).position.motion = .coasting { k with limit := l } := by
  unfold Coach.coastLimit
  split
  · exact ⟨true, by rw [(Coach.setFix_degraded e _).1]; rfl⟩
  · exact ⟨k.limit, rfl⟩

/-- A coast that goes on keeps its direction, and its speed falls but not to 0. -/
theorem Coach.coastClose_goes {e : Env} {r : WindowRecord} {began : Bool} {k : Coast} {c : Coach}
    (hstandstill : (c.coastClose e r began k).position.motion ≠ .standstill) (hmoving : (c.coastClose e r began k).position.motion ≠ .moving) :
    ∃ k', (c.coastClose e r began k).position.motion = .coasting k' ∧ k'.speed ≤ k.speed ∧ 0 < k'.speed ∧ k'.forward = k.forward := by
  have falls : coastSpeed e.params k ≤ k.speed := Nat.sub_le _ _
  rw [Coach.coastClose_eq] at hstandstill hmoving ⊢
  split at hstandstill
  next hzero => exact absurd (by rw [(Coach.zeroExit_rules e _).1]) hstandstill
  next hgoes =>
    rw [if_neg hgoes] at hmoving ⊢
    split at hmoving
    next hthird => exact absurd (by rw [(Coach.agreementExit_rules e _ _).1]) hmoving
    next hfew =>
      rw [if_neg hfew]
      obtain ⟨l, hl⟩ := (c.coasted e k).coastLimit_motion e { k with
        speed := coastSpeed e.params k, agree := coastAgree e.params r began k, windows := min 65535 (k.windows + 1) }
      exact ⟨_, hl, falls, Nat.pos_of_ne_zero hgoes, rfl⟩

theorem agrees_began (p : Params) (r : WindowRecord) (v : Nat) : agrees p r true v = false := by
  unfold agrees
  cases r.speed <;> rfl

/-- A coast that begins: the position after its first window. -/
theorem Coach.coastBegin_position (e : Env) (r : WindowRecord) (c : Coach) :
    (c.coastBegin e r).position.contribution = 0
    ∧ (c.coastBegin e r).position.estimate = moveEstimate c.position.takenBack.estimate (coastStep e.params c.position.begun) := by
  rw [Coach.coastBegin_eq]
  obtain ⟨estimate, contribution⟩ := Coach.coastClose_position e r true c.position.begun
    (({ c with position := c.position.takenBack } : Coach).raise e (c.position.beginReport r))
  exact ⟨contribution, estimate⟩

/-- A coast that begins ends at once where its estimate falls to 0, and degrades at a limit of one window. -/
theorem Coach.coastBegin_ends (e : Env) (r : WindowRecord) (c : Coach) :
    (coastSpeed e.params c.position.begun = 0 →
      (c.coastBegin e r).position.motion = .standstill ∧ (c.coastBegin e r).position.fix = .degraded)
    ∧ (coastSpeed e.params c.position.begun ≠ 0 → ∃ l,
      (c.coastBegin e r).position.motion = .coasting ⟨coastSpeed e.params c.position.begun, c.position.begun.forward, 0, 1, l⟩
      ∧ (c.coastBegin e r).position.fix = if e.params.coastLimit ≤ 1 then .degraded else c.position.fix) := by
  rw [Coach.coastBegin_eq]
  obtain ⟨v, d, step, limit, ended, flagged, rfl, rfl, -, -, -, hlimit, -, -, zero, -, goes, -⟩ := coastingFallsToItsEnd e r true c.position.begun
    (({ c with position := c.position.takenBack } : Coach).raise e (c.position.beginReport r)) rfl
  refine ⟨fun h => ?_, fun h => ?_⟩
  · obtain ⟨motion, fix, -⟩ := zero h
    exact ⟨motion, fix⟩
  · obtain ⟨motion, limited, free⟩ := goes 0 h (.inr ⟨agrees_began _ _ _, rfl⟩)
    refine ⟨_, motion, ?_⟩
    by_cases hone : e.params.coastLimit ≤ 1
    · rw [if_pos hone, (limited (hlimit.2 hone) rfl).1]
    · rw [if_neg hone, (free (.inl (Bool.eq_false_iff.2 fun h => hone (hlimit.1 h)))).1]
      rfl

theorem PortReports.degraded_ite {P : Prop} [Decidable P] (h : P) (f : FixState) (x : PortReports) :
    (if f = .degraded then x else { x with flags := { x.flags with positionDegraded := true } })
      = if P ∧ f ≠ .degraded then x.put .positionDegraded true else x := by
  by_cases hf : f = .degraded
  · rw [if_pos hf, if_neg fun h' => h'.2 hf]
  · rw [if_neg hf, if_pos ⟨h, hf⟩]
    rfl

/-- The reports of a coast that begins, with its end where it ends at once. -/
theorem Coach.coastBegin_reports (e : Env) (r : WindowRecord) (c : Coach) (p : LinePort) : (c.coastBegin e r).reports p
    = if (coastSpeed e.params c.position.begun = 0 ∨ e.params.coastLimit ≤ 1) ∧ c.position.fix ≠ .degraded then
        ((c.raiseAll e (c.position.beginReport r :: if coastSpeed e.params c.position.begun = 0 then
          [⟨.coastEnd, none, none, none, (c.coastBegin e r).position.estimate / 65536000, .zero, none⟩] else [])).reports p).put .positionDegraded true
      else (c.raiseAll e (c.position.beginReport r :: if coastSpeed e.params c.position.begun = 0 then
          [⟨.coastEnd, none, none, none, (c.coastBegin e r).position.estimate / 65536000, .zero, none⟩] else [])).reports p := by
  rw [Coach.coastBegin_eq]
  obtain ⟨b, hb⟩ : ∃ b : Coach, b = ({ c with position := c.position.takenBack } : Coach).raise e (c.position.beginReport r) := ⟨_, rfl⟩
  have bposition : b.position = c.position.takenBack := hb ▸ Coach.raise_position ..
  have breports : ∀ p, b.reports p = (c.raise e (c.position.beginReport r)).reports p := fun p => by
    rw [hb, Coach.raise_reports, Coach.raise_reports]
    cases p <;> rfl
  rw [← hb]
  obtain ⟨v, d, step, limit, ended, flagged, rfl, rfl, -, -, -, hlimit, hended, hflagged, zero, -, goes, -⟩ :=
    coastingFallsToItsEnd e r true c.position.begun b (by rw [bposition]; rfl)
  have fix : b.position.fix = c.position.fix := by rw [bposition]; rfl
  by_cases h : coastSpeed e.params c.position.begun = 0
  · obtain ⟨-, -, -, reports⟩ := zero h
    have raised : ∀ x, (b.raise e x).reports p = (c.raiseAll e [c.position.beginReport r, x]).reports p := fun x => by
      rw [Coach.raise_reports, breports, Coach.raise_reports, Coach.raiseAll_reports]
      split <;> rfl
    rw [reports, hflagged, hended, fix, raised, if_pos h]
    exact PortReports.degraded_ite (.inl h) _ _
  · obtain ⟨-, limited, free⟩ := goes 0 h (.inr ⟨agrees_began _ _ _, rfl⟩)
    rw [if_neg h]
    by_cases hone : e.params.coastLimit ≤ 1
    · rw [(limited (hlimit.2 hone) rfl).2, hflagged, fix, breports]
      exact PortReports.degraded_ite (.inr hone) _ _
    · rw [(free (.inl (Bool.eq_false_iff.2 fun h => hone (hlimit.1 h)))).2, breports, if_neg]
      · rfl
      · rintro ⟨hends | hends, -⟩
        · exact h hends
        · exact hone hends

/-- Settles O45: a record at standstill, moving and coasting. -/
theorem recordsMoveTheMotionState : Obligations.RecordsMoveTheMotionState := by
  intro e r c
  refine ⟨_, _, coastSpeed e.params c.position.begun, _, c.position.takenBack.estimate, _, rfl, rfl, rfl, rfl, rfl, rfl, fun h => ?_, fun h hstill => ?_,
    fun v h hstill hspeed hnear => ?_, fun h hstill hslides => ?_, fun k h => ?_, fun k h hstandstill hmoving => ?_, Coach.takeRecord_journey ..,
    Coach.takeRecord_sensors ..⟩
  · rw [Coach.takeRecord_standstill h]
    rfl
  · rw [Coach.takeRecord_still h hstill]
    rfl
  · rw [Coach.takeRecord_accepts h hstill hspeed]
    · rfl
    · unfold slides
      omega
  · have begins : c.takeRecord e r = c.coastBegin e r := by
      refine Coach.takeRecord_begins h hstill fun v hv => ?_
      rcases hslides with hnone | ⟨v', hv', hfloor, hfar⟩
      · rw [hnone] at hv
        cases hv
      · rw [hv] at hv'
        exact Option.some.inj hv' ▸ ⟨hfloor, hfar⟩
    obtain ⟨contribution, estimate⟩ := c.coastBegin_position e r
    obtain ⟨ends, goes⟩ := c.coastBegin_ends e r
    rw [begins]
    exact ⟨contribution, estimate, ends, goes, _, _, _, rfl, rfl, rfl, c.coastBegin_reports e r⟩
  · exact Coach.takeRecord_coasting h
  · rw [Coach.takeRecord_coasting h] at hstandstill hmoving ⊢
    exact Coach.coastClose_goes hstandstill hmoving

end Sys2Proof.Machine
end

section
/-! # The window close (3.5, 3.6) -/
namespace Sys2Proof.Machine

/-! ## The axle unit through a record -/

/-- The coach after has the axle unit of the coach before, but for the capture FIFO. -/
def Coach.SameAxle (c d : Coach) : Prop := d.axle = { c.axle with fifo := d.axle.fifo, overrun := d.axle.overrun }

theorem Coach.SameAxle.of_eq {c d : Coach} (h : d.axle = c.axle) : c.SameAxle d := by
  rw [Coach.SameAxle, h]

theorem Coach.SameAxle.emptied {c d : Coach} (h : d.axle = c.axle.emptyFifo) : c.SameAxle d := by
  rw [Coach.SameAxle, h]
  rfl

theorem Coach.coastClose_sameAxle (e : Env) (r : WindowRecord) (began : Bool) (k : Coast) (c : Coach) : c.SameAxle (c.coastClose e r began k) := by
  rw [Coach.coastClose_eq]
  split
  · exact .emptied ((c.coasted e k).zeroExit_rules e).2.1
  split
  · exact .of_eq (Coach.raise_axle ..)
  · unfold Coach.coastLimit
    split
    · exact .of_eq (Coach.setFix_axle ..)
    · exact .of_eq rfl

theorem Coach.takeRecord_sameAxle (e : Env) (r : WindowRecord) (c : Coach) : c.SameAxle (c.takeRecord e r) := by
  have begins : c.SameAxle (c.coastBegin e r) := by
    have closes := Coach.coastClose_sameAxle e r true c.position.begun
      (({ c with position := c.position.takenBack } : Coach).raise e (c.position.beginReport r))
    rw [Coach.SameAxle, Coach.raise_axle] at closes
    rw [Coach.coastBegin_eq]
    exact closes
  unfold Coach.takeRecord
  split
  · exact .of_eq rfl
  · split
    · exact .emptied rfl
    · split
      · exact begins
      · dsimp only
        split
        · exact begins
        · exact .of_eq rfl
  · exact Coach.coastClose_sameAxle ..

/-! ## The record (R55 to R58) -/

theorem Axle.measure_faulted {x : Axle} (h : x.faulted = true) (q : Nat) : x.measure q = (.none, none) := if_pos h

theorem Axle.measure_count {x : Axle} (h : x.faulted = false) (hedges : 4 ≤ x.edges) (q : Nat) :
    x.measure q = (.count, some (speedByCount x.edges q)) := by
  rw [Axle.measure, if_neg (by simp [h]), if_pos hedges]

theorem Axle.measure_period {x : Axle} {a b : Stamp} (h : x.faulted = false) (hedges : x.edges < 4) (hfifo : x.fifo = [a, b]) (q : Nat) :
    x.measure q = (.period, some (speedByPeriod q a b)) := by
  rw [Axle.measure, if_neg (by simp [h]), if_neg (by omega), hfifo]

theorem Axle.measure_short {x : Axle} (h : x.faulted = false) (hedges : x.edges < 4) (hfifo : x.fifo.length < 2) (q : Nat) :
    x.measure q = if x.edges = 0 then (.zero, some 0) else (.count, some (speedByCount x.edges q)) := by
  rw [Axle.measure, if_neg (by simp [h]), if_neg (by omega)]
  split
  next h =>
    rw [h] at hfifo
    simp at hfifo
  next => rfl

theorem Axle.readFifo_eq (x : Axle) : x.readFifo = { x with fifo := x.readFifo.fifo, overrun := x.readFifo.overrun } := by
  unfold Axle.readFifo
  split
  · rfl
  · split <;> rfl

theorem Axle.close_eq (p : Params) (x : Axle) : x.close p = { x with
    fifo := x.readFifo.fifo, overrun := x.readFifo.overrun, fault := x.fault && x.illegal != 0, illegal := 0, edges := 0
    faulted := x.fault && x.illegal != 0, last := (x.close p).last, stillCount := (x.close p).stillCount } := by
  conv => lhs; rw [Axle.close, Axle.readFifo_eq]
  rfl

theorem Axle.close_last (p : Params) (x : Axle) : (x.close p).last = ⟨(x.measure p.edgeUnits).1, (x.measure p.edgeUnits).2, x.edges,
    (x.close p).stillCount == p.stillWindows⟩ := rfl

theorem Axle.close_stillCount (p : Params) (x : Axle) :
    (x.close p).stillCount = stillAfter p.stillWindows (x.measure p.edgeUnits).1 x.edges x.stillCount := rfl

/-- The record is taken, the contribution becomes 0, the changes are handed on, and the next window is timed. -/
def Coach.windowTaken (e : Env) (at' : Nat) (c : Coach) : Coach := (c.windowClose e).nextWindow at'

theorem exec_windowClose {s : State} {d : Nat} (h : s.inReset = false) (hd : s.coach.axle.windowAt = some d) : exec .windowClose s
    = .next ((s.runTo d).onCoach fun e c => c.windowTaken e (d + 2400000)) := by
  rw [exec_of_live h (f := fun s => match s.coach.axle.windowAt with
    | some d => (s.runTo d).onCoach fun e c => (c.windowClose e).nextWindow (d + Config.speedWindow)
    | none => s) rfl, hd]
  rfl

theorem Coach.windowTaken_axle (e : Env) (at' : Nat) (c : Coach) : ∃ fifo overrun, (c.windowTaken e at').axle
    = { c.axle.close e.params with fifo := fifo, overrun := overrun, windowAt := some at' } := by
  let t : Coach := ({ c with axle := c.axle.close e.params } : Coach).takeRecord e (c.axle.close e.params).last
  have taken : t.axle = { c.axle.close e.params with fifo := t.axle.fifo, overrun := t.axle.overrun } := Coach.takeRecord_sameAxle ..
  refine ⟨t.axle.fifo, t.axle.overrun, ?_⟩
  have handed : (c.windowTaken e at').axle = { t.axle with windowAt := some at' } := by
    rw [Coach.windowTaken, Coach.nextWindow, Coach.windowClose, Coach.handPosition_axle, Coach.onPosition_axle]
  rw [handed, taken]

theorem Coach.windowTaken_position (e : Env) (at' : Nat) (c : Coach) : (c.windowTaken e at').position.contribution = 0 := by
  rw [Coach.windowTaken, Coach.nextWindow, Coach.windowClose]
  exact congrArg Position.contribution (Coach.handPosition_position ..)

/-- Settles O44: the record by its method, the next window, and what is handed on. -/
theorem windowCloseFormsTheRecord : Obligations.WindowCloseFormsTheRecord := by
  intro s d hlive hd
  obtain ⟨t, ht⟩ : ∃ t, t = (s.runTo d).onCoach fun e c => c.windowTaken e (d + 2400000) := ⟨_, rfl⟩
  obtain ⟨x, hx⟩ : ∃ x, x = s.coach.axle := ⟨_, rfl⟩
  obtain ⟨q, hq⟩ : ∃ q, q = s.params.edgeUnits := ⟨_, rfl⟩
  have env : t.env = (s.runTo d).env := by rw [ht]; rfl
  have coach : t.coach = s.coach.windowTaken t.env (d + 2400000) := by rw [env, ht]; rfl
  have params : t.env.params = s.params := by rw [env]; rfl
  obtain ⟨fifo, overrun, axle⟩ := s.coach.windowTaken_axle t.env (d + 2400000)
  rw [← coach, params, ← hx] at axle
  have closed := x.close_eq s.params
  have last : t.coach.axle.last = (x.close s.params).last := by rw [axle]
  have still : t.coach.axle.stillCount = (x.close s.params).stillCount := by rw [axle]
  have measured := x.close_last s.params
  rw [← hq] at measured
  refine ⟨t, x, q, ?_, ?_, hx, hq, ?_, ?_, ?_, ?_, ?_, ?_, ?_, ?_, ⟨_, _, rfl, rfl, ?_⟩, ?_, fun hfault => ?_, fun hfault hedges => ?_,
    fun a b hfault hedges hfifo => ?_, fun hfault hedges hfifo => ?_, fun hfault hsome hedges hfifo => ?_⟩
  · rw [exec_windowClose hlive hd, ht]
  · rw [ht]
    rfl
  · rw [axle]
  · rw [axle, closed]
  · rw [axle, closed]
  · rw [axle, closed]
  · rw [axle, closed]
  · rw [axle, closed]
  · rw [coach]
    exact Coach.windowTaken_position ..
  · rw [last, measured]
  · rw [coach, hx, ← params]
    rfl
  · rw [last, still, measured]
  all_goals rw [last, measured]
  · rw [still, Axle.close_stillCount, Axle.measure_faulted hfault, Axle.measure_faulted hfault]
    exact ⟨rfl, rfl, if_neg fun h => h.2.elim nofun nofun⟩
  · rw [still, Axle.close_stillCount, Axle.measure_count hfault hedges, Axle.measure_count hfault hedges]
    exact ⟨rfl, rfl, if_neg fun h => by omega⟩
  · rw [Axle.measure_period hfault hedges hfifo]
    exact ⟨rfl, rfl⟩
  · rw [still, Axle.close_stillCount, Axle.measure_short hfault (by omega) hfifo, Axle.measure_short hfault (by omega) hfifo, if_pos hedges,
      if_pos hedges]
    exact ⟨rfl, rfl, if_pos ⟨hedges, .inl rfl⟩⟩
  · rw [Axle.measure_short hfault hedges hfifo, if_neg (by omega)]
    exact ⟨rfl, rfl⟩

end Sys2Proof.Machine
end

section
/-! # Position fixes (4.5) -/
namespace Sys2Proof.Machine

/-! ## What a progress evaluation raises -/

/-- The second coach has the reports of the first with some raised after them. -/
def Coach.Told (e : Env) (c d : Coach) : Prop := ∃ rs, c.Tells e rs d

theorem Coach.Told.refl (e : Env) (c : Coach) : c.Told e c := ⟨[], .silent rfl rfl⟩

theorem Coach.Told.trans {e : Env} {c d f : Coach} (h : c.Told e d) (k : d.Told e f) : c.Told e f := by
  obtain ⟨rs, hrs⟩ := h
  obtain ⟨ts, hts⟩ := k
  exact ⟨rs ++ ts, hrs.trans hts⟩

theorem Coach.progress_told (e : Env) (c : Coach) (w : Journey → Journey) (r : Report) (f : Seat → EntryCtx → List Entry → List Entry × List Report)
    (retires : Bool) (g : NoticeChange) : c.Told e ((((c.onJourney w).raise e r).take e f retires).notice e g) := by
  obtain ⟨rs, -, htells⟩ := c.progress_tells e w r f retires g
  exact ⟨r :: rs, htells⟩

theorem Coach.Told.mapped {e : Env} {c d d' : Coach} (h : c.Told e d) (hsame : ∀ p, d'.reports p = d.reports p) : c.Told e d' := by
  obtain ⟨rs, hrs⟩ := h
  exact ⟨rs, fun p => (hsame p).trans (hrs p)⟩

theorem Coach.arrive_told (e : Env) (i : Nat) (r : StopRec) (p : Nat) (c : Coach) : c.Told e (c.arrive e i r p) := by
  rw [Coach.arrive, Coach.reserveArrival_take]
  exact (c.progress_told e _ _ _ _ _).mapped (Coach.mapTarget_reports e _)

theorem Coach.depart_told (e : Env) (i : Nat) (r : StopRec) (c : Coach) : c.Told e (c.depart e i r) := by
  rw [Coach.depart, Coach.reserveDeparture_take]
  exact (c.progress_told e _ _ _ _ _).mapped (Coach.mapWindow_reports e _)

theorem Coach.runThrough_told (e : Env) (i : Nat) (r : StopRec) (c : Coach) : c.Told e (c.runThrough e i r) := by
  rw [Coach.runThrough, Coach.reserveRunThrough_take]
  exact (c.progress_told e _ _ _ _ _).mapped (Coach.mapWindow_reports e _)

theorem Coach.whileRunning_told {e : Env} {f : Coach → Coach} (h : ∀ c : Coach, c.Told e (f c)) (c : Coach) : c.Told e (c.whileRunning f) := by
  unfold Coach.whileRunning
  split
  · exact h c
  · exact .refl e c

theorem Coach.evalDeparture_told (e : Env) (c : Coach) : c.Told e (c.evalDeparture e) := by
  unfold Coach.evalDeparture
  split
  · split
    · split
      · exact c.depart_told e _ _
      · exact .refl e c
    · exact .refl e c
  · exact .refl e c

theorem Coach.evalRunThrough_told (e : Env) : ∀ (n : Nat) (c : Coach), c.Told e (c.evalRunThrough e n)
  | 0, c => .refl e c
  | n + 1, c => by
    rw [Coach.evalRunThrough]
    split
    · split
      · split
        · exact (c.runThrough_told e _ _).trans (Coach.evalRunThrough_told e n _)
        · exact .refl e c
      · exact .refl e c
    · exact .refl e c

theorem Coach.evalPassing_told (e : Env) (c : Coach) : c.Told e (c.evalPassing e) := ⟨[], .silent rfl rfl⟩

theorem Coach.evalArrival_told (e : Env) (c : Coach) : c.Told e (c.evalArrival e) := by
  unfold Coach.evalArrival
  split
  · split
    · split
      · exact c.arrive_told e _ _ _
      · exact .refl e c
    · exact .refl e c
  · exact .refl e c

theorem Coach.evaluate_told (e : Env) (c : Coach) : c.Told e (c.evaluate e) :=
  (((Coach.whileRunning_told (Coach.evalDeparture_told e) c).trans (Coach.whileRunning_told (Coach.evalRunThrough_told e _) _)).trans
    (Coach.whileRunning_told (Coach.evalPassing_told e) _)).trans (Coach.whileRunning_told (Coach.evalArrival_told e) _)

/-! ## The arrival of a STATION fix (R19) -/

/-- The stop of a STATION fix that arrives: next calling, at standstill, with no stop and the journey running. -/
def Coach.stationStop (c : Coach) (station : Option Nat) (i : Nat) (r : StopRec) : Prop :=
  station = some r.code ∧ c.position.motion.stopped = true ∧ c.journey.phase.running = true ∧ c.journey.atStop = none
    ∧ c.journey.nextCalling = some i ∧ c.journey.list[i]? = some r

theorem Coach.stationArrival_arrives {e : Env} {position : Nat} {station : Option Nat} {c : Coach} {i : Nat} {r : StopRec}
    (h : c.stationStop station i r) :
    c.stationArrival e position station = c.arrive e i r (max r.position position + e.params.platformWin) := by
  obtain ⟨hstation, hstopped, hrunning, hstop, hnext, hr⟩ := h
  unfold Coach.stationArrival
  simp only [hstop, hnext, hstation, hr]
  exact if_pos ⟨hrunning, hstopped, trivial⟩

theorem Coach.stationArrival_rests {e : Env} {position : Nat} {station : Option Nat} {c : Coach} (h : ∀ i r, ¬ c.stationStop station i r) :
    c.stationArrival e position station = c := by
  unfold Coach.stationArrival
  split
  next i code hstop hnext =>
    split
    next r hr =>
      refine if_neg ?_
      rintro ⟨hrunning, hstopped, rfl⟩
      exact h i r ⟨rfl, hstopped, hrunning, hstop, hnext, hr⟩
    next => rfl
  next => rfl

theorem Coach.stationArrival_told (e : Env) (position : Nat) (station : Option Nat) (c : Coach) : c.Told e (c.stationArrival e position station) := by
  by_cases h : ∃ i r, c.stationStop station i r
  · obtain ⟨i, r, h⟩ := h
    rw [Coach.stationArrival_arrives h]
    exact c.arrive_told e i r _
  · rw [Coach.stationArrival_rests fun i r hstop => h ⟨i, r, hstop⟩]
    exact .refl e c

/-! ## The parts of an applied fix (R75, R76) -/

/-- The coach side with FIX_JUMP raised where the discrepancy is above FIX_TOL (R75). -/
def Coach.fixJumped (e : Env) (position : Nat) (stop : Option Nat) (c : Coach) : Coach :=
  c.raiseAll e (if e.params.fixTol < (c.discrepancy position).natAbs then
    [⟨.fixJump, stop, none, none, position, .none, some (c.discrepancy position)⟩] else [])

/-- The estimate set and the fix state FIXED, handed on (R76). -/
def Coach.fixPlaced (e : Env) (position : Nat) (c : Coach) : Coach := (c.onPosition (placeEstimate position)).setFix e .fixed

/-- The position change of a fix, handed on where the estimate has moved from where it was (R76). -/
def Coach.fixMoved (e : Env) (before : Nat) (c : Coach) : Coach :=
  if c.position.estimate = before then c else ((c.reservePosition e).notice e .position).mapTarget e

theorem Coach.fixJumped_eq (e : Env) (position : Nat) (stop : Option Nat) (c : Coach) : c.fixJumped e position stop
    = if e.params.fixTol < (c.discrepancy position).natAbs then
        c.raise e { kind := .fixJump, stop := stop, position := position, value := some (c.discrepancy position) } else c := by
  unfold Coach.fixJumped
  split <;> rfl

theorem Coach.applyFix_eq (e : Env) (position : Nat) (stop station : Option Nat) (c : Coach) {c2 c4 : Coach}
    (h2 : c2 = (c.fixJumped e position stop).fixPlaced e position)
    (h4 : c4 = (c2.fixMoved e c.position.estimate).stationArrival e position station) :
    c.applyFix e position stop station = if c2.position.estimate = c.position.estimate then c4 else c4.evaluate e := by
  subst h4
  rw [Coach.applyFix]
  simp only [← Coach.fixJumped_eq, ← Coach.fixPlaced.eq_1, ← h2, bne_iff_ne, ne_eq, ite_not, ← Coach.fixMoved.eq_1]

theorem Coach.fixPlaced_same {c : Coach} (h : c.position.fix = .fixed) (e : Env) (position : Nat) :
    c.fixPlaced e position = c.onPosition (placeEstimate position) := Coach.setFix_same (c := c.onPosition (placeEstimate position)) h e

theorem Coach.fixPlaced_changed {c : Coach} (h : c.position.fix ≠ .fixed) (e : Env) (position : Nat) : c.fixPlaced e position
    = (((c.onPosition (placeEstimate position)).fixMarked .fixed).reserveFixed e).notice e .other :=
  (Coach.setFix_changed (c := c.onPosition (placeEstimate position)) h e).trans (congrArg (Coach.notice e .other) (if_pos rfl))

theorem Coach.fixPlaced_position (e : Env) (position : Nat) (c : Coach) :
    (c.fixPlaced e position).position = { placeEstimate position c.position with fix := .fixed } := by
  by_cases h : c.position.fix = .fixed
  · rw [Coach.fixPlaced_same h, ← h]
    rfl
  · rw [Coach.fixPlaced_changed h, Coach.notice_position, Coach.reserveFixed_position]
    rfl

theorem Coach.fixPlaced_journey (e : Env) (position : Nat) (c : Coach) : (c.fixPlaced e position).journey = c.journey := by
  rw [Coach.fixPlaced, Coach.setFix_journey]
  rfl

theorem Coach.fixMoved_position (e : Env) (before : Nat) (c : Coach) : (c.fixMoved e before).position = c.position := by
  unfold Coach.fixMoved
  split
  · rfl
  · simp

theorem Coach.fixMoved_journey (e : Env) (before : Nat) (c : Coach) : (c.fixMoved e before).journey = c.journey := by
  unfold Coach.fixMoved
  split
  · rfl
  · simp

theorem Coach.fixJumped_kept (e : Env) (position : Nat) (stop : Option Nat) (c : Coach) : (c.fixJumped e position stop).journey = c.journey
    ∧ (c.fixJumped e position stop).position = c.position ∧ (c.fixJumped e position stop).seats = c.seats := by
  rw [Coach.fixJumped_eq]
  split
  · exact ⟨Coach.raise_journey .., Coach.raise_position .., Coach.raise_seats ..⟩
  · exact ⟨rfl, rfl, rfl⟩

theorem placeEstimate_stopped (position : Nat) (p : Position) : (placeEstimate position p).motion.stopped = p.motion.stopped := by
  unfold placeEstimate
  cases p.motion <;> rfl

/-! ## The reports of a fix -/

/-- The reports of a port, with POSITION_DEGRADED clear unless the fix state was FIXED before. -/
def PortReports.fixedFrom (f : FixState) (x : PortReports) : PortReports := if f = .fixed then x else x.put .positionDegraded false

theorem PortReports.foldl_push_fixedFrom (f : FixState) (rs : List Report) : ∀ x : PortReports,
    rs.foldl PortReports.push (x.fixedFrom f) = (rs.foldl PortReports.push x).fixedFrom f := by
  have push : ∀ (x : PortReports) r, (x.fixedFrom f).push r = (x.push r).fixedFrom f := fun x r => by
    unfold PortReports.fixedFrom
    split
    · rfl
    · exact PortReports.push_degraded x false r
  induction rs with
  | nil => exact fun x => rfl
  | cons r rs ih => exact fun x => by rw [List.foldl_cons, List.foldl_cons, push, ih]

theorem Coach.Tells.fixedFrom {e : Env} {rs : List Report} {c m d : Coach} {f : FixState} (h : m.Tells e rs d)
    (hm : ∀ p, m.reports p = (c.reports p).fixedFrom f) (p : LinePort) : d.reports p = ((c.raiseAll e rs).reports p).fixedFrom f := by
  rw [h p, Coach.raiseAll_reports, Coach.raiseAll_reports, hm, PortReports.foldl_push_fixedFrom]
  split <;> rfl

/-- A coach without seats raises nothing for them. -/
theorem Coach.seatReports_nil {c : Coach} (h : c.seats = []) (e : Env) (f : Seat → EntryCtx → List Entry → List Entry × List Report) :
    c.seatReports e f = [] := by
  rw [Coach.seatReports, h]
  rfl

theorem seats_nil_of_bare {c d : Coach} (h : d.seats.map Seat.bare = c.seats.map Seat.bare) (hc : c.seats = []) : d.seats = [] := by
  rw [hc] at h
  exact List.map_eq_nil_iff.1 h

theorem Coach.take_seats_nil {c : Coach} (h : c.seats = []) (e : Env) (f : Seat → EntryCtx → List Entry → List Entry × List Report)
    (retires : Bool) : (c.take e f retires).seats = [] := by
  have bare := c.take_bare e f retires
  rw [h] at bare
  exact List.map_eq_nil_iff.1 bare

/-- What the units raise when a fix state becomes FIXED. -/
theorem Coach.fixPlaced_tells (e : Env) (position : Nat) (c : Coach) : ∃ rs, (c.seats = [] → rs = [] ∧ (c.fixPlaced e position).seats = [])
    ∧ ∀ p, (c.fixPlaced e position).reports p = ((c.raiseAll e rs).reports p).fixedFrom c.position.fix := by
  by_cases h : c.position.fix = .fixed
  · rw [Coach.fixPlaced_same h]
    exact ⟨[], fun hseats => ⟨rfl, hseats⟩, fun p => (by cases p <;> rfl : _ = c.reports p).trans (if_pos h).symm⟩
  · let m := (c.onPosition (placeEstimate position)).fixMarked .fixed
    have marked : ∀ p, m.reports p = (c.reports p).fixedFrom c.position.fix := fun p => by
      rw [PortReports.fixedFrom, if_neg h]
      cases p <;> rfl
    have tells := (Coach.take_tells e (ofEntries fun k _ => entryAtFixed k) false m).trans (Coach.noticeReports_plain e (g := .other) rfl _)
    rw [Coach.fixPlaced_changed h, Coach.reserveFixed_take]
    refine ⟨_, fun hseats => ⟨?_, ?_⟩, tells.fixedFrom marked⟩
    · rw [Coach.seatReports_nil (c := m) hseats]
      rfl
    · exact seats_nil_of_bare (Coach.notice_bare ..) (Coach.take_seats_nil (c := m) hseats e _ _)

theorem Coach.fixMoved_tells (e : Env) (before : Nat) (c : Coach) : ∃ rs, (c.seats = [] → rs = []) ∧ c.Tells e rs (c.fixMoved e before) := by
  unfold Coach.fixMoved
  split
  · exact ⟨[], fun _ => rfl, .silent rfl rfl⟩
  · have tells := (Coach.take_tells e (ofEntries fun k _ => closeTest k) false c).trans (Coach.noticeReports_plain e (g := .position) rfl _)
    refine ⟨_, fun hseats => ?_, fun p => (Coach.mapTarget_reports e _ p).trans (tells p)⟩
    rw [Coach.seatReports_nil hseats]
    rfl

/-- What is raised after the hand-over of a fix: nothing in the EMPTY phase. -/
theorem Coach.fixEnded_tells (e : Env) (position : Nat) (station : Option Nat) (still : Prop) [Decidable still] (c : Coach) :
    ∃ rs, (c.journey.phase = .empty → rs = []) ∧ c.Tells e rs
      (if still then c.stationArrival e position station else (c.stationArrival e position station).evaluate e) := by
  by_cases h : c.journey.phase = .empty
  · have rests : c.stationArrival e position station = c := Coach.stationArrival_rests fun i r hstop => by
      obtain ⟨-, -, hrunning, -⟩ := hstop
      rw [h] at hrunning
      cases hrunning
    rw [rests, Coach.evaluate_rests ((Phase.not_running_iff _).2 (.inl h)), ite_self]
    exact ⟨[], fun _ => rfl, .silent rfl rfl⟩
  · have told : c.Told e (if still then c.stationArrival e position station else (c.stationArrival e position station).evaluate e) := by
      split
      · exact c.stationArrival_told e position station
      · exact (c.stationArrival_told e position station).trans (Coach.evaluate_told e _)
    obtain ⟨rs, hrs⟩ := told
    exact ⟨rs, fun hempty => absurd hempty h, hrs⟩

/-- The journey after the arrival of a STATION fix, with the evaluation that may follow it. -/
theorem Coach.evaluate_arrived {e : Env} {c : Coach} {i point : Nat} {r : StopRec} (hr : c.journey.list[i]? = some r)
    (hnear : c.position.estimate ≤ point * 65536000) : ∃ d : Coach, d = c.arrive e i r point
      ∧ d.journey.list[i]? = some { r with status := .current } ∧ ∃ list, (d.evaluate e).journey = { d.journey with list := list } ∧ list[i]? = some { r with status := .current } := by
  have current : (c.arrive e i r point).journey.list[i]? = some { r with status := .current } := by
    rw [Coach.arrive_journey, arriveAt_eq]
    show (setStatus c.journey.list i .current)[i]? = _
    rw [setStatus, modify_getElem? _ hr, if_pos rfl]
  have atStop : (c.arrive e i r point).journey.atStop = some i := by
    rw [Coach.arrive_journey]
    rfl
  have departure : (c.arrive e i r point).journey.departurePoint = some point := by
    rw [Coach.arrive_journey]
    rfl
  have position : (c.arrive e i r point).position = c.position := by simp [Coach.arrive, Coach.onJourney]
  refine ⟨_, rfl, current, ?_⟩
  generalize c.arrive e i r point = d at *
  cases hrunning : d.journey.phase.running with
  | false =>
    rw [Coach.evaluate_rests hrunning]
    exact ⟨d.journey.list, rfl, current⟩
  | true =>
    rw [Coach.evaluate_stands hrunning atStop fun p hp hexceeds => ?_]
    · refine ⟨_, rfl, ?_⟩
      rw [List.getElem?_map, current, Option.map_some, passRecord_kept]
      rintro ⟨hahead, -⟩
      cases hahead
    · rw [departure] at hp
      obtain rfl := Option.some.inj hp
      rw [Position.exceeds_iff, position] at hexceeds
      omega

/-! ## POSITION FIX -/

theorem exec_positionFix {s : State} {q : LinePort} (h : s.leads q) (f : Fix) : exec (.positionFix (.line q) f.position f.kind f.stop) s
    = .next (State.answer (.line q) 20 (positionFixBody f s.renewed).2.status (positionFixBody f s.renewed).2.results
      (positionFixBody f s.renewed).1) :=
  live_leadOnly h 20 fun _ => positionFixBody f

theorem positionFixBody_bad {f : Fix} {s : State} (h : 2 < f.kind ∨ f.stop = some 0 ∨ f.stop = some 65535) :
    positionFixBody f s = refuse .badField s := by
  rw [positionFixBody, judge_cons, judge_cons]
  rcases h with h | h | h
  · rw [if_pos (decide_eq_true h)]
  · rw [h]
    exact ite_self _
  · rw [h]
    exact ite_self _

theorem positionFixBody_taken {f : Fix} (hkind : f.kind ≤ 2) (hzero : f.stop ≠ some 0) (htop : f.stop ≠ some 65535) (s : State) :
    positionFixBody f s = takeFix f s := by
  have stop : f.stop.any (fun k => k = 0 || k = 65535) = false := by
    cases hstop : f.stop with
    | none => rfl
    | some k =>
      rw [hstop] at hzero htop
      have hk : k ≠ 0 ∧ k ≠ 65535 := ⟨fun h => hzero (h ▸ rfl), fun h => htop (h ▸ rfl)⟩
      simp [hk]
  rw [positionFixBody, judge_cons, judge_cons, judge_nil, stop, if_neg (by simpa using hkind)]
  rfl

/-- The state after a fix that is applied. -/
def State.fixed (f : Fix) (s : State) : State := s.onCoach fun e c => c.applyFix e f.at' f.stop (if f.kind = 1 then f.stop else none)

theorem Fix.ignored_iff (f : Fix) (c : Coach) : f.ignored c = true ↔ f.kind = 2 ∧ c.position.fix = .fixed := by
  rw [Fix.ignored, Bool.and_eq_true]
  exact and_congr decide_eq_true_iff decide_eq_true_iff

theorem takeFix_ignored {f : Fix} {s : State} (h : f.ignored s.coach = true) :
    takeFix f s = (s, { status := f.status, results := fixResults true (s.coach.discrepancy f.at') s.coach }) := by
  simp only [takeFix, h, if_true]

theorem takeFix_applied {f : Fix} {s : State} (h : f.ignored s.coach = false) :
    takeFix f s = (s.fixed f, { status := f.status, results := fixResults false (s.coach.discrepancy f.at') (s.fixed f).coach }) := by
  simp only [takeFix, h, Bool.false_eq_true, if_false]
  rfl

/-! ## What an applied fix leaves -/

theorem Coach.applyFix_position (e : Env) (position : Nat) (stop station : Option Nat) (c : Coach) :
    (c.applyFix e position stop station).position = { placeEstimate position c.position with fix := .fixed } := by
  obtain ⟨-, jumped, -⟩ := c.fixJumped_kept e position stop
  have placed := Coach.fixPlaced_position e position (c.fixJumped e position stop)
  rw [jumped] at placed
  rw [Coach.applyFix_eq e position stop station c rfl rfl]
  split
  · rw [Coach.stationArrival_position, Coach.fixMoved_position, placed]
  · rw [Coach.evaluate_position, Coach.stationArrival_position, Coach.fixMoved_position, placed]

/-- The coach side when the arrival of a STATION fix is tested. -/
def Coach.fixHanded (e : Env) (position : Nat) (stop : Option Nat) (c : Coach) : Coach :=
  ((c.fixJumped e position stop).fixPlaced e position).fixMoved e c.position.estimate

theorem Coach.fixHanded_journey (e : Env) (position : Nat) (stop : Option Nat) (c : Coach) :
    (c.fixHanded e position stop).journey = c.journey := by
  rw [Coach.fixHanded, Coach.fixMoved_journey, Coach.fixPlaced_journey, (c.fixJumped_kept e position stop).1]

theorem Coach.fixHanded_position (e : Env) (position : Nat) (stop : Option Nat) (c : Coach) :
    (c.fixHanded e position stop).position = { placeEstimate position c.position with fix := .fixed } := by
  rw [Coach.fixHanded, Coach.fixMoved_position, Coach.fixPlaced_position, (c.fixJumped_kept e position stop).2.1]

theorem Coach.applyFix_handed (e : Env) (position : Nat) (stop station : Option Nat) (c : Coach) : c.applyFix e position stop station
    = if position * 65536000 = c.position.estimate then (c.fixHanded e position stop).stationArrival e position station
      else ((c.fixHanded e position stop).stationArrival e position station).evaluate e := by
  rw [Coach.applyFix_eq e position stop station c rfl rfl, Coach.fixPlaced_position]
  rfl

theorem Coach.fixHanded_stationStop_iff {e : Env} {position kind : Nat} {stop : Option Nat} {c : Coach} {i : Nat} {r : StopRec} :
    (c.fixHanded e position stop).stationStop (if kind = 1 then stop else none) i r ↔ kind = 1 ∧ stop = some r.code
      ∧ c.position.motion = .standstill ∧ (c.journey.phase = .staged ∨ c.journey.phase = .inService) ∧ c.journey.atStop = none
      ∧ c.journey.nextCalling = some i ∧ c.journey.list[i]? = some r := by
  rw [Coach.stationStop, Coach.fixHanded_journey, Coach.fixHanded_position, Phase.running_iff]
  have stopped : (placeEstimate position c.position).motion.stopped = true ↔ c.position.motion = .standstill := by
    rw [placeEstimate_stopped, Motion.stopped_iff]
  by_cases hkind : kind = 1
  · rw [if_pos hkind]
    exact ⟨fun ⟨h1, h2, h3⟩ => ⟨hkind, h1, stopped.1 h2, h3⟩, fun ⟨_, h1, h2, h3⟩ => ⟨h1, stopped.2 h2, h3⟩⟩
  · rw [if_neg hkind]
    exact ⟨fun h => (nomatch h.1), fun h => absurd h.1 hkind⟩

/-- The reports of an applied fix: FIX_JUMP, then those of the hand-overs, with POSITION_DEGRADED clear. -/
theorem Coach.applyFix_tells (e : Env) (position : Nat) (stop station : Option Nat) (c : Coach) :
    ∃ rs, (c.journey.phase = .empty → c.seats = [] → rs = []) ∧ ∀ p, (c.applyFix e position stop station).reports p
      = ((c.raiseAll e ((if e.params.fixTol < (c.discrepancy position).natAbs then
          [⟨.fixJump, stop, none, none, position, .none, some (c.discrepancy position)⟩] else []) ++ rs)).reports p).fixedFrom c.position.fix := by
  obtain ⟨journey, place, seats⟩ := c.fixJumped_kept e position stop
  obtain ⟨rs1, hrs1, placed⟩ := (c.fixJumped e position stop).fixPlaced_tells e position
  obtain ⟨rs2, hrs2, moved⟩ := ((c.fixJumped e position stop).fixPlaced e position).fixMoved_tells e c.position.estimate
  obtain ⟨rs3, hrs3, ended⟩ := (c.fixHanded e position stop).fixEnded_tells e position station (position * 65536000 = c.position.estimate)
  rw [place] at placed
  refine ⟨rs1 ++ (rs2 ++ rs3), fun hphase hseats => ?_, fun p => ?_⟩
  · obtain ⟨h1, hplaced⟩ := hrs1 (seats.trans hseats)
    rw [h1, hrs2 hplaced, hrs3 (by rw [Coach.fixHanded_journey, hphase])]
    rfl
  · have after := moved.trans ended
    rw [Coach.applyFix_handed, after.fixedFrom placed p]
    have raised : c.Tells e (_ ++ (rs1 ++ (rs2 ++ rs3))) (Coach.raiseAll e (rs2 ++ rs3) (Coach.raiseAll e rs1 (c.fixJumped e position stop))) :=
      (Coach.Tells.raiseAll e _ c).trans ((Coach.Tells.raiseAll e rs1 _).trans (Coach.Tells.raiseAll e (rs2 ++ rs3) _))
    rw [raised p]

theorem State.fixed_coach (f : Fix) (s : State) :
    (s.fixed f).coach = s.coach.applyFix s.env f.at' f.stop (if f.kind = 1 then f.stop else none) := rfl

/-- The journey after a fix whose STATION stop arrives. -/
theorem Coach.applyFix_arrives {e : Env} {position : Nat} {stop station : Option Nat} {c : Coach} {i : Nat} {r : StopRec}
    (h : (c.fixHanded e position stop).stationStop station i r) : ∃ list, (c.applyFix e position stop station).journey
      = { arriveAt e.portion i r (max r.position position + e.params.platformWin) c.journey with list := list }
      ∧ list[i]? = some { r with status := .current } := by
  have hr : (c.fixHanded e position stop).journey.list[i]? = some r := h.2.2.2.2.2
  have near : (c.fixHanded e position stop).position.estimate ≤ (max r.position position + e.params.platformWin) * 65536000 := by
    rw [Coach.fixHanded_position]
    show position * 65536000 ≤ _
    omega
  obtain ⟨d, hd, current, list, after, later⟩ := Coach.evaluate_arrived (e := e) hr near
  have journey : d.journey = arriveAt e.portion i r (max r.position position + e.params.platformWin) c.journey := by
    rw [hd, Coach.arrive_journey, Coach.fixHanded_journey]
  rw [Coach.applyFix_handed, Coach.stationArrival_arrives h, ← hd]
  split
  · exact ⟨d.journey.list, journey ▸ rfl, current⟩
  · exact ⟨list, journey ▸ after, later⟩

/-- The coach side that a fix writes, before the units take the change of the fix state. -/
theorem Coach.fixPlaced_written {c : Coach} {position : Nat} {p : Position} (hp : p = { placeEstimate position c.position with fix := .fixed })
    (e : Env) : (c.position.fix = .fixed → c.fixPlaced e position = { c with position := p })
      ∧ (c.position.fix ≠ .fixed → c.fixPlaced e position = Coach.notice e .other (Coach.reserveFixed e { c with
          position := p, reportsA := c.reportsA.put .positionDegraded false, reportsB := c.reportsB.put .positionDegraded false })) := by
  subst hp
  refine ⟨fun h => ?_, fun h => Coach.fixPlaced_changed h e position⟩
  have kept : { placeEstimate position c.position with fix := .fixed } = placeEstimate position c.position := by
    rw [← h]
    rfl
  rw [Coach.fixPlaced_same h, kept]
  rfl

theorem PortReports.fixedFrom_eq (f : FixState) (x : PortReports) :
    x.fixedFrom f = { x with flags := { x.flags with positionDegraded := (f == .fixed) && x.flags.positionDegraded } } := by
  cases f <;> rfl

/-- Settles O42: the checks, an ignored fix, and an applied one by its parts, its reports and its arrival. -/
theorem positionFixSetsTheEstimate : Obligations.PositionFixSetsTheEstimate := by
  intro s q m kind stop hleads
  obtain ⟨f, hf⟩ : ∃ f : Fix, f = ⟨m, kind, stop⟩ := ⟨_, rfl⟩
  have fields : m = f.position ∧ kind = f.kind ∧ stop = f.stop := hf ▸ ⟨rfl, rfl, rfl⟩
  obtain ⟨rfl, rfl, rfl⟩ := fields
  refine ⟨f.status, s.coach.discrepancy f.at', f.at', rfl, rfl, rfl, fun hbad => ?_, fun hkind hzero htop =>
    ⟨fun hestimate hfixed => ?_, fun happlied => ?_⟩⟩
  · rw [exec_positionFix hleads, positionFixBody_bad hbad, refuse]
  · have ignored : f.ignored s.renewed.coach = true := (f.ignored_iff _).2 ⟨hestimate, hfixed⟩
    rw [exec_positionFix hleads, positionFixBody_taken hkind hzero htop, takeFix_ignored ignored]
    have code : s.coach.position.fix.code = 1 := by rw [hfixed]; rfl
    rw [State.renewed_coach, fixResults, code]
    rfl
  · have ignored : f.ignored s.renewed.coach = false := by
      rw [← Bool.not_eq_true, Fix.ignored_iff]
      exact fun h => happlied.elim (fun hne => hne h.1) fun hne => hne h.2
    obtain ⟨x, hx⟩ : ∃ x, x = s.renewed.fixed f := ⟨_, rfl⟩
    have coach : x.coach = s.coach.applyFix s.env f.at' f.stop (if f.kind = 1 then f.stop else none) := by
      rw [hx, State.fixed_coach, State.renewed_env, State.renewed_coach]
    have position : x.coach.position = { placeEstimate f.at' s.coach.position with fix := .fixed } := by
      rw [coach, Coach.applyFix_position]
    have stationStop := fun i r => Coach.fixHanded_stationStop_iff (e := s.env) (position := f.at') (kind := f.kind) (stop := f.stop)
      (c := s.coach) (i := i) (r := r)
    have estimate : ((s.coach.fixJumped s.env f.at' f.stop).fixPlaced s.env f.at').position.estimate = f.at' * 65536000 := by
      rw [Coach.fixPlaced_position]
      rfl
    obtain ⟨rs, hsilent, reports⟩ := s.coach.applyFix_tells s.env f.at' f.stop (if f.kind = 1 then f.stop else none)
    have place : (s.coach.fixJumped s.env f.at' f.stop).position = s.coach.position := (s.coach.fixJumped_kept s.env f.at' f.stop).2.1
    refine ⟨x, ?_, ?_, ?_, ?_, ?_, ?_, ?_, ?_, ?_, ?_, fun k hk => ?_, ⟨s.coach.fixJumped s.env f.at' f.stop, _,
      (s.coach.fixJumped s.env f.at' f.stop).fixPlaced s.env f.at', s.coach.fixHanded s.env f.at' f.stop,
      (s.coach.fixHanded s.env f.at' f.stop).stationArrival s.env f.at' (if f.kind = 1 then f.stop else none), _, _, rfl, fun y => rfl, rfl,
      fun hfix => ?_, fun hfix => ?_, fun hsame => ?_, fun hmoved => ?_, fun i r => rfl, fun i r hnamed => ?_, fun hnone => ?_,
      fun hsame => ?_, fun hmoved => ?_⟩, fun hmotion => ?_, ⟨_, rs, _, hsilent, rfl, rfl, fun p => ?_⟩, fun hphase => ?_,
      fun code i r hkind hstop hmotion hphase hat hnext hr hcode => ?_⟩
    · rw [exec_positionFix hleads, positionFixBody_taken hkind hzero htop, takeFix_applied ignored, ← hx]
      have code : x.coach.position.fix.code = 1 := by rw [position]; rfl
      have metres : x.coach.position.metres = f.at' := by
        rw [position]
        exact Nat.mul_div_cancel _ (by decide)
      rw [State.renewed_coach, fixResults, code, metres]
      rfl
    · rw [hx]
      exact ⟨rfl, rfl, rfl, rfl, rfl, rfl, rfl, rfl, rfl⟩
    · rw [hx]
      rfl
    · rw [coach, Coach.applyFix_axle]
    · rw [coach, Coach.applyFix_sensors]
    · rw [position]
      rfl
    · rw [position]
      rfl
    · rw [position]
    · rw [position]
      rfl
    · rw [position]
      exact placeEstimate_stopped f.at' _
    · rw [position]
      show (placeEstimate f.at' s.coach.position).motion = _
      rw [placeEstimate, hk]
    · exact (Coach.fixPlaced_written (by rw [place, position]; rfl) s.env).1 (by rwa [place])
    · exact (Coach.fixPlaced_written (by rw [place, position]; rfl) s.env).2 (by rwa [place])
    · exact if_pos (estimate.trans hsame)
    · exact if_neg fun h => hmoved (estimate.symm.trans h)
    · exact Coach.stationArrival_arrives ((stationStop i r).2 hnamed)
    · exact Coach.stationArrival_rests fun i r h => hnone i r ((stationStop i r).1 h)
    · rw [coach, Coach.applyFix_handed, if_pos hsame]
    · rw [coach, Coach.applyFix_handed, if_neg hmoved]
    · rw [position]
      show (placeEstimate f.at' s.coach.position).motion = _
      rw [placeEstimate]
      rcases hmotion with h | h <;> rw [h]
    · rw [coach, reports]
      exact PortReports.fixedFrom_eq _ _
    · have rests : (s.coach.fixHanded s.env f.at' f.stop).stationArrival s.env f.at' (if f.kind = 1 then f.stop else none)
          = s.coach.fixHanded s.env f.at' f.stop := Coach.stationArrival_rests fun i r h => by
        obtain ⟨-, -, -, hruns, -⟩ := (stationStop i r).1 h
        rw [hphase] at hruns
        exact hruns.elim nofun nofun
      have journey := s.coach.fixHanded_journey s.env f.at' f.stop
      rw [coach, Coach.applyFix_handed, rests, Coach.evaluate_rests (by rw [journey, hphase]; rfl), ite_self, journey]
    · subst hcode
      obtain ⟨list, journey, current⟩ := Coach.applyFix_arrives ((stationStop i r).2 ⟨hkind, hstop, hmotion, hphase, hat, hnext, hr⟩)
      rw [coach, journey, arriveAt_eq]
      exact ⟨rfl, hnext, rfl, current, rfl, rfl, rfl⟩

end Sys2Proof.Machine
end

section
/-! # Axle edges (3.1 to 3.4) -/
namespace Sys2Proof.Machine

/-! ## The orientation through a progress evaluation of a coach that moves -/

/-- The position, the orientation and a phase that is not STAGED are kept. -/
def Coach.OnTheWay (c d : Coach) : Prop :=
  d.position = c.position ∧ d.journey.orientation = c.journey.orientation ∧ (d.journey.phase = .staged → c.journey.phase = .staged)

theorem Coach.OnTheWay.refl (c : Coach) : c.OnTheWay c := ⟨rfl, rfl, id⟩

theorem Coach.OnTheWay.trans {c d f : Coach} (h : c.OnTheWay d) (k : d.OnTheWay f) : c.OnTheWay f :=
  ⟨k.1.trans h.1, k.2.1.trans h.2.1, fun hf => h.2.2 (k.2.2 hf)⟩

theorem phase_left_staged {p : Phase} {next : Option Nat}
    (h : (if next.isNone then Phase.terminated else if p = .staged then .inService else p) = .staged) : p = .staged := by
  split at h
  · cases h
  · split at h
    · cases h
    · exact h

theorem Coach.depart_onTheWay (e : Env) (i : Nat) (r : StopRec) (c : Coach) : c.OnTheWay (c.depart e i r) := by
  rw [Coach.OnTheWay, Coach.depart_journey]
  exact ⟨by simp [Coach.depart, Coach.onJourney], rfl, phase_left_staged⟩

theorem Coach.runThrough_onTheWay (e : Env) (i : Nat) (r : StopRec) (c : Coach) : c.OnTheWay (c.runThrough e i r) := by
  rw [Coach.OnTheWay, Coach.runThrough_journey]
  exact ⟨by simp [Coach.runThrough, Coach.onJourney], rfl, phase_left_staged⟩

theorem Coach.whileRunning_onTheWay {f : Coach → Coach} {c : Coach} (h : c.OnTheWay (f c)) : c.OnTheWay (c.whileRunning f) := by
  unfold Coach.whileRunning
  split
  · exact h
  · exact .refl c

theorem Coach.evalDeparture_onTheWay (e : Env) (c : Coach) : c.OnTheWay (c.evalDeparture e) := by
  unfold Coach.evalDeparture
  split
  · split
    · split
      · exact c.depart_onTheWay e _ _
      · exact .refl c
    · exact .refl c
  · exact .refl c

theorem Coach.evalRunThrough_onTheWay (e : Env) : ∀ (n : Nat) (c : Coach), c.OnTheWay (c.evalRunThrough e n)
  | 0, c => .refl c
  | n + 1, c => by
    rw [Coach.evalRunThrough]
    split
    · split
      · split
        · exact (c.runThrough_onTheWay e _ _).trans (Coach.evalRunThrough_onTheWay e n _)
        · exact .refl c
      · exact .refl c
    · exact .refl c

/-- A coach that moves does not arrive, so that its orientation stays. -/
theorem Coach.evaluate_onTheWay {c : Coach} (h : c.position.motion.stopped = false) (e : Env) : c.OnTheWay (c.evaluate e) := by
  have departed := Coach.whileRunning_onTheWay (c.evalDeparture_onTheWay e)
  have through := departed.trans (Coach.whileRunning_onTheWay (Coach.evalRunThrough_onTheWay e
    (c.whileRunning (Coach.evalDeparture e)).journey.list.length (c.whileRunning (Coach.evalDeparture e))))
  have passed := through.trans (Coach.whileRunning_onTheWay (f := Coach.evalPassing e) ⟨rfl, rfl, id⟩)
  refine passed.trans (Coach.whileRunning_onTheWay ?_)
  rw [Coach.evalArrival_rests fun i r _ _ hstands => ?_]
  · exact .refl _
  · rw [passed.1, h] at hstands
    exact Bool.false_ne_true hstands.1

theorem Coach.heardPosition_journey (e : Env) (b : Position) (c : Coach) : (c.heardPosition e b).journey = c.journey := by
  unfold Coach.heardPosition
  split <;> simp

theorem Coach.targetedPosition_journey (e : Env) (b : Position) (c : Coach) : (c.targetedPosition e b).journey = c.journey := by
  unfold Coach.targetedPosition
  split <;> simp [Coach.heardPosition_journey]

theorem Coach.handPosition_onTheWay {c : Coach} (h : c.position.motion.stopped = false) (e : Env) (b : Position) :
    c.OnTheWay (c.handPosition e b) := by
  have evaluated : ∀ d : Coach, d.journey = c.journey → d.position = c.position → c.OnTheWay (d.evaluate e) := fun d hj hp =>
    Coach.OnTheWay.trans ⟨hp, by rw [hj], fun hs => hj ▸ hs⟩ (Coach.evaluate_onTheWay (hp ▸ h) e)
  rw [Coach.handPosition_eq]
  split
  · split
    · exact evaluated _ (by simp [Coach.heardPosition_journey]) (by simp [Coach.heardPosition_position])
    · exact evaluated _ (by simp [Coach.targetedPosition_journey]) (by simp [Coach.targetedPosition_position])
  · split
    · exact .refl c
    · exact evaluated _ (Coach.targetedPosition_journey ..) (Coach.targetedPosition_position ..)

/-! ## The notice unit does not read the axle unit -/

theorem Coach.refresh_onAxle (e : Env) (x : Axle) (c : Coach) : ({ c with axle := x } : Coach).refresh e = { c.refresh e with axle := x } := by
  have folded : ∀ (seats : List Seat) (d : Coach), seats.foldl (fun d s => d.contentChange s.line s.module) ({ d with axle := x } : Coach)
      = { seats.foldl (fun d s => d.contentChange s.line s.module) d with axle := x } := by
    intro seats
    induction seats with
    | nil => exact fun d => rfl
    | cons s seats ih => exact fun d => ih (d.contentChange s.line s.module)
  exact folded _ { c with seats := c.seats.map fun s => { s with content := c.contentOf e s } }

theorem Coach.selectNotice_onAxle (e : Env) (x : Axle) (c : Coach) :
    ({ c with axle := x } : Coach).selectNotice e = { c.selectNotice e with axle := x } := by
  unfold Coach.selectNotice
  dsimp only
  split <;> rfl

theorem Coach.armedFor_other (e : Env) (c : Coach) : c.armedFor e .other = c := by
  rw [Coach.armedFor, Coach.noticeQueueStep_plain e rfl]
  rfl

theorem Coach.pagedFor_onAxle (e : Env) (x : Axle) (c : Coach) :
    ({ c with axle := x } : Coach).pagedFor e .other = { c.pagedFor e .other with axle := x } := by
  rw [Coach.pagedFor, Coach.pagedFor, Coach.litFor, Coach.litFor, Coach.armedFor_other, Coach.armedFor_other, Coach.selectNotice_onAxle]
  rfl

theorem Coach.notice_onAxle (e : Env) (x : Axle) (c : Coach) :
    ({ c with axle := x } : Coach).notice e .other = { c.notice e .other with axle := x } := by
  rw [Coach.notice_eq, Coach.notice_eq, Coach.pagedFor_onAxle]
  dsimp only
  split
  · rfl
  · exact Coach.refresh_onAxle e x _

end Sys2Proof.Machine
end

section
/-! # Edges applied one by one (3.2, 3.4) -/
namespace Sys2Proof.Machine

/-! ## The orientation that an edge teaches (R23) -/

/-- The orientation after an edge: learnt from the first edge in STAGED. -/
def Journey.learnt (d : EdgeDir) (j : Journey) : Orientation :=
  if j.phase = .staged ∧ j.orientation = .unset then (if d = .towardA then .aForward else .bForward) else j.orientation

theorem Coach.learnOrientation_journey (e : Env) (d : EdgeDir) (c : Coach) :
    (c.learnOrientation e d).journey = { c.journey with orientation := c.journey.learnt d } := by
  unfold Coach.learnOrientation Journey.learnt
  split
  · rw [Coach.notice_journey]
    rfl
  · rfl

theorem Coach.learnOrientation_eq (e : Env) (d : EdgeDir) (c : Coach) : (c.journey.learnt d = c.journey.orientation → c.learnOrientation e d = c)
    ∧ (c.journey.learnt d ≠ c.journey.orientation →
        c.learnOrientation e d = Coach.notice e .other { c with journey := { c.journey with orientation := c.journey.learnt d } }) := by
  unfold Coach.learnOrientation Journey.learnt
  by_cases h : c.journey.phase = .staged ∧ c.journey.orientation = .unset
  · rw [if_pos h, if_pos h]
    refine ⟨fun hsame => ?_, fun _ => rfl⟩
    rw [h.2] at hsame
    split at hsame <;> cases hsame
  · rw [if_neg h, if_neg h]
    exact ⟨fun _ => rfl, fun hne => absurd rfl hne⟩

/-- What is learnt stays: an edge after it teaches nothing. -/
theorem learnt_learnt {j k : Journey} {d : EdgeDir} (ho : k.orientation = j.learnt d) (hphase : k.phase = .staged → j.phase = .staged) :
    k.learnt d = j.learnt d := by
  rw [Journey.learnt, ho]
  refine ite_eq_right_iff.2 fun h => ?_
  obtain ⟨hk, hunset⟩ := h
  have staged := hphase hk
  unfold Journey.learnt at hunset ⊢
  by_cases hlearns : j.phase = .staged ∧ j.orientation = .unset
  · rw [if_pos hlearns] at hunset
    split at hunset <;> cases hunset
  · rw [if_neg hlearns] at hunset
    exact absurd ⟨staged, hunset⟩ hlearns

theorem isForward_eq (o : Orientation) (d : EdgeDir) : isForward o d = if o = .bForward then d == .towardB else d == .towardA := by
  cases o <;> cases d <;> rfl

theorem Coach.learnOrientation_onAxle (e : Env) (d : EdgeDir) (x : Axle) (c : Coach) :
    ({ c with axle := x } : Coach).learnOrientation e d = { c.learnOrientation e d with axle := x } := by
  by_cases h : c.journey.phase = .staged ∧ c.journey.orientation = .unset
  · have learns : c.learnOrientation e d = (c.onJourney fun j => { j with orientation := if d = .towardA then .aForward else .bForward }).notice e .other :=
      if_pos h
    have taught : ({ c with axle := x } : Coach).learnOrientation e d
        = ({ c.onJourney fun j => { j with orientation := if d = .towardA then .aForward else .bForward } with axle := x } : Coach).notice e .other :=
      if_pos h
    rw [learns, taught, Coach.notice_onAxle]
  · have rests : c.learnOrientation e d = c := if_neg h
    have idle : ({ c with axle := x } : Coach).learnOrientation e d = { c with axle := x } := if_neg h
    rw [rests, idle]

/-! ## One edge (R50) -/

/-- The axle unit after an edge in a direction of travel, by whether the coach stood still. -/
def Axle.edged (forward : Bool) (q : Nat) (stopped : Bool) (t : Stamp) (x : Axle) : Axle := (x.applyEdge forward q t).leaveStill stopped

theorem Coach.applyEdge_eq (e : Env) (d : EdgeDir) (c : Coach) (t : Stamp) : c.applyEdge e d t = Coach.handPosition e c.position
    { c.learnOrientation e d with
      position := addEdge (isForward (c.journey.learnt d) d) e.params.edgeUnits c.position
      axle := c.axle.edged (isForward (c.journey.learnt d) d) e.params.edgeUnits c.position.motion.stopped t } := by
  rw [Coach.applyEdge]
  simp only [Coach.learnOrientation_journey, Coach.learnOrientation_position, Coach.learnOrientation_axle]
  rfl

theorem Coach.applyEdge_position (e : Env) (d : EdgeDir) (c : Coach) (t : Stamp) : (c.applyEdge e d t).position
    = addEdge (isForward (c.journey.learnt d) d) e.params.edgeUnits c.position := by
  rw [Coach.applyEdge_eq, Coach.handPosition_position]

theorem Coach.applyEdge_axle (e : Env) (d : EdgeDir) (c : Coach) (t : Stamp) : (c.applyEdge e d t).axle
    = c.axle.edged (isForward (c.journey.learnt d) d) e.params.edgeUnits c.position.motion.stopped t := by
  rw [Coach.applyEdge_eq, Coach.handPosition_axle]

theorem addEdge_stopped (forward : Bool) (q : Nat) (p : Position) : (addEdge forward q p).motion.stopped = false := by
  unfold addEdge
  cases h : p.motion with
  | standstill => rfl
  | moving => rfl
  | coasting k =>
    dsimp only
    rw [h]
    rfl

theorem Coach.applyEdge_learnt (e : Env) (d : EdgeDir) (c : Coach) (t : Stamp) : (c.applyEdge e d t).journey.learnt d = c.journey.learnt d := by
  rw [Coach.applyEdge_eq]
  obtain ⟨-, orientation, phase⟩ := Coach.handPosition_onTheWay (c := { c.learnOrientation e d with
    position := addEdge (isForward (c.journey.learnt d) d) e.params.edgeUnits c.position
    axle := c.axle.edged (isForward (c.journey.learnt d) d) e.params.edgeUnits c.position.motion.stopped t }) (addEdge_stopped _ _ _) e c.position
  refine learnt_learnt (orientation.trans ?_) fun h => ?_
  · exact congrArg Journey.orientation (Coach.learnOrientation_journey e d c)
  · exact (congrArg Journey.phase (Coach.learnOrientation_journey e d c)).symm.trans (phase h)

/-! ## The axle unit after an edge -/

/-- A timestamp joins the capture FIFO and its overrun mark. -/
def pushStamp (y : List Stamp × Bool) (t : Stamp) : List Stamp × Bool :=
  match y.1 with
  | [] => ([t], false)
  | [a] => ([a, t], false)
  | _ :: b :: _ => ([b, t], true)

theorem Axle.push_eq (x : Axle) (t : Stamp) :
    x.push t = { x with fifo := (pushStamp (x.fifo, x.overrun) t).1, overrun := (pushStamp (x.fifo, x.overrun) t).2 } := by
  unfold Axle.push pushStamp
  cases x.fifo with
  | nil => rfl
  | cons a l => cases l <;> rfl

/-- The axle unit after an edge, field by field. -/
theorem Axle.edged_eq (forward : Bool) (q : Nat) (stopped : Bool) (t : Stamp) (x : Axle) : x.edged forward q stopped t = { x with
    fifo := (pushStamp (x.fifo, x.overrun) t).1, overrun := (pushStamp (x.fifo, x.overrun) t).2
    odometer := saturate64 (x.odometer + signed forward q), edges := min 65535 (x.edges + 1)
    stillCount := if stopped then 0 else x.stillCount } := by
  rw [Axle.edged, Axle.applyEdge, Axle.push_eq]
  cases stopped <;> rfl

/-! ## Several edges, each on what the one before has left -/

/-- Edges in a direction, applied in order. -/
def Coach.applyEdges (e : Env) (d : EdgeDir) (ts : List Stamp) (c : Coach) : Coach := ts.foldl (fun c t => c.applyEdge e d t) c

theorem Coach.applyEdges_position (e : Env) (d : EdgeDir) : ∀ (ts : List Stamp) (c : Coach), (c.applyEdges e d ts).position
    = ts.foldl (fun p _ => addEdge (isForward (c.journey.learnt d) d) e.params.edgeUnits p) c.position
  | [], _ => rfl
  | t :: ts, c => by
    have later := Coach.applyEdges_position e d ts (c.applyEdge e d t)
    rw [Coach.applyEdge_learnt, Coach.applyEdge_position] at later
    exact later

/-- The axle unit after edges: FIFO, odometer and window edge count, each edge on what the one before has left. -/
theorem Coach.applyEdges_axle (e : Env) (d : EdgeDir) : ∀ (ts : List Stamp) (c : Coach), ∃ still, (c.applyEdges e d ts).axle = { c.axle with
    fifo := (ts.foldl pushStamp (c.axle.fifo, c.axle.overrun)).1, overrun := (ts.foldl pushStamp (c.axle.fifo, c.axle.overrun)).2
    odometer := ts.foldl (fun x _ => saturate64 (x + signed (isForward (c.journey.learnt d) d) e.params.edgeUnits)) c.axle.odometer
    edges := ts.foldl (fun n _ => min 65535 (n + 1)) c.axle.edges
    stillCount := still }
  | [], c => ⟨c.axle.stillCount, rfl⟩
  | t :: ts, c => by
    obtain ⟨still, later⟩ := Coach.applyEdges_axle e d ts (c.applyEdge e d t)
    rw [Coach.applyEdge_learnt, Coach.applyEdge_axle, Axle.edged_eq] at later
    exact ⟨still, later⟩

theorem Coach.applyEdges_sensors (e : Env) (d : EdgeDir) : ∀ (ts : List Stamp) (c : Coach), (c.applyEdges e d ts).sensors = c.sensors
  | [], _ => rfl
  | t :: ts, c => (Coach.applyEdges_sensors e d ts (c.applyEdge e d t)).trans (Coach.applyEdge_sensors e d c t)

theorem Coach.applyEdges_still (e : Env) (d : EdgeDir) : ∀ (ts : List Stamp) (c : Coach), c.position.motion.stopped = false →
    (c.applyEdges e d ts).axle.stillCount = c.axle.stillCount
  | [], _, _ => rfl
  | t :: ts, c, h => by
    have later := Coach.applyEdges_still e d ts (c.applyEdge e d t) (by rw [Coach.applyEdge_position]; exact addEdge_stopped _ _ _)
    rw [Coach.applyEdge_axle, Axle.edged_eq, h] at later
    exact later

/-- The first edge that finds STANDSTILL makes the still count 0; the later ones leave it. -/
theorem Coach.applyEdges_stillCount (e : Env) (d : EdgeDir) (t : Stamp) (ts : List Stamp) (c : Coach) :
    (c.applyEdges e d (t :: ts)).axle.stillCount = if c.position.motion.stopped then 0 else c.axle.stillCount := by
  have later := Coach.applyEdges_still e d ts (c.applyEdge e d t) (by rw [Coach.applyEdge_position]; exact addEdge_stopped _ _ _)
  rw [Coach.applyEdge_axle, Axle.edged_eq] at later
  exact later

theorem addEdge_coasting {p : Position} {k : Coast} (h : p.motion = .coasting k) (forward : Bool) (q : Nat) : addEdge forward q p = p := by
  rw [addEdge, h]

/-- The position with edges added to the estimate. -/
def Position.edgedTo (forward : Bool) (estimate : Nat) (p : Position) : Position := { p with
  estimate := estimate, contribution := p.contribution + ((estimate : Int) - p.estimate), lastForward := some forward, motion := .moving }

theorem addEdge_adds {p : Position} (h : p.motion = .standstill ∨ p.motion = .moving) (forward : Bool) (q : Nat) :
    addEdge forward q p = p.edgedTo forward (moveEstimate p.estimate (signed forward q)) := by
  rcases h with h | h <;> (rw [addEdge, h]; rfl)

theorem foldl_addEdge_coasting {p : Position} {k : Coast} (h : p.motion = .coasting k) (forward : Bool) (q : Nat) :
    ∀ ts : List Stamp, ts.foldl (fun p _ => addEdge forward q p) p = p
  | [] => rfl
  | t :: ts => by rw [List.foldl_cons, addEdge_coasting h, foldl_addEdge_coasting h forward q ts]

theorem foldl_addEdge_adds (forward : Bool) (q : Nat) : ∀ (ts : List Stamp) {p : Position} (t : Stamp), p.motion = .standstill ∨ p.motion = .moving →
    (t :: ts).foldl (fun p _ => addEdge forward q p) p
      = p.edgedTo forward ((t :: ts).foldl (fun x _ => moveEstimate x (signed forward q)) p.estimate)
  | [], p, t, h => addEdge_adds h forward q
  | u :: ts, p, t, h => by
    have later := foldl_addEdge_adds forward q ts (p := addEdge forward q p) u (.inr (by rw [addEdge_adds h]; rfl))
    rw [List.foldl_cons, later, addEdge_adds h]
    have split : ∀ a b x : Int, p.contribution + (a - x) + (b - a) = p.contribution + (b - x) := fun a b x => by omega
    simp only [Position.edgedTo, split]
    rfl

theorem foldl_count_edges : ∀ (ts : List Stamp) (t : Stamp) (n : Nat),
    (t :: ts).foldl (fun n _ => min 65535 (n + 1)) n = min 65535 (n + (t :: ts).length)
  | [], _, _ => rfl
  | u :: ts, t, n => by
    have later := foldl_count_edges ts u (min 65535 (n + 1))
    rw [List.foldl_cons, later, List.length_cons, List.length_cons, List.length_cons]
    omega

theorem moveEstimate_eq (x : Nat) (d : Int) : ((moveEstimate x d : Nat) : Int) = max 0 (min (4000000000 * 65536) (x + d)) :=
  Int.toNat_of_nonneg (Int.le_max_left _ _)

end Sys2Proof.Machine
end

section
/-! # The decoder, the direction filter and the statement on edges (3.1, 3.2) -/
namespace Sys2Proof.Machine

/-! ## The direction filter (R46, R47) -/

/-- The axle unit with a new sample. -/
def Axle.sampled (pair : Bool × Bool) (x : Axle) : Axle := { x with pair := some pair }

/-- The axle unit with a direction confirmed and no edge held. -/
def Axle.confirming (d : EdgeDir) (x : Axle) : Axle := { x with held := [], runDir := none, confirmed := some d }

theorem Axle.filter_confirmed {x : Axle} {d : EdgeDir} (h : x.confirmed = some d) (n : Nat) (t : Stamp) : x.filter n d t = (x.confirming d, [t]) := by
  rw [Axle.filter, if_pos h, Axle.confirming, ← h]
  rfl

theorem Axle.filter_turns {x : Axle} {d : EdgeDir} (h : x.confirmed ≠ some d) (hrun : x.runDir ≠ some d) (n : Nat) (t : Stamp) :
    x.filter n d t = if n ≤ 1 then (x.confirming d, [t]) else ({ x with held := [t], runDir := some d }, []) := by
  rw [Axle.filter, if_neg h, if_neg hrun]
  rfl

theorem Axle.filter_runs {x : Axle} {d : EdgeDir} (h : x.confirmed ≠ some d) (hrun : x.runDir = some d) (n : Nat) (t : Stamp) :
    x.filter n d t = if n ≤ x.held.length + 1 then (x.confirming d, x.held ++ [t]) else ({ x with held := x.held ++ [t] }, []) := by
  have kept : ({ x with held := x.held ++ [t], runDir := some d } : Axle) = { x with held := x.held ++ [t] } := by rw [← hrun]
  rw [Axle.filter, if_neg h, if_pos hrun]
  show (if n ≤ (x.held ++ [t]).length then (x.confirming d, x.held ++ [t])
    else ({ x with held := x.held ++ [t], runDir := some d }, [])) = _
  rw [kept, List.length_append]
  rfl

/-! ## An edge that is decoded (R43) -/

theorem Coach.axleEdge_faulted {c : Coach} {pair : Bool × Bool} {ch : AxleChannel} {d : EdgeDir} (hpair : c.axle.pair = some pair)
    (hd : decodeSample pair (toggled ch pair) = .edge d) (h : c.axle.fault = true) (e : Env) (t : Stamp) :
    c.axleEdge e ch t = { c with axle := c.axle.sampled (toggled ch pair) } := by
  rw [Coach.axleEdge, hpair]
  simp only [hd]
  exact if_pos h

theorem Coach.axleEdge_filtered {c : Coach} {pair : Bool × Bool} {ch : AxleChannel} {d : EdgeDir} (hpair : c.axle.pair = some pair)
    (hd : decodeSample pair (toggled ch pair) = .edge d) (h : c.axle.fault = false) (e : Env) (t : Stamp) {x : Axle} {ts : List Stamp}
    (hf : (c.axle.sampled (toggled ch pair)).filter e.params.revEdges d t = (x, ts)) :
    c.axleEdge e ch t = Coach.applyEdges e d ts { c with axle := x } := by
  rw [Coach.axleEdge, hpair]
  simp only [hd]
  refine (if_neg ?_).trans ?_
  · rw [h]
    exact Bool.false_ne_true
  · exact congrArg (fun f : Axle × List Stamp => Coach.applyEdges e d f.2 { c with axle := f.1 }) hf

theorem Axle.filter_pair (n : Nat) (d : EdgeDir) (t : Stamp) (x : Axle) : (x.filter n d t).1.pair = x.pair := by
  by_cases h : x.confirmed = some d
  · rw [Axle.filter_confirmed h]
    rfl
  · by_cases hrun : x.runDir = some d
    · rw [Axle.filter_runs h hrun]
      split <;> rfl
    · rw [Axle.filter_turns h hrun]
      split <;> rfl

theorem Coach.axleEdge_pair {c : Coach} {pair : Bool × Bool} {ch : AxleChannel} {d : EdgeDir} (hpair : c.axle.pair = some pair)
    (hd : decodeSample pair (toggled ch pair) = .edge d) (e : Env) (t : Stamp) : (c.axleEdge e ch t).axle.pair = some (toggled ch pair) := by
  cases h : c.axle.fault with
  | true => rw [Coach.axleEdge_faulted hpair hd h]; rfl
  | false =>
    obtain ⟨⟨x, ts⟩, hf⟩ : ∃ f, (c.axle.sampled (toggled ch pair)).filter e.params.revEdges d t = f := ⟨_, rfl⟩
    obtain ⟨still, axle⟩ := Coach.applyEdges_axle e d ts { c with axle := x }
    rw [Coach.axleEdge_filtered hpair hd h e t hf, axle]
    have pair' := Axle.filter_pair e.params.revEdges d t (c.axle.sampled (toggled ch pair))
    rw [hf] at pair'
    exact pair'

theorem exec_axleEdge {s : State} (h : s.inReset = false) (ch : AxleChannel) (stamp : Stamp) : ∃ t, exec (.axleEdge ch stamp) s = .next t
    ∧ t.now = momentOf s.now stamp ∧ t = { s with now := t.now, coach := t.coach } ∧ t.coach = s.coach.axleEdge t.env ch stamp
    ∧ t.env.params = s.params := by
  refine ⟨State.onCoach (fun e c => c.axleEdge e ch stamp) { s with now := momentOf s.now stamp }, ?_, rfl, rfl, rfl, rfl⟩
  rw [exec_of_live h (f := fun s => State.onCoach (fun e c => c.axleEdge e ch stamp) { s with now := momentOf s.now stamp }) rfl]

/-! ## An illegal transition (R44) -/

theorem exec_illegalTransition {s : State} (h : s.inReset = false) :
    exec .illegalTransition s = .next { s with coach := { s.coach with axle := s.coach.axle.illegalEdge } } :=
  exec_of_live h (f := fun s => s.onCoach fun _ c => { c with axle := c.axle.illegalEdge }) rfl

/-- One edge of the confirmed direction: what it teaches, then the change of position with the axle unit as it is then. -/
theorem Coach.applyEdge_onAxle {e : Env} {d : EdgeDir} {t : Stamp} {c D : Coach} {x : Axle} (h : D = Coach.applyEdges e d [t] { c with axle := x }) :
    D = Coach.handPosition e c.position { c.learnOrientation e d with position := D.position, axle := D.axle } := by
  have edge : D = Coach.applyEdge e d { c with axle := x } t := h
  have position := congrArg Coach.position edge
  have axle := congrArg Coach.axle edge
  rw [Coach.applyEdge_position] at position
  rw [Coach.applyEdge_axle] at axle
  rw [Coach.applyEdge_eq, ← axle, ← position, Coach.learnOrientation_onAxle] at edge
  exact edge

/-- What the edges of a direction leave, all applied in order from a coach with that direction confirmed. -/
theorem Coach.applyEdges_rules (e : Env) (d : EdgeDir) {ts : List Stamp} (hne : ts ≠ []) (c : Coach) {x : Axle} {D : Coach} {step : Int} {forward : Bool}
    (hforward : forward = isForward (c.journey.learnt d) d) (hstep : step = signed forward e.params.edgeUnits)
    (hD : D = Coach.applyEdges e d ts { c with axle := x.confirming d }) :
    D.axle.confirmed = some d ∧ D = Coach.applyEdges e d ts { c with axle := x.confirming d } ∧ D.axle.odometer = ts.foldl (fun x _ => saturate64 (x + step)) x.odometer
    ∧ D.axle.edges = min 65535 (x.edges + ts.length) ∧ (D.axle.fifo, D.axle.overrun) = ts.foldl pushStamp (x.fifo, x.overrun)
    ∧ D.axle.held = [] ∧ D.axle.runDir = none
    ∧ D.position.contribution = c.position.contribution + ((D.position.estimate : Int) - c.position.estimate)
    ∧ D.position.accepted = c.position.accepted ∧ D.position.fix = c.position.fix
    ∧ (c.position.motion = .standstill ∨ c.position.motion = .moving →
        D.position.estimate = ts.foldl (fun x _ => moveEstimate x step) c.position.estimate
        ∧ D.position.motion = .moving ∧ D.position.lastForward = some forward
        ∧ D.axle.stillCount = if c.position.motion = .standstill then 0 else x.stillCount)
    ∧ (∀ k, c.position.motion = .coasting k → D.position = c.position) := by
  obtain ⟨t, ts, rfl⟩ := List.exists_cons_of_ne_nil hne
  obtain ⟨still, axle⟩ := Coach.applyEdges_axle e d (t :: ts) { c with axle := x.confirming d }
  have position : D.position = (t :: ts).foldl (fun p _ => addEdge forward e.params.edgeUnits p) c.position := by
    rw [hD, Coach.applyEdges_position, hforward]
  have stillCount : D.axle.stillCount = if c.position.motion = .standstill then 0 else x.stillCount := by
    rw [hD, Coach.applyEdges_stillCount]
    exact ite_congr (propext (Motion.stopped_iff _)) (fun _ => rfl) fun _ => rfl
  rw [← hD] at axle
  have coasts : ∀ k, c.position.motion = .coasting k → D.position = c.position := fun k hk => by
    rw [position, foldl_addEdge_coasting hk]
  have adds : c.position.motion = .standstill ∨ c.position.motion = .moving →
      D.position = c.position.edgedTo forward ((t :: ts).foldl (fun x _ => moveEstimate x step) c.position.estimate) := fun h => by
    rw [position, foldl_addEdge_adds forward _ ts t h, ← hstep]
  have either : (∃ k, c.position.motion = .coasting k) ∨ c.position.motion = .standstill ∨ c.position.motion = .moving := by
    cases c.position.motion with
    | standstill => exact .inr (.inl rfl)
    | moving => exact .inr (.inr rfl)
    | coasting k => exact .inl ⟨k, rfl⟩
  obtain ⟨contribution, accepted, fix⟩ : D.position.contribution = c.position.contribution + ((D.position.estimate : Int) - c.position.estimate)
      ∧ D.position.accepted = c.position.accepted ∧ D.position.fix = c.position.fix := by
    rcases either with ⟨k, hk⟩ | h
    · rw [coasts k hk]
      exact ⟨by omega, rfl, rfl⟩
    · rw [adds h]
      exact ⟨rfl, rfl, rfl⟩
  refine ⟨?_, hD, ?_, ?_, ?_, ?_, ?_, contribution, accepted, fix, fun h => ?_, coasts⟩
  · rw [axle]
    rfl
  · rw [axle, hstep, hforward]
    rfl
  · rw [axle]
    exact foldl_count_edges ts t x.edges
  · rw [axle]
    rfl
  · rw [axle]
    rfl
  · rw [axle]
    rfl
  · rw [stillCount, adds h]
    exact ⟨rfl, rfl, rfl, rfl⟩

/-- Settles O43: an edge by the filter and by what it applies, one edge in full, and an illegal transition. -/
theorem axleEdgesAreFilteredAndApplied : Obligations.AxleEdgesAreFilteredAndApplied := by
  refine ⟨fun s ch stamp pair d hlive hpair hd => ?_, fun e c d stamp => ?_, fun s n x hlive hn hx => ⟨fun h => ?_, fun h => ?_⟩⟩
  · obtain ⟨t, hexec, hnow, ht, coach, hparams⟩ := exec_axleEdge hlive ch stamp
    obtain ⟨forward, hforward⟩ : ∃ forward, forward = isForward (s.coach.journey.learnt d) d := ⟨_, rfl⟩
    have applied := fun ts (hne : ts ≠ []) => Coach.applyEdges_rules (step := signed forward s.params.edgeUnits) (D := t.coach)
      (x := s.coach.axle.sampled (toggled ch pair)) t.env d hne s.coach hforward (by rw [hparams])
    have applies : ∀ {ts}, (s.coach.axle.sampled (toggled ch pair)).filter t.env.params.revEdges d stamp
        = ((s.coach.axle.sampled (toggled ch pair)).confirming d, ts) → s.coach.axle.fault = false → t.coach = Coach.applyEdges t.env d ts
        { s.coach with axle := (s.coach.axle.sampled (toggled ch pair)).confirming d } := fun hf hfault =>
      coach.trans (Coach.axleEdge_filtered hpair hd hfault t.env stamp hf)
    obtain ⟨same, learns⟩ := s.coach.learnOrientation_eq t.env d
    refine ⟨t, s.coach.journey.learnt d, s.params.edgeUnits, forward, signed forward s.params.edgeUnits, _, pushStamp, hexec, hnow, ?_, ht, ?_, rfl, rfl,
      ?_, rfl, fun b x => rfl, fun y b x => rfl, fun y z zs b x => rfl, fun ts => rfl, fun hfault => ?_, fun hfault hconfirmed => ⟨?_, ?_⟩,
      fun hfault hother hturns => ⟨fun hmany => ?_, fun hone => ?_⟩, fun hfault hother hruns => ⟨fun hmany => ?_, fun hlast => ?_⟩⟩
    · rw [coach]
      exact Coach.axleEdge_pair hpair hd _ _
    · rw [coach, Coach.axleEdge_sensors]
    · rw [hforward, isForward_eq]
    · exact coach.trans (Coach.axleEdge_faulted hpair hd hfault _ _)
    · exact applied _ (List.cons_ne_nil _ _) (applies (Axle.filter_confirmed (x := s.coach.axle.sampled (toggled ch pair)) hconfirmed _ _) hfault)
    · have edge := applies (Axle.filter_confirmed (x := s.coach.axle.sampled (toggled ch pair)) hconfirmed t.env.params.revEdges stamp) hfault
      exact ⟨s.coach.learnOrientation t.env d, same, learns, Coach.applyEdge_onAxle edge⟩
    · have holds := Axle.filter_turns (x := s.coach.axle.sampled (toggled ch pair)) hother hturns t.env.params.revEdges stamp
      rw [if_neg (by rw [hparams]; omega)] at holds
      exact coach.trans (Coach.axleEdge_filtered hpair hd hfault t.env stamp holds)
    · have confirms := Axle.filter_turns (x := s.coach.axle.sampled (toggled ch pair)) hother hturns t.env.params.revEdges stamp
      rw [if_pos (by rw [hparams]; exact hone)] at confirms
      exact applied _ (List.cons_ne_nil _ _) (applies confirms hfault)
    · have holds := Axle.filter_runs (x := s.coach.axle.sampled (toggled ch pair)) hother hruns t.env.params.revEdges stamp
      rw [if_neg (by rw [hparams]; exact Nat.not_le.2 hmany)] at holds
      exact coach.trans (Coach.axleEdge_filtered hpair hd hfault t.env stamp holds)
    · have confirms := Axle.filter_runs (x := s.coach.axle.sampled (toggled ch pair)) hother hruns t.env.params.revEdges stamp
      rw [if_pos (by rw [hparams]; exact hlast)] at confirms
      exact applied _ (List.append_ne_nil_of_right_ne_nil _ (List.cons_ne_nil _ _)) (applies confirms hfault)
  · obtain ⟨same, learns⟩ := c.learnOrientation_eq e d
    obtain ⟨forward, hforward⟩ : ∃ forward, forward = isForward (c.journey.learnt d) d := ⟨_, rfl⟩
    obtain ⟨x, hx⟩ : ∃ x, x = c.axle.edged forward e.params.edgeUnits c.position.motion.stopped stamp := ⟨_, rfl⟩
    obtain ⟨p, hp⟩ : ∃ p, p = addEdge forward e.params.edgeUnits c.position := ⟨_, rfl⟩
    have axle := Axle.edged_eq forward e.params.edgeUnits c.position.motion.stopped stamp c.axle
    rw [← hx] at axle
    have standstill : (if c.position.motion.stopped then 0 else c.axle.stillCount) = if c.position.motion = .standstill then 0 else c.axle.stillCount :=
      ite_congr (propext (Motion.stopped_iff _)) (fun _ => rfl) fun _ => rfl
    refine ⟨c.learnOrientation e d, c.journey.learnt d, e.params.edgeUnits, forward, signed forward e.params.edgeUnits,
      moveEstimate c.position.estimate (signed forward e.params.edgeUnits), x, p, rfl, same, learns, rfl, ?_, rfl, moveEstimate_eq _ _, ?_, ?_,
      fun h => ?_, fun y h => ?_, fun y z zs h => ?_, fun k h => ?_, fun h => ?_⟩
    · rw [hforward, isForward_eq]
    · rw [Coach.applyEdge_eq, ← hforward, ← hx, ← hp]
    · rw [axle, standstill]
      rfl
    · rw [axle, h]
      exact ⟨rfl, rfl⟩
    · rw [axle, h]
      exact ⟨rfl, rfl⟩
    · rw [axle, h]
      exact ⟨rfl, rfl⟩
    · rw [hp, addEdge_coasting h]
    · rw [hp, addEdge_adds h]
      rfl
  · rw [exec_illegalTransition hlive, Axle.illegalEdge, ← hn, ← hx, if_neg h]
  · rw [exec_illegalTransition hlive, Axle.illegalEdge, ← hn, ← hx, if_pos h]
    rfl

end Sys2Proof.Machine
end

section
/-! # The idle step (log entries 1 to 3 and 6) -/
namespace Sys2Proof.Machine

/-! ## What is due, block by block -/

theorem mem_dueAt {o : Option Nat} {i : Instr} {t : Nat} {d : Due} : (t, d) ∈ dueAt o i ↔ o = some t ∧ d = .command i := by
  cases o <;> simp [dueAt, eq_comm]

theorem mem_dueIf {now t : Nat} {b : Bool} {x d : Due} : (t, d) ∈ dueIf now b x ↔ b = true ∧ t = now ∧ d = x := by
  cases b <;> simp [dueIf]

theorem ite_some_eq_some {p : Prop} [Decidable p] {x t : Nat} : (if p then some x else none) = some t ↔ p ∧ t = x := by
  by_cases h : p <;> simp [h, eq_comm]

theorem State.canTake_iff (s : State) (p : Port) :
    s.canTake p = true ↔ ∃ w ws, s.requests p = w :: ws ∧ (w.broadcast = true ∨ (s.responses p).length < 2) := by
  unfold State.canTake
  cases s.requests p <;> simp [State.hasPlace]

theorem PortState.nextFrame_isSome (x : PortState) : x.nextFrame.isSome = true ↔ x.forward ≠ [] ∨ x.responses ≠ [] := by
  unfold PortState.nextFrame
  cases x.forward with
  | nil => cases x.responses <;> simp
  | cons f fs =>
    cases x.responses with
    | nil => simp
    | cons r rs => cases x.lastForward <;> simp

theorem State.mem_portDue {s : State} {q : LinePort} {t : Nat} {d : Due} : (t, d) ∈ s.portDue q ↔
    (s.canTake (.line q) = true ∧ t = s.now ∧ d = .request (.line q))
    ∨ (((s.port q).sending = none ∧ ((s.port q).forward ≠ [] ∨ (s.port q).responses ≠ [])) ∧ t = s.now ∧ d = .command (.frameSendStart (.line q)))
    ∨ ((∃ y, (s.port q).sending = some y ∧ t = y.endsAt) ∧ d = .command (.frameSendEnd (.line q)))
    ∨ (((s.port q).quiet = true ∧ t = (s.port q).idleAt) ∧ d = .command (.idleCharacter q))
    ∨ (((s.port q).linkUp = true ∧ t = (s.port q).silenceAt) ∧ d = .command (.linkDown q)) := by
  simp only [State.portDue, List.mem_append, mem_dueIf, mem_dueAt, ite_some_eq_some, Option.map_eq_some_iff, Bool.and_eq_true,
    PortState.nextFrame_isSome, Option.isNone_iff_eq_none, or_assoc, eq_comm (b := t)]

theorem State.mem_crewDue {s : State} {t : Nat} {d : Due} : (t, d) ∈ s.crewDue ↔
    (s.canTake .crew = true ∧ t = s.now ∧ d = .request .crew)
    ∨ ((s.crew.sending = none ∧ s.crew.responses ≠ []) ∧ t = s.now ∧ d = .command (.frameSendStart .crew))
    ∨ ((∃ y, s.crew.sending = some y ∧ t = y.endsAt) ∧ d = .command (.frameSendEnd .crew)) := by
  simp only [State.crewDue, List.mem_append, mem_dueIf, mem_dueAt, Option.map_eq_some_iff, Bool.and_eq_true, Option.isNone_iff_eq_none,
    Bool.not_eq_true', List.isEmpty_eq_false_iff, or_assoc, eq_comm (b := t)]

/-- How a frame in progress ends of its own accord. -/
theorem SeatLine.mem_frameEnds {i : Fin 4} {l : SeatLine} {f : SeatFrame} {t : Nat} {d : Due} : (t, d) ∈ l.frameEnds i f ↔
    (f.cmd.isQuery = true ∧ t = l.timeoutAt f ∧ d = .command (.responseTimeout i (min f.cmd.answer (l.arrived f t))))
    ∨ (f.cmd = .showContent ∧ t = l.sentAt f ∧ d = .command (.showSent i))
    ∨ (f.cmd = .level ∧ t = l.sentAt f ∧ d = .command (.levelSent i))
    ∨ (f.cmd = .names ∧ t = l.sentAt f ∧ d = .command (.namesSent i)) := by
  have timesOut : t = l.timeoutAt f ∧ d = .command (.responseTimeout i (min f.cmd.answer (l.arrived f (l.timeoutAt f))))
      ↔ t = l.timeoutAt f ∧ d = .command (.responseTimeout i (min f.cmd.answer (l.arrived f t))) :=
    and_congr_right fun h => by rw [h]
  unfold SeatLine.frameEnds
  cases h : f.cmd <;> simp [SeatCmd.isQuery, h] at timesOut ⊢
  · exact timesOut
  · exact timesOut

theorem Coach.mem_frameOn {c : Coach} {i : Fin 4} {f : SeatFrame} : c.frameOn i = some f ↔ (c.lines.get i).activity = .frame f := by
  unfold Coach.frameOn
  cases (c.lines.get i).activity <;> simp

theorem State.mem_lineDue {s : State} {i : Fin 4} {t : Nat} {d : Due} : (t, d) ∈ s.lineDue i ↔
    ((s.mayBegin i = true ∧ t = (s.coach.lines.get i).frameDue) ∧ d = .command (.seatFrameStart i))
    ∨ (∃ f, (s.coach.lines.get i).activity = .frame f ∧ (t, d) ∈ (s.coach.lines.get i).frameEnds i f)
    ∨ (((s.coach.lines.get i).running = true ∧ ∃ b, (s.coach.lines.get i).dominantSince = some b ∧ t = b + 30 * (s.coach.lines.get i).bitRate.period)
        ∧ d = .command (.lineStuck i))
    ∨ (((s.coach.lines.get i).activity = .stuck ∧ s.levels.get i = .recessive ∧ t = (s.coach.lines.get i).recessiveSince + 2400000)
        ∧ d = .command (.stuckRelease i)) := by
  have frame : (t, d) ∈ ((s.coach.frameOn i).map fun f => (s.coach.lines.get i).frameEnds i f).getD []
      ↔ ∃ f, (s.coach.lines.get i).activity = .frame f ∧ (t, d) ∈ (s.coach.lines.get i).frameEnds i f := by
    simp only [← Coach.mem_frameOn]
    cases s.coach.frameOn i <;> simp
  have stuck : ((s.coach.lines.get i).running && (s.coach.lines.get i).dominantSince.isSome) = true ∧ t = (s.coach.lines.get i).stuckAt s.now
      ↔ (s.coach.lines.get i).running = true
        ∧ ∃ b, (s.coach.lines.get i).dominantSince = some b ∧ t = b + 30 * (s.coach.lines.get i).bitRate.period := by
    unfold SeatLine.stuckAt
    cases (s.coach.lines.get i).dominantSince <;> simp
  have free : ((s.coach.lines.get i).activity = .stuck ∧ s.levels.get i = .recessive) ∧ t = (s.coach.lines.get i).freeAt .recessive s.now
      ↔ (s.coach.lines.get i).activity = .stuck ∧ s.levels.get i = .recessive ∧ t = (s.coach.lines.get i).recessiveSince + 2400000 := and_assoc
  simp only [State.lineDue, List.mem_append, mem_dueAt, ite_some_eq_some, frame, stuck, free, or_assoc]

theorem Notice.expiresAt_eq {n : Notice} {t : Nat} :
    n.expiresAt = some t ↔ ∃ k f, n.ends = .afterSeconds k ∧ n.firstShown = some f ∧ t = (f + k * 1000) * 24000 := by
  unfold Notice.expiresAt
  cases n.ends <;> cases n.firstShown <;> simp [Config.perMillisecond, eq_comm]

theorem NoticeUnit.mem_due {u : NoticeUnit} {now t : Nat} {d : Due} : (t, d) ∈ u.due now ↔
    (u.hold = some t ∧ d = .command .showMinExpiry)
    ∨ (∃ n ∈ u.queue, n.expiresAt = some t ∧ d = .command (.afterSecondsExpiry n.id))
    ∨ (u.chimeUntil = some t ∧ d = .command .chimeEnd)
    ∨ ((u.clock ≠ none ∧ u.secondAt = some t) ∧ d = .command .clockSecond)
    ∨ ((u.pageDue = true ∧ u.sending = none) ∧ t = now ∧ d = .command .pageStart)
    ∨ ((∃ y, u.sending = some y ∧ t = y.endsAt) ∧ d = .command .pageEnd)
    ∨ (u.refreshAt = some t ∧ d = .command .pageRefresh) := by
  have second : (u.clock.bind fun _ => u.secondAt) = some t ↔ u.clock ≠ none ∧ u.secondAt = some t := by
    cases u.clock <;> simp
  simp only [NoticeUnit.due, List.mem_append, List.mem_flatMap, mem_dueAt, mem_dueIf, second, Option.map_eq_some_iff, Bool.and_eq_true,
    Option.isNone_iff_eq_none, or_assoc, eq_comm (b := t)]

theorem State.mem_due {s : State} {t : Nat} {d : Due} : (t, d) ∈ s.due ↔
    (∃ q, (t, d) ∈ s.portDue q)
    ∨ (t, d) ∈ s.crewDue
    ∨ ((s.consist.lead ≠ none ∧ s.consist.lease = some t) ∧ d = .command .leaseExpiry)
    ∨ (s.coach.axle.windowAt = some t ∧ d = .command .windowClose)
    ∨ (∃ i, (t, d) ∈ s.lineDue i)
    ∨ (t, d) ∈ s.coach.notices.due s.now
    ∨ (s.coach.map.stepAt = some t ∧ d = .command .stepTimerExpiry)
    ∨ (s.coach.map.frameAt = some t ∧ d = .command .driveFrameBoundary) := by
  have ports : (t, d) ∈ s.portDue .a ∨ (t, d) ∈ s.portDue .b ↔ ∃ q, (t, d) ∈ s.portDue q :=
    ⟨fun h => h.elim (fun h => ⟨_, h⟩) fun h => ⟨_, h⟩, fun ⟨q, h⟩ => by cases q <;> simp [h]⟩
  have lease : (s.consist.lead.bind fun _ => s.consist.lease) = some t ↔ s.consist.lead ≠ none ∧ s.consist.lease = some t := by
    cases s.consist.lead <;> simp
  rw [← ports, or_assoc]
  simp only [State.due, List.mem_append, List.mem_flatMap, List.mem_finRange, true_and, mem_dueAt, lease, or_assoc]

/-! ## What has fallen due first -/

theorem State.mem_dueNow {s : State} {d : Due} : d ∈ s.dueNow ↔ ∃ t, t ≤ s.now ∧ (t, d) ∈ s.due ∧ ∀ x ∈ s.due, t ≤ x.1 := by
  obtain ⟨ready, hready⟩ : ∃ ready, ready = s.due.filter fun x => x.1 ≤ s.now := ⟨_, rfl⟩
  have mem : ∀ x, x ∈ ready ↔ x ∈ s.due ∧ x.1 ≤ s.now := fun x => by simp [hready]
  unfold State.dueNow
  dsimp only
  rw [← hready]
  cases hmin : (ready.map Prod.fst).min? with
  | none =>
    have empty : ready = [] := by simpa using hmin
    refine iff_of_false List.not_mem_nil ?_
    rintro ⟨t, ht, hmem, -⟩
    simpa [empty] using (mem (t, d)).2 ⟨hmem, ht⟩
  | some m =>
    obtain ⟨hm, least⟩ := List.min?_eq_some_iff.1 hmin
    obtain ⟨y, hy, rfl⟩ := List.mem_map.1 hm
    have earliest : ∀ x ∈ s.due, y.1 ≤ x.1 := fun x hx => by
      by_cases h : x.1 ≤ s.now
      · exact least _ (List.mem_map_of_mem ((mem x).2 ⟨hx, h⟩))
      · have := ((mem y).1 hy).2
        omega
    have first : d ∈ (ready.filter fun x => x.1 = y.1).map Prod.snd ↔ (y.1, d) ∈ ready := by simp [eq_comm]
    rw [first, mem]
    refine ⟨fun ⟨hdue, hnow⟩ => ⟨y.1, hnow, hdue, earliest⟩, ?_⟩
    rintro ⟨t, ht, hmem, hleast⟩
    have same : y.1 = t := Nat.le_antisymm (earliest _ hmem) (hleast _ ((mem y).1 hy).1)
    exact same ▸ ⟨hmem, ht⟩

/-! ## Taking a request (R181) -/

@[simp] theorem State.popRequest_requests (p : Port) (s : State) : (s.popRequest p).requests p = (s.requests p).drop 1 := by
  cases p with
  | crew => rfl
  | line q => simp [State.popRequest, State.requests]

theorem takeRequest_none {s : State} {p : Port} (h : s.requests p = []) : takeRequest p s = .next s := by
  rw [takeRequest, h]
  rfl

theorem takeRequest_command {s : State} {p : Port} {w : Waiting} {ws : List Waiting} (h : s.requests p = w :: ws) {i : Instr}
    (hi : w.command p = some i) : takeRequest p s = exec i (s.popRequest p) := by
  rw [takeRequest, h]
  simp only [List.head?_cons, hi]

theorem takeRequest_misfit {s : State} {p : Port} {w : Waiting} {ws : List Waiting} (h : s.requests p = w :: ws) (hi : w.command p = none) :
    takeRequest p s = .next ((s.popRequest p).takeMisfit p w.kind) := by
  rw [takeRequest, h]
  simp only [List.head?_cons, hi]

theorem misfitBody_eq (p : Port) (k : Nat) (s : State) : misfitBody p k s = (s,
    { status := if p = .crew ∧ k ∉ [16, 17, 18, 19, 21, 22, 26] then .notPermitted else .badField, results := if k ≤ 4 then s.consistChars else [] }) := by
  have crew : (Port.isCrew p && !crewKind k) = decide (p = .crew ∧ k ∉ [16, 17, 18, 19, 21, 22, 26]) := by
    cases p <;> simp [Port.isCrew, crewKind]
  unfold misfitBody
  dsimp only
  rw [crew]
  split <;> simp [withConsist, refuse]

theorem State.takeMisfit_eq {s : State} {p : Port} (h : s.hasPlace p = true) (kind : Byte) : s.takeMisfit p kind = State.answer p kind.toNat
    (if p = .crew ∧ kind.toNat ∉ [16, 17, 18, 19, 21, 22, 26] then .notPermitted else .badField)
    (if kind.toNat ≤ 4 then (s.renew p).consistChars else []) (s.renew p) := by
  rw [State.takeMisfit, request, if_pos h, misfitBody_eq]
  rfl

theorem exec_request_waits {i : Instr} {p : Port} {k : Nat} (h : requestOf i = some (p, k)) {s : State} (hfull : 2 ≤ (s.responses p).length) :
    exec i s = .next s := by
  have noPlace : s.hasPlace p = false := by
    simp only [State.hasPlace, decide_eq_false_iff_not]
    omega
  rw [exec_request h, live_request_waits noPlace]

/-! ## The idle step -/

theorem step_idle {s : State} (h : s.pending = []) : step s = idle s := by
  unfold step
  rw [h]

theorem idle_held {s : State} (h : s.inReset = true) : idle s = .next s := by rw [idle, if_pos h]

theorem idle_waits {s : State} (h : s.inReset = false) (hdue : s.dueNow = []) : idle s = .next { s with now := s.now + 1 } := by
  simp only [idle, h, hdue]
  rfl

theorem idle_single {s : State} (h : s.inReset = false) {d : Due} (hdue : s.dueNow = [d]) : idle s = takeDue d s := by
  simp only [idle, h, hdue]
  rfl

theorem idle_several {s : State} (h : s.inReset = false) (hmany : 2 ≤ s.dueNow.length) :
    ∃ d ∈ s.dueNow, idle s = takeDue d { s with choices := s.choices + 1 } := by
  obtain ⟨d, d', ds, hdue⟩ : ∃ d d' ds, s.dueNow = d :: d' :: ds := by
    match hdue : s.dueNow with
    | [] => simp [hdue] at hmany
    | [_] => simp [hdue] at hmany
    | d :: d' :: ds => exact ⟨d, d', ds, rfl⟩
  have inside : Config.dueChoice s.choices % ((d' :: ds).length + 1) < (d :: d' :: ds).length := Nat.mod_lt _ (Nat.succ_pos _)
  refine ⟨(d :: d' :: ds).getD (Config.dueChoice s.choices % ((d' :: ds).length + 1)) d, ?_, ?_⟩
  · rw [hdue, List.getD_eq_getElem?_getD, List.getElem?_eq_getElem inside, Option.getD_some]
    exact List.getElem_mem inside
  · simp only [idle, h, hdue]
    rfl

/-- No request falls due but through its buffer. -/
theorem requestOf_due {s : State} {t : Nat} {c : Instr} (h : (t, .command c) ∈ s.due) : requestOf c = none := by
  rcases State.mem_due.1 h with ⟨q, hport⟩ | hcrew | ⟨-, hc⟩ | ⟨-, hc⟩ | ⟨i, hline⟩ | hnotice | ⟨-, hc⟩ | ⟨-, hc⟩
  case inl =>
    rcases State.mem_portDue.1 hport with ⟨-, -, hc⟩ | ⟨-, -, hc⟩ | ⟨-, hc⟩ | ⟨-, hc⟩ | ⟨-, hc⟩ <;> cases hc <;> rfl
  case inr.inl =>
    rcases State.mem_crewDue.1 hcrew with ⟨-, -, hc⟩ | ⟨-, -, hc⟩ | ⟨-, hc⟩ <;> cases hc <;> rfl
  case inr.inr.inr.inr.inl =>
    rcases State.mem_lineDue.1 hline with ⟨-, hc⟩ | ⟨f, -, hframe⟩ | ⟨-, hc⟩ | ⟨-, hc⟩
    case inr.inl =>
      rcases SeatLine.mem_frameEnds.1 hframe with ⟨-, -, hc⟩ | ⟨-, -, hc⟩ | ⟨-, -, hc⟩ | ⟨-, -, hc⟩ <;> cases hc <;> rfl
    all_goals cases hc; rfl
  case inr.inr.inr.inr.inr.inl =>
    rcases NoticeUnit.mem_due.1 hnotice with ⟨-, hc⟩ | ⟨n, -, -, hc⟩ | ⟨-, hc⟩ | ⟨-, hc⟩ | ⟨-, -, hc⟩ | ⟨-, hc⟩ | ⟨-, hc⟩ <;> cases hc <;> rfl
  all_goals cases hc; rfl

/-- A request falls due where it can be taken. -/
theorem State.request_due (s : State) {t : Nat} {p : Port} : (t, .request p) ∈ s.due ↔
    t = s.now ∧ ∃ w ws, s.requests p = w :: ws ∧ (w.broadcast = true ∨ (s.responses p).length < 2) := by
  rw [← s.canTake_iff]
  simp only [State.mem_due, State.mem_portDue, State.mem_crewDue, State.mem_lineDue, SeatLine.mem_frameEnds, NoticeUnit.mem_due, reduceCtorEq,
    and_false, or_false, exists_false, Due.request.injEq]
  constructor
  · rintro (⟨q, htake, hnow, rfl⟩ | ⟨htake, hnow, rfl⟩) <;> exact ⟨hnow, htake⟩
  · rintro ⟨hnow, htake⟩
    cases p with
    | line q => exact .inl ⟨q, htake, hnow, rfl⟩
    | crew => exact .inr ⟨htake, hnow, rfl⟩

theorem State.frameSendEnd_due (s : State) {t : Nat} {p : Port} : (t, .command (.frameSendEnd p)) ∈ s.due ↔
    ∃ y, s.sendingOn p = some y ∧ t = y.endsAt := by
  cases p <;>
    simp [State.mem_due, State.mem_portDue, State.mem_crewDue, State.mem_lineDue, SeatLine.mem_frameEnds, NoticeUnit.mem_due, State.sendingOn]

theorem SeatCmd.query_answer {c : SeatCmd} {k : Nat} :
    c.isQuery = true ∧ c.answer = k ↔ (c = .poll ∧ k = 4) ∨ (c = .ident ∧ k = 2) := by
  cases c <;> simp [SeatCmd.isQuery, SeatCmd.answer, eq_comm]

theorem State.responseTimeout_due (s : State) {t n : Nat} {i : Fin 4} : (t, .command (.responseTimeout i n)) ∈ s.due ↔
    ∃ f k, (s.coach.lines.get i).activity = .frame f ∧ ((f.cmd = .poll ∧ k = 4) ∨ (f.cmd = .ident ∧ k = 2))
      ∧ t = f.start + ((s.coach.lines.get i).breakBits + 21 + (s.coach.lines.get i).rtFactor * (k + 1)) * (s.coach.lines.get i).bitRate.period
      ∧ n = min k (f.begun.filter fun b => b + 19 * (s.coach.lines.get i).bitRate.period / 2 ≤ t).length := by
  simp only [State.mem_due, State.mem_portDue, State.mem_crewDue, State.mem_lineDue, SeatLine.mem_frameEnds, NoticeUnit.mem_due,
    Due.command.injEq, reduceCtorEq, and_false, false_or, or_false, exists_false, Instr.responseTimeout.injEq]
  constructor
  · rintro ⟨j, f, hf, hquery, ht, rfl, hn⟩
    exact ⟨f, f.cmd.answer, hf, SeatCmd.query_answer.1 ⟨hquery, rfl⟩, ht, hn⟩
  · rintro ⟨f, k, hf, hk, ht, hn⟩
    obtain ⟨hquery, rfl⟩ := SeatCmd.query_answer.2 hk
    exact ⟨i, f, hf, hquery, ht, rfl, hn⟩

theorem State.sent_due (s : State) {t : Nat} {i : Fin 4} {cmd : SeatCmd} {c : Instr}
    (h : (cmd, c) ∈ [(SeatCmd.showContent, Instr.showSent i), (.level, .levelSent i), (.names, .namesSent i)]) : (t, .command c) ∈ s.due ↔
    ∃ f, (s.coach.lines.get i).activity = .frame f ∧ f.cmd = cmd
      ∧ t = f.start + ((s.coach.lines.get i).breakBits + 21 + 10 * (f.data.length + 1)) * (s.coach.lines.get i).bitRate.period := by
  have cases : (cmd = .showContent ∧ c = .showSent i) ∨ (cmd = .level ∧ c = .levelSent i) ∨ (cmd = .names ∧ c = .namesSent i) := by simpa using h
  rcases cases with ⟨rfl, rfl⟩ | ⟨rfl, rfl⟩ | ⟨rfl, rfl⟩
  all_goals
    simp only [State.mem_due, State.mem_portDue, State.mem_crewDue, State.mem_lineDue, SeatLine.mem_frameEnds, NoticeUnit.mem_due,
      Due.command.injEq, reduceCtorEq, and_false, false_or, or_false, exists_false, Instr.showSent.injEq, Instr.levelSent.injEq,
      Instr.namesSent.injEq]
    constructor
    · rintro ⟨_, f, hf, hcmd, ht, rfl⟩
      exact ⟨f, hf, hcmd, ht⟩
    · rintro ⟨f, hf, hcmd, ht⟩
      exact ⟨i, f, hf, hcmd, ht, rfl⟩

/-- Settles O2: the idle step by what has fallen due, each block's list of it, and the taking of a request. -/
theorem idleStepTakesWhatFellDueFirst : Obligations.IdleStepTakesWhatFellDueFirst := by
  refine ⟨fun s h => ?_, fun s d => State.mem_dueNow, fun s t p q i n => ?_, fun c s => rfl, fun s p h => takeRequest_none h,
    fun s p w ws h => ⟨?_, fun i hi => takeRequest_command h hi, fun hi htakes => ?_⟩, fun i p k s h hfull => exec_request_waits h hfull⟩
  · rw [step_idle h]
    exact ⟨idle_held, idle_waits, fun d hlive hdue => idle_single hlive hdue, idle_several⟩
  · refine ⟨s.port q, s.coach.lines.get i, s.coach.notices, fun c => (t, .command c) ∈ s.due, rfl, rfl, rfl, fun _ => rfl, s.request_due, ?_, ?_,
      s.frameSendEnd_due, ?_, ?_, ?_, ?_, ?_, s.responseTimeout_due, fun cmd c hmem => s.sent_due hmem, ?_, ?_, ?_, ?_, ?_, ?_, ?_, ?_, ?_, ?_, ?_, ?_,
      fun c hc hdue => hc (requestOf_due hdue)⟩
    all_goals simp only [State.mem_due, State.mem_portDue, State.mem_crewDue, State.mem_lineDue, SeatLine.mem_frameEnds, NoticeUnit.mem_due,
      Due.command.injEq, reduceCtorEq, and_false, false_or, or_false, exists_false, and_true, Instr.frameSendStart.injEq, Port.line.injEq,
      Instr.idleCharacter.injEq, Instr.linkDown.injEq, Instr.seatFrameStart.injEq, Instr.lineStuck.injEq, Instr.stuckRelease.injEq,
      Instr.afterSecondsExpiry.injEq, exists_eq_right', not_false_eq_true]
    case refine_2.refine_1 =>
      exact ⟨fun ⟨_, hfree, hnow, hq⟩ => hq ▸ ⟨hnow, hfree⟩, fun ⟨hnow, hfree⟩ => ⟨q, hfree, hnow, rfl⟩⟩
    case refine_2.refine_2 => exact and_comm
    case refine_2.refine_3 => rw [PortState.quiet_iff, and_assoc, and_assoc]; rfl
    case refine_2.refine_7 => rw [State.mayBegin_iff, and_assoc, and_assoc]; rfl
    case refine_2.refine_8 => rw [SeatLine.running_iff]
    case refine_2.refine_11 =>
      simp only [Notice.expiresAt_eq]
      exact ⟨fun ⟨m, hm, ⟨k, f, hends, hshown, ht⟩, hid⟩ => ⟨m, hm, k, f, hid.symm, hends, hshown, ht⟩,
        fun ⟨m, hm, k, f, hid, hends, hshown, ht⟩ => ⟨m, hm, ⟨k, f, hends, hshown, ht⟩, hid.symm⟩⟩
    case refine_2.refine_14 => exact and_comm
  · rw [State.popRequest_requests, h]
    rfl
  · exact ⟨_, _, _, rfl, (takeRequest_misfit h hi).trans (congrArg Host.Outcome.next (State.takeMisfit_eq htakes.2 w.kind)), rfl, rfl⟩

end Sys2Proof.Machine
end
